-- ==== Sys2Proof/Word.lean ====
section
/-! DEFINITION. The words, the numbered things and the fixed-size tables of the HC724.

Bit vectors stand only for what the manual treats as bits: bytes and header fields of ring frames, checks, sequence
and period numbers (which wrap), tone phases and the 32-bit counters. Audio samples are signed integers (section 0.6),
gains and level codes are bounded numbers, and the numbered things (zones, slots, stations, claims, lanes) are `Fin`s. -/
namespace Sys2Proof

/-- One byte of a frame, of the configuration image or of a flash sector. -/
abbrev Byte := BitVec 8
/-- A sequence number (R3) or a CRC-16 (R159). -/
abbrev Word16 := BitVec 16
/-- A period number (R16), a CRC-32 (R3), a tone phase (R86, R146) or a counter (R204). -/
abbrev Word32 := BitVec 32

/-- A level code, 0 to 255 (section 0.6). -/
abbrev Code := Fin 256
/-- A gain, 0 to 65,535, in which 32,768 is unity (section 0.6). -/
abbrev Gain := Fin 65536

abbrev ZoneId := Fin 24
abbrev SlotId := Fin 32
abbrev StationId := Fin 32
abbrev GroupId := Fin 32
abbrev KeyId := Fin 8
abbrev ClaimId := Fin 48
abbrev CallId := Fin 16
/-- A tag of the outstanding claim file (R106). -/
abbrev TagId := Fin 8
/-- A transmit channel of the page bundle (R103). -/
abbrev TxId := Fin 4
/-- An alarm channel, and the clip player of the same number (chapter 8). -/
abbrev ChanId := Fin 2
abbrev ProgramId := Fin 8
abbrev PatternId := Fin 4
abbrev ClipId := Fin 64
abbrev LaneId := Fin 28
/-- A place of the origin table: place k belongs to node id k + 1 (section 1.5: entries 0 and 255 do not exist). -/
abbrev OriginIx := Fin 254

/-- A block: 48 consecutive samples of one source or one zone (section 0.6). -/
abbrev Block := Vector Int 48
/-- A set of zones 0 to 23: one mark a zone. -/
abbrev ZoneSet := Vector Bool 24
/-- A matrix bank: one level code for each zone and slot (section 4.1). -/
abbrev Bank := Vector (Vector Code 32) 24

/-- The entry of a table at a place. -/
def tget {α : Type} {n : Nat} (v : Vector α n) (i : Fin n) : α := v[i]

/-- The table with one entry replaced. -/
def tset {α : Type} {n : Nat} (v : Vector α n) (i : Fin n) (a : α) : Vector α n := v.set i a

/-- The table with one entry changed by a function of it. -/
def tmod {α : Type} {n : Nat} (v : Vector α n) (i : Fin n) (f : α → α) : Vector α n := tset v i (f (tget v i))

/-- The table made entry by entry from another. -/
def tmap {α β : Type} {n : Nat} (f : Fin n → α → β) (v : Vector α n) : Vector β n :=
  Vector.ofFn fun i => f i (tget v i)

/-- Silence: a block of 48 zero samples (section 0.6). -/
def silence : Block := Vector.replicate 48 0

/-- The empty zone set. -/
def noZones : ZoneSet := Vector.replicate 24 false

end Sys2Proof
end

