-- ==== Sys2Proof/Syntax.lean ====
section
/-! DEFINITION. The commands of the HC724: one constructor of `Instr` for each row of spec/opcode_table.json, and the
operands they carry. Operands that software sends are plain numbers, because the part clamps or refuses them itself;
operands that only name a place of the part (a port, a station that answered) have the place's own type.
Entries of the tables are described by their named fields, as section 0.6 says a record is. -/
namespace Sys2Proof

/-- The two ring ports (section 1.1). -/
inductive Port | a | b
  deriving DecidableEq, Repr, Inhabited

/-- The frame or change that meets another at one moment, where the manual says that either may be taken first
(R8 row 4, R43, R69, R138, R178). Each list names zones or stations whose reader does not wait for the end of the boundary,
with the moment it reads at, 0 before every change of the boundary: `mixAt` the mix engine, `speakerAt` the speaker blocks,
`lineAt`, `laneAt` and `unheardAt` stages 3, 4 and 5 of the line supervisor, each of which reads no zone before the stage
ahead of it has read them all, nor stage 4 before the mix engine has read the zone. `meanwhile` is how many further commands
fall before the end of the boundary. `holdAfter` says when stage 1 of the scene unit is taken (R69): `none` before the other
changes of the boundary, `some n` after the first n of them. `forwardFirst` puts the forward path of a frame before its take
path (R8). Log entry 2. -/
structure Race where
  mixAt : List (ZoneId × Nat)
  speakerAt : List (StationId × Nat)
  lineAt : List (ZoneId × Nat)
  laneAt : List (ZoneId × Nat)
  unheardAt : List (ZoneId × Nat)
  meanwhile : Nat
  holdAfter : Option Nat
  forwardFirst : Bool
  deriving DecidableEq, Repr, Inhabited

/-- Who may bind a ring slot (R23). -/
inductive SlotMode | static | dynamic
  deriving DecidableEq, Repr, Inhabited

/-- The class of a ring slot, as it is written (R23). -/
inductive RingClass | programClass | showClass
  deriving DecidableEq, Repr, Inhabited

/-- A binding as an entry of the SOURCE table carries it, before the clamps of R24. -/
inductive RawBinding
  | none
  | ring (origin bundle channel : Nat)
  | station (station : Nat)
  | internal
  deriving DecidableEq, Repr, Inhabited

/-- DUCK or EXCLUSIVE (R76). -/
inductive ClaimMode | duck | exclusive
  deriving DecidableEq, Repr, Inhabited

/-- ALL or BEST (R76). -/
inductive Policy | all | best
  deriving DecidableEq, Repr, Inhabited

/-- The writable fields of a SOURCE row (R24). -/
structure SourceEntry where
  mode : SlotMode
  binding : RawBinding
  cls : RingClass
  trim : Code
  deriving DecidableEq, Repr, Inhabited

/-- The writable fields of a ZONE row (R36). -/
structure ZoneEntry where
  enabled : Bool
  master : Code
  claimLevel : Code
  duck : Code
  alarmLevel : Code
  limiter : Nat
  release : Nat
  showZone : Bool
  showStop : Nat
  backup : Option Nat
  pilot : Fin 65536
  openLimit : Nat
  shortLimit : Nat
  nominalLow : Nat
  nominalHigh : Nat
  supervision : Bool
  deriving DecidableEq, Repr, Inhabited

/-- A peer of a group: a node id and a group of that node (R97). -/
structure PeerRef where
  node : Nat
  group : Nat
  deriving DecidableEq, Repr, Inhabited

/-- A row of the GROUP table (R97). -/
structure GroupEntry where
  zones : ZoneSet
  peers : List PeerRef
  deriving DecidableEq, Repr, Inhabited

/-- A row of the CHIME table (R85). -/
structure ChimeEntry where
  freq : Nat
  amp : Code
  duration : Nat
  deriving DecidableEq, Repr, Inhabited

/-- The writable fields of a STATION row (R125). The page hold limit is in seconds. -/
structure StationEntry where
  home : Nat
  volume : Code
  maxPriority : Nat
  holdSeconds : Nat
  alarmAuthority : Bool
  standaloneAuthority : Bool
  deriving DecidableEq, Repr, Inhabited

/-- A key map entry (R126); `unknown` is a function code that is none of the manual's. `latch` is the behaviour LATCH. -/
inductive KeyFn
  | none
  | call (station : Nat)
  | answer
  | endCall
  | join (conference : Nat)
  | page (group priority : Nat) (mode : ClaimMode) (policy : Policy) (chime latch : Bool)
  | alarmStart (program group : Nat)
  | alarmStop (program : Nat)
  | unknown
  deriving DecidableEq, Repr, Inhabited

/-- A function code of the key map (R126); `unknown` is a code that is none of the manual's. -/
inductive KeyCode | none | call | answer | endCall | join | page | alarmStart | alarmStop | unknown
  deriving DecidableEq, Repr, Inhabited

/-- Every argument that a key map entry may hold (R126), as WRITE-FIELDS names them one by one. -/
structure KeyArguments where
  station : Nat
  conference : Nat
  group : Nat
  priority : Nat
  mode : ClaimMode
  policy : Policy
  chime : Bool
  latch : Bool
  program : Nat
  deriving DecidableEq, Repr, Inhabited

/-- A step of an alarm program (R143); `unknown` is a step kind code that is none of the manual's. -/
inductive AlarmStep
  | tone (freq : Nat) (amp : Code) (onPeriods offPeriods : Nat)
  | clip (clip : Nat)
  | repeatTo (target : Nat) (count : Fin 256)
  | silent (periods : Nat)
  | stop
  | unknown
  deriving DecidableEq, Repr, Inhabited

/-- A row of the ALARM-PROGRAM table (R143). -/
structure ProgramEntry where
  rank : Nat
  defaultGroup : Nat
  steps : List AlarmStep
  deriving DecidableEq, Repr, Inhabited

/-- The action of a pattern slot (R158). -/
inductive PatternAction
  | start (program group : Nat)
  | stop (program : Nat)
  deriving DecidableEq, Repr, Inhabited

/-- A row of the PATTERN table (R158). -/
structure PatternEntry where
  enabled : Bool
  mask : Vector Bool 64
  crc : Word16
  origin : Fin 256
  action : PatternAction
  chained : Bool
  deriving DecidableEq, Repr, Inhabited

/-- The writable fields of the NODE record (R192); a controller place of 0 is empty. -/
structure NodeEntry where
  controllerA : Fin 256
  controllerB : Fin 256
  timeout : Nat
  answerTimeout : Nat
  ringLimit : Nat
  reportInterval : Nat
  deriving DecidableEq, Repr, Inhabited

/-- One whole entry of a table, in the table's entry form. `foreign` is an entry whose length is that of none of the
writable tables (R194, malformed entry). -/
inductive Entry
  | source (e : SourceEntry)
  | level (c : Code)
  | gain (g : Gain)
  | zone (e : ZoneEntry)
  | group (e : GroupEntry)
  | chime (e : ChimeEntry)
  | station (e : StationEntry)
  | key (e : KeyFn)
  | program (e : ProgramEntry)
  | pattern (e : PatternEntry)
  | node (e : NodeEntry)
  | foreign
  deriving DecidableEq, Repr, Inhabited

/-- One named field of an entry with its value, as WRITE-FIELDS carries it (R194). `readOnly` names a field of the
table that the manual calls read-only; `unknown` names no field of the table. -/
inductive Field
  | sourceMode (m : SlotMode)
  | sourceBinding (b : RawBinding)
  | sourceClass (c : RingClass)
  | sourceTrim (c : Code)
  | level (c : Code)
  | gain (g : Gain)
  | zoneEnabled (b : Bool)
  | zoneMaster (c : Code)
  | zoneClaimLevel (c : Code)
  | zoneDuck (c : Code)
  | zoneAlarmLevel (c : Code)
  | zoneLimiter (n : Nat)
  | zoneRelease (n : Nat)
  | zoneShow (b : Bool)
  | zoneShowStop (n : Nat)
  | zoneBackup (n : Option Nat)
  | zonePilot (n : Fin 65536)
  | zoneOpen (n : Nat)
  | zoneShort (n : Nat)
  | zoneNominalLow (n : Nat)
  | zoneNominalHigh (n : Nat)
  | zoneSupervision (b : Bool)
  | groupZones (z : ZoneSet)
  | groupPeers (l : List PeerRef)
  | chimeFreq (n : Nat)
  | chimeAmp (c : Code)
  | chimeDuration (n : Nat)
  | stationHome (n : Nat)
  | stationVolume (c : Code)
  | stationMaxPriority (n : Nat)
  | stationHold (n : Nat)
  | stationAlarm (b : Bool)
  | stationStandalone (b : Bool)
  | keyFunction (c : KeyCode)
  | keyStation (n : Nat)
  | keyConference (n : Nat)
  | keyGroup (n : Nat)
  | keyPriority (n : Nat)
  | keyMode (m : ClaimMode)
  | keyPolicy (p : Policy)
  | keyChime (b : Bool)
  | keyLatch (b : Bool)
  | keyProgram (n : Nat)
  | programRank (n : Nat)
  | programGroup (n : Nat)
  | programSteps (l : List AlarmStep)
  | patternEnabled (b : Bool)
  | patternMask (m : Vector Bool 64)
  | patternCrc (c : Word16)
  | patternOrigin (n : Fin 256)
  | patternAction (a : PatternAction)
  | patternChained (b : Bool)
  | nodeControllers (x y : Fin 256)
  | nodeTimeout (n : Nat)
  | nodeAnswer (n : Nat)
  | nodeRing (n : Nat)
  | nodeInterval (n : Nat)
  | readOnly
  | unknown
  deriving DecidableEq, Repr, Inhabited

/-- The tables the interpreter reaches (section 11.2). -/
inductive TableName
  | source | matrix | matrixActive | taper | zone | group | chime | station | keymap | alarmProgram | pattern | node
  | claim | call | alarmList | clipDir | line | counters
  deriving DecidableEq, Repr, Inhabited

/-- The advance order of the access window (R193). -/
inductive Advance | rowFirst | columnFirst
  deriving DecidableEq, Repr, Inhabited

/-- The action of a cue as CUE-ADD carries it (R60, R61): the zone and the slot are not yet checked. -/
inductive CueAction
  | swap
  | level (zone slot : Nat) (target : Code) (periods : Fin 65536)
  | master (zone : Nat) (target : Code) (periods : Fin 65536)
  deriving DecidableEq, Repr, Inhabited

/-- What a fade moves: a crosspoint of ACTIVE or the master code of a zone (section 4.5). -/
inductive FadeTarget
  | crosspoint (z : ZoneId) (s : SlotId)
  | master (z : ZoneId)
  deriving DecidableEq, Repr, Inhabited

/-- The amplifier state of a return (R180). -/
inductive AmpState | ok | overtemp | fault | muted
  deriving DecidableEq, Repr, Inhabited

/-- The state of a clip (R163). `opened` is OPEN. -/
inductive ClipState | empty | opened | ready | bad
  deriving DecidableEq, Repr, Inhabited

/-- An entry of the clip directory (R163), without its number. -/
structure DirEntry where
  state : ClipState
  first : Nat
  sectors : Nat
  samples : Nat
  written : Nat
  deriving DecidableEq, Repr, Inhabited

/-- The writable tables, in the entry forms that WRITE uses: what the body of a configuration image holds
(section 11.5). -/
structure ImageTables where
  node : NodeEntry
  sources : Vector SourceEntry 23
  zones : Vector ZoneEntry 24
  taper : Vector Gain 256
  bank : Bank
  groups : Vector GroupEntry 32
  chime : Vector ChimeEntry 4
  stations : Vector StationEntry 32
  keys : Vector (Vector KeyFn 8) 32
  programs : Vector ProgramEntry 8
  patterns : Vector PatternEntry 4
  deriving DecidableEq, Repr, Inhabited

/-- The commands of the HC724, one constructor for each row of spec/opcode_table.json, in the table's order. -/
inductive Instr
  /-- POWER_ON_RESET (R22), with the straps as they stand. -/
  | powerOnReset (straps : Byte)
  /-- SIGNAL_DETECTED (R1). -/
  | signalDetected (port : Port)
  /-- TRAINING_COMPLETE (R1). -/
  | trainingComplete (port : Port)
  /-- TRAINING_TIMEOUT (R1). -/
  | trainingTimeout (port : Port)
  /-- SIGNAL_LOST (R1, R2); `midFrame` says that the reception of a frame is cut off. -/
  | signalLost (port : Port) (midFrame : Bool)
  /-- FRAME_RECEIVED (R7): the bytes of a whole frame. -/
  | frameReceived (port : Port) (bytes : List Byte) (race : Race)
  /-- FRAME_TRANSMIT_COMPLETE (R15). -/
  | frameTransmitComplete (port : Port)
  /-- LOCAL_BOUNDARY (R18). -/
  | localBoundary (race : Race)
  /-- RELABEL_WINDOW_CLOSE (R17). -/
  | relabelWindowClose
  /-- ORIGIN_ENTRY_AGE_OUT (R11). -/
  | originEntryAgeOut (entry : OriginIx)
  /-- MIC_BLOCK_ARRIVAL (R123). -/
  | micBlockArrival (station : StationId) (block : Block)
  /-- SOURCE_LOST (R32). -/
  | sourceLost (slot : SlotId)
  /-- FADE_COMPLETE (R67). -/
  | fadeComplete (target : FadeTarget)
  /-- CUE_FIRE (R64). -/
  | cueFire
  /-- CLAIM_REQUEST_TAKE (R80). -/
  | claimRequestTake
  /-- CHIME_NOTE_END (R86). -/
  | chimeNoteEnd
  /-- CHIME_EXPIRY (R87). -/
  | chimeExpiry (claim : ClaimId)
  /-- HOLD_TIMEOUT (R93). -/
  | holdTimeout (claim : ClaimId)
  /-- RESERVE_DEADLINE (R107). -/
  | reserveDeadline (tag : TagId)
  /-- COMMIT_DEADLINE (R109). -/
  | commitDeadline (tag : TagId)
  /-- RELEASE_DEADLINE (R110). -/
  | releaseDeadline (tag : TagId)
  /-- RESERVE_SERVICE (R113). -/
  | reserveService
  /-- SCAN_START (R121). -/
  | scanStart
  /-- POLL_ANSWER (R122): the state of each key, pressed or released. -/
  | pollAnswer (station : StationId) (keys : Vector Bool 8)
  /-- MISSED_SCAN (R122). -/
  | missedScan (station : StationId)
  /-- STATION_ABSENT (R133). -/
  | stationAbsent (station : StationId)
  /-- CALL_NO_ANSWER (R130). -/
  | callNoAnswer (call : CallId)
  /-- FLASH_TIMER_EXPIRY (R139). -/
  | flashTimerExpiry (station : StationId) (key : KeyId)
  /-- TONE_STEP_END (R144). -/
  | toneStepEnd (channel : ChanId)
  /-- SILENCE_STEP_END (R144). -/
  | silenceStepEnd (channel : ChanId)
  /-- FLASH_READ_COMPLETE (R170): the 4096 bytes the flash device gives. -/
  | flashReadComplete (data : List Byte)
  /-- FLASH_WRITE_COMPLETE (R170). -/
  | flashWriteComplete
  /-- PLAY_COMPLETE (R172); `channelFirst` puts the alarm channel's work of the boundary before the completion. -/
  | playComplete (player : ChanId) (channelFirst : Bool)
  /-- AMP_RETURN (R180). -/
  | ampReturn (lane : LaneId) (load : Fin 1024) (state : AmpState)
  /-- WINDOW_CLOSE (R181). -/
  | windowClose
  /-- CONTROL_FRAME_START (R190). -/
  | controlFrameStart
  /-- STANDALONE_ENTRY (R191). -/
  | standaloneEntry
  /-- SELECT (R193); `none` is a table the part does not know. -/
  | select (table : Option TableName) (row column : Nat)
  /-- WINDOW (R193). -/
  | window (table : Option TableName) (firstRow lastRow firstColumn lastColumn : Nat) (advance : Advance)
  /-- WRITE (R194). -/
  | write (entries : List Entry)
  /-- WRITE_FIELDS (R194). -/
  | writeFields (fields : List Field)
  /-- WRITE_IF (R195). -/
  | writeIf (compare new : Entry)
  /-- READ (R195). -/
  | read (n : Nat) (clear : Bool)
  /-- CLAIM_START (R196). -/
  | claimStart (slot group priority : Nat) (mode : ClaimMode) (policy : Policy) (chime : Bool) (hold : Nat)
  /-- CLAIM_END (R92). -/
  | claimEnd (claim : Nat)
  /-- PLAY_CLIP (R174). -/
  | playClip (clip group priority : Nat) (mode : ClaimMode) (policy : Policy) (chime : Bool)
  /-- ALARM_START (R150). -/
  | alarmStart (program group : Nat)
  /-- ALARM_STOP (R152). -/
  | alarmStop (program : Nat)
  /-- BANK_SWAP (R59). -/
  | bankSwap
  /-- CUE_ADD (R61). -/
  | cueAdd (number : Fin 256) (due : Word32) (action : CueAction)
  /-- CUE_CLEAR (R62); `none` clears every cue. -/
  | cueClear (number : Option (Fin 256))
  /-- CLIP_OPEN (R165). -/
  | clipOpen (clip samples : Nat)
  /-- CLIP_WRITE (R166). -/
  | clipWrite (clip index : Nat) (data : List Byte)
  /-- CLIP_CLOSE (R167). -/
  | clipClose (clip : Nat)
  /-- CLIP_DELETE (R168). -/
  | clipDelete (clip : Nat)
  /-- SAVE_IMAGE (R199). -/
  | saveImage
  /-- SOFT_RESET (R200). -/
  | softReset
  /-- RELOAD (R200). -/
  | reload
  /-- REPORT_EMISSION (R203). -/
  | reportEmission
  deriving DecidableEq, Repr, Inhabited

end Sys2Proof
end

