-- ==== Sys2Proof/Machine/State.lean ====
section
/-! DEFINITION. The state of the HC724, block by block (section 0.3), the three outcomes' reasons, and the state after
reset. Plain data throughout. A field that is the model's own and no state of the manual says so. -/
namespace Sys2Proof.Machine

/-- No command of this part stops the machine: the manual gives every row of the table an effect, and an event that has
not happened changes nothing (log entry 4). The type has no constructor; safe. -/
inductive Fault
  deriving DecidableEq, Repr

/-- Why a step has no meaning. -/
inductive Refusal
  /-- Raised by `exec` alone, for a row of the table that has no meaning yet; safe. No arm raises it. -/
  | notModelled (mnemonic : String)
  deriving DecidableEq, Repr

/-! ### Source slots (chapter 2) -/

/-- Where the block of a slot comes from (R23). -/
inductive Binding
  | unbound
  | ring (origin bundle channel : Nat)
  | station (station : StationId)
  | internal
  deriving DecidableEq, Repr, Inhabited

/-- The class of a slot (R23). -/
inductive SlotClass | programClass | showClass | voiceClass
  deriving DecidableEq, Repr, Inhabited

/-- The judgment made of a slot at the last boundary (R31). -/
inductive Health | live | late | muted | lost
  deriving DecidableEq, Repr, Inhabited

/-- A slot record (R23); `mode` is `none` for slots 23 to 31, which have no mode. -/
structure Slot where
  binding : Binding
  mode : Option SlotMode
  cls : SlotClass
  trim : Code
  health : Health
  miss : Nat
  fresh : Bool
  block : Block
  deriving DecidableEq, Repr, Inhabited

/-! ### The zone mix (chapter 3) -/

/-- A zone record: its writable fields and the limiter gain Lg (R36). -/
structure Zone where
  cfg : ZoneEntry
  gain : Nat
  deriving DecidableEq, Repr, Inhabited

/-- The mix engine's state: the zone table and the taper table, and the zone blocks it handed over last (R43). -/
structure Mix where
  zones : Vector Zone 24
  taper : Vector Gain 256
  zoneOut : Vector Block 24
  deriving DecidableEq, Repr, Inhabited

/-! ### Scenes, cues and fades (chapter 4) -/

/-- What a cue in the list does (R60): its zone and slot are checked by now (R61). -/
inductive CueEffect
  | swap
  | level (z : ZoneId) (s : SlotId) (target : Code) (periods : Nat)
  | master (z : ZoneId) (target : Code) (periods : Nat)
  deriving DecidableEq, Repr, Inhabited

/-- A cue (R60). -/
structure Cue where
  number : Fin 256
  due : Word32
  action : CueEffect
  deriving DecidableEq, Repr, Inhabited

/-- A fade (section 4.5). -/
structure Fade where
  target : FadeTarget
  start : Code
  goal : Code
  total : Nat
  elapsed : Nat
  deriving DecidableEq, Repr, Inhabited

/-- The scene unit's state (R58, R60, R66, R69). The suspension is the held-zone set's being non-empty (R70). -/
structure Scene where
  active : Bank
  staged : Bank
  cues : List Cue
  fades : List Fade
  held : ZoneSet
  deriving DecidableEq, Repr, Inhabited

/-! ### Zone claims (chapter 5) -/

/-- The party that asked for a claim (R76). -/
inductive Owner
  | station (st : StationId)
  | management
  | alarm (ch : ChanId)
  | peer (node tag : Nat)
  deriving DecidableEq, Repr, Inhabited

/-- RESERVING or LIVE (R76). -/
inductive ClaimState | reserving | live
  deriving DecidableEq, Repr, Inhabited

/-- A claim (R76). `noPeers` is the mark of R80, check 3: the claim went on without peers; `handed` is the number of
outstanding claim file entries the claim was handed on with (R102, R107). -/
structure Claim where
  owner : Owner
  priority : Nat
  rank : Nat
  mode : ClaimMode
  policy : Policy
  slot : SlotId
  chime : Bool
  group : Option GroupId
  target : ZoneSet
  state : ClaimState
  timer : Nat
  waiting : Bool
  lost : Nat
  hold : Option Nat
  elapsed : Nat
  noPeers : Bool
  handed : Nat
  deriving DecidableEq, Repr, Inhabited

/-- An entry of a zone's claim list (section 5.2): `live` is LIVE, else RESERVED. -/
structure ListEntry where
  claim : ClaimId
  live : Bool
  intact : Bool
  deriving DecidableEq, Repr, Inhabited

/-- The zones a start request asks for (R80). -/
inductive RequestTarget
  | group (g : GroupId)
  | zones (zs : ZoneSet)
  deriving DecidableEq, Repr, Inhabited

/-- A start request (R80). `slot` is `none` for a station page. `framed` says that the request belongs to the CONTROL
frame in service, whose next operation waits for its answer (R190). -/
structure StartRequest where
  owner : Owner
  priority : Nat
  rank : Nat
  mode : ClaimMode
  policy : Policy
  chime : Bool
  slot : Option SlotId
  target : RequestTarget
  hold : Nat
  framed : Bool
  deriving DecidableEq, Repr, Inhabited

/-- A request of the claim request queue (R79, R94). -/
inductive Request
  | start (r : StartRequest)
  | gain (ch : ChanId) (claim : ClaimId) (zones : ZoneSet)
  deriving DecidableEq, Repr, Inhabited

/-- The chime generator (R86): `note` is the current row and the periods played of it, `none` when idle. -/
structure ChimeGen where
  note : Option (Fin 4 × Nat)
  phase : Word32
  deriving DecidableEq, Repr, Inhabited

/-- A zone state (R96). -/
inductive ZoneState | free | chiming | shared | exclusive | alarm
  deriving DecidableEq, Repr, Inhabited

/-- The claim unit's state (R76 to R97). -/
structure Claims where
  table : Vector (Option Claim) 48
  lists : Vector (List ListEntry) 24
  queue : List Request
  groups : Vector GroupEntry 32
  chimeTable : Vector ChimeEntry 4
  chimeGen : ChimeGen
  reported : Vector ZoneState 24
  deriving DecidableEq, Repr, Inhabited

/-! ### Claims between nodes (chapter 6) -/

/-- The state of an outstanding claim file entry that is not FREE (section 6.4). -/
inductive OutState | reserveSent | reserved | commitSent | live | releaseSent
  deriving DecidableEq, Repr, Inhabited

/-- An outstanding claim file entry that is not FREE (section 6.4). -/
structure OutEntry where
  state : OutState
  claim : ClaimId
  peer : Nat
  group : Nat
  channel : Option TxId
  deadline : Word32
  deriving DecidableEq, Repr, Inhabited

/-- An allocated transmit channel record (R103). -/
structure TxRecord where
  claim : ClaimId
  slot : SlotId
  hold : Bool
  peers : Nat
  deriving DecidableEq, Repr, Inhabited

/-- A RESERVE from another node, as its fields came (R105). -/
structure InReserve where
  origin : Nat
  tag : Nat
  group : Nat
  priority : Nat
  mode : ClaimMode
  policy : Policy
  chime : Bool
  audioOrigin : Nat
  audioBundle : Nat
  audioChannel : Nat
  deriving DecidableEq, Repr, Inhabited

/-- The RESERVE in service, with the DYNAMIC slot bound for it (R113). -/
structure InService where
  reserve : InReserve
  slot : SlotId
  deriving DecidableEq, Repr, Inhabited

/-- The peer unit's state (section 6.0): the outstanding claim file, the transmit channel table, the inbound claim
queue and the RESERVE in service. -/
structure Peer where
  file : Vector (Option OutEntry) 8
  tx : Vector (Option TxRecord) 4
  inbound : List InReserve
  service : Option InService
  deriving DecidableEq, Repr, Inhabited

/-! ### Crew stations (chapter 7) -/

/-- A key: its debounced state, and whether a change to the opposite state is pending (R124). -/
structure KeyState where
  down : Bool
  pending : Bool
  deriving DecidableEq, Repr, Inhabited

/-- A page in progress (section 7.4): the key that started it, whether the page records LATCH, and the claim id, `none`
while the request waits in the claim request queue. -/
structure Page where
  key : KeyId
  latch : Bool
  claim : Option ClaimId
  deriving DecidableEq, Repr, Inhabited

/-- A lamp state (R139). -/
inductive Lamp | off | on | flashSlow | flashFast
  deriving DecidableEq, Repr, Inhabited

/-- What a poll carries to a station (R121). -/
structure Poll where
  lamps : Vector Lamp 8
  ringer : Bool
  deriving DecidableEq, Repr, Inhabited

/-- A station: its STATION row, presence, missed-scan count, keys, ringer flag, page in progress, microphone block,
speaker block, flash timers, and the poll sent to it last (R121 to R125, R139). -/
structure Station where
  cfg : StationEntry
  present : Bool
  missed : Nat
  keys : Vector KeyState 8
  ringer : Bool
  page : Option Page
  mic : Block
  speaker : Block
  flash : Vector Nat 8
  poll : Poll
  deriving DecidableEq, Repr, Inhabited

/-- A member state (R128). `within` is IN. -/
inductive MemberState | calling | ringing | within | held
  deriving DecidableEq, Repr, Inhabited

/-- POINT or CONF with its number (R128). -/
inductive CallKind
  | point
  | conf (number : Nat)
  deriving DecidableEq, Repr, Inhabited

/-- A call (R128): `connected` is CONNECTED, else RINGING; members in order of joining. -/
structure Call where
  kind : CallKind
  connected : Bool
  members : List (StationId × MemberState)
  deadline : Nat
  deriving DecidableEq, Repr, Inhabited

/-- The intercom controller's state (chapter 7). -/
structure Intercom where
  stations : Vector Station 32
  keymap : Vector (Vector KeyFn 8) 32
  calls : Vector (Option Call) 16
  phase : Nat
  deriving DecidableEq, Repr, Inhabited

/-! ### The alarm sequencer (chapter 8) -/

/-- An entry of the alarm request list (R147): `channel` is `none` while it is WAITING. -/
structure AlarmEntry where
  program : ProgramId
  zones : ZoneSet
  channel : Option ChanId
  arrival : Nat
  deriving DecidableEq, Repr, Inhabited

/-- The request of a channel that waits in the claim request queue (R148). -/
inductive ChannelRequest | none | start | gain
  deriving DecidableEq, Repr, Inhabited

/-- An alarm channel (R148). `stalled` says that it stopped at its step without entering it (R144, the limit of 16). -/
structure Channel where
  program : Option ProgramId
  claim : Option ClaimId
  request : ChannelRequest
  owed : ZoneSet
  step : Nat
  stalled : Bool
  onCount : Nat
  offCount : Nat
  silenceCount : Nat
  repeats : Vector (Fin 256) 16
  phase : Word32
  deriving DecidableEq, Repr, Inhabited

/-- The alarm sequencer's state (chapter 8). `arrivals` numbers the entries as they are inserted. -/
structure Alarm where
  programs : Vector ProgramEntry 8
  list : List AlarmEntry
  channels : Vector Channel 2
  patterns : Vector PatternEntry 4
  arrivals : Nat
  deriving DecidableEq, Repr, Inhabited

/-! ### The clip store (chapter 9) -/

/-- Who asked for a sector read (R170). `nobody` is a requester that has gone: the data is discarded (R173). -/
inductive Reader
  | player (p : ChanId) (sector : Nat)
  | image (index : Nat)
  | directory (index : Nat)
  | nobody
  deriving DecidableEq, Repr, Inhabited

/-- A read request: the flash sector and the moment it was requested, by request number (R170). -/
structure ReadRequest where
  reader : Reader
  sector : Nat
  stamp : Nat
  deriving DecidableEq, Repr, Inhabited

/-- The kind of a write request, with its content (R169): an image write carries the image as it was prepared at the
command. -/
inductive WriteKind
  | clip (sector : Nat) (data : List Byte)
  | directory
  | image (bytes : List Byte)
  deriving DecidableEq, Repr, Inhabited

/-- A write request: the sectors completed, whether it has begun, and its request number (R169, R170). -/
structure WriteRequest where
  kind : WriteKind
  finished : Nat
  begun : Bool
  stamp : Nat
  deriving DecidableEq, Repr, Inhabited

/-- The operation in flight at the flash port (R170), a write with the bytes that go into its sector. -/
inductive FlashOp
  | read (r : ReadRequest)
  | write (sector : Nat) (data : List Byte)
  deriving DecidableEq, Repr, Inhabited

/-- IDLE, STARTING or PLAYING (R171). -/
inductive PlayerState | idle | starting | playing
  deriving DecidableEq, Repr, Inhabited

/-- The owner of a clip player (R171). The claim of a management playback is `none` until the claim is created (R174). -/
inductive PlayerOwner
  | none
  | alarm (ch : ChanId)
  | management (claim : Option ClaimId)
  deriving DecidableEq, Repr, Inhabited

/-- A sector buffer (R171): the clip sector it holds or awaits, the filled flag and the bytes. -/
structure Buffer where
  sector : Option Nat
  filled : Bool
  data : List Byte
  deriving DecidableEq, Repr, Inhabited

/-- A clip player (R171). -/
structure Player where
  state : PlayerState
  owner : PlayerOwner
  clip : ClipId
  samples : Nat
  sectors : Nat
  first : Nat
  position : Nat
  buffers : Vector Buffer 2
  deriving DecidableEq, Repr, Inhabited

/-- The clip store's state (chapter 9). `stamp` numbers the requests of the flash port as they are made. -/
structure Clips where
  directory : Vector DirEntry 64
  writtenSet : List Nat
  writes : List WriteRequest
  reads : List ReadRequest
  inFlight : Option FlashOp
  players : Vector Player 2
  stamp : Nat
  deriving DecidableEq, Repr, Inhabited

/-! ### Loudspeaker lanes (chapter 10) -/

/-- A verdict (R181). -/
inductive Verdict | normal | degraded | openLine | short | ampFault | ampAbsent
  deriving DecidableEq, Repr, Inhabited

/-- A line state (R177): UNKNOWN, or the verdict it follows. -/
abbrev LineState := Option Verdict

/-- A lane record (R177). -/
structure LaneRecord where
  state : LineState
  lastVerdict : Option Verdict
  loadSum : Nat
  returns : Nat
  faultSeen : Bool
  overtempSeen : Bool
  overtemp : Bool
  whole : Bool
  served : Option ZoneId
  deriving DecidableEq, Repr, Inhabited

/-- A lane: its record, and the return collected in the period now running (R180). -/
structure Lane where
  record : LaneRecord
  back : Option (Fin 1024 × AmpState)
  deriving DecidableEq, Repr, Inhabited

/-- The line supervisor's state (R177, R185) and the lane blocks it sent last (R178). `freshStart` says that no boundary
has been taken since LOADING ended (R186). -/
structure Lines where
  lanes : Vector Lane 28
  unheard : ZoneSet
  windowCount : Nat
  laneOut : Vector Block 28
  freshStart : Bool
  deriving DecidableEq, Repr, Inhabited

/-! ### Reports, operations and frames (chapters 11, 12 and 1) -/

/-- The report kinds, in the order of their codes 1 to 25 (section 12.1). -/
inductive ReportKind
  | linkChange | holdover | sourceLost | sourceLive | zoneState | claimEnd | claimPartial | showHold | alarmStarted
  | alarmStopped | alarmDiscarded | alarmRefused | clipMissing | alarmUnheard | lineState | failover | restore
  | stationPresence | callEnd | keyRefused | clipState | patternMatch | standalone | imageInvalid | fadeCancelled
  deriving DecidableEq, Repr, Inhabited

/-- A report record (section 12.1). -/
structure Report where
  kind : ReportKind
  subject : Nat
  value : Nat
  period : Word32
  deriving DecidableEq, Repr, Inhabited

/-- The operating mode (section 0.5). -/
inductive Mode | unaddressed | loading | run | standalone
  deriving DecidableEq, Repr, Inhabited

/-- The reason a claim ends with (R91). -/
inductive EndReason | released | timeout | preempted | refused | sourceLost | stopped | complete | reset
  deriving DecidableEq, Repr, Inhabited

/-- The result codes of operations (R194 to R196). -/
inductive ResultCode
  | ok | outOfRange | readOnly | inUse | busy | notFound | exists | noSpace | notReady | empty | alarmActive | hit | miss
  deriving DecidableEq, Repr, Inhabited

/-- One entry as a READ returns it (R195), in the form of its table. -/
inductive ReadEntry
  | source (slot : SlotId) (binding : Binding) (mode : Option SlotMode) (cls : SlotClass) (trim : Code) (health : Health)
      (miss : Nat)
  | level (c : Code)
  | gain (g : Gain)
  | zone (z : ZoneId) (r : Zone)
  | group (g : GroupId) (e : GroupEntry)
  | chime (e : ChimeEntry)
  | station (st : StationId) (cfg : StationEntry) (present : Bool) (missed : Nat) (keys : Vector Bool 8) (ringer : Bool)
      (page : Option Page)
  | key (k : KeyFn)
  | program (p : ProgramId) (e : ProgramEntry)
  | pattern (e : PatternEntry)
  | node (e : NodeEntry) (id : Nat) (mode : Mode)
  | claim (id : ClaimId) (c : Option Claim)
  | claimList (z : ZoneId) (entries : List ListEntry) (state : ZoneState)
  | outstanding (tag : TagId) (e : Option OutEntry)
  | channel (k : TxId) (r : Option TxRecord)
  | call (id : CallId) (c : Option Call)
  | alarm (e : Option AlarmEntry) (step : Option Nat) (claim : Option ClaimId)
  | clip (c : ClipId) (e : DirEntry)
  | lane (l : LaneId) (r : LaneRecord) (carrier : Option LaneId) (unheard : Option Bool)
  | counter (v : Word32)
  deriving DecidableEq, Repr, Inhabited

/-- What a result carries beside its code (R197). -/
inductive ResultData
  | none
  | taken (n : Nat)
  | entries (table : TableName) (l : List ReadEntry)
  | missed (table : TableName) (e : ReadEntry)
  | claim (id : Option ClaimId) (reason : Option EndReason)
  deriving DecidableEq, Repr, Inhabited

/-- One result of a REPLY (R197): the operation index, the code and the data. -/
structure Result where
  index : Nat
  code : ResultCode
  data : ResultData
  deriving DecidableEq, Repr, Inhabited

/-- The payload of a REPLY (R197). -/
structure Reply where
  frameNumber : Nat
  results : List Result
  overflow : Bool
  deriving DecidableEq, Repr, Inhabited

/-- The payload of a frame: its bytes, or the fields of a REPLY or REPORT payload, for which the manual gives no byte
layout (log entry 3). -/
inductive Body
  | bytes (b : List Byte)
  | reply (r : Reply)
  | report (records : List Report) (overflow : Bool)
  deriving DecidableEq, Repr, Inhabited

/-- A frame (section 1.3). Its payload length and its check follow from the other fields (R3). -/
structure Frame where
  kind : Byte
  origin : Nat
  dest : Nat
  seq : Word16
  hop : Nat
  body : Body
  deriving DecidableEq, Repr, Inhabited

/-- A link state (section 1.2). -/
inductive LinkState | down | training | up
  deriving DecidableEq, Repr, Inhabited

/-- A ring port: its link state, its output queue, and the frame its transmitter is sending (R14, R15). -/
structure RingPort where
  link : LinkState
  queue : List Frame
  sending : Option Frame
  deriving DecidableEq, Repr, Inhabited

/-- An entry of the origin table (section 1.5). -/
structure OriginEntry where
  valid : Bool
  last : Word16
  age : Nat
  deriving DecidableEq, Repr, Inhabited

/-- LOCKED or HOLDOVER (section 1.7). -/
inductive Timing | locked | holdover
  deriving DecidableEq, Repr, Inhabited

/-- The ring state (R22). -/
structure Ring where
  nodeId : Nat
  portA : RingPort
  portB : RingPort
  origins : Vector OriginEntry 254
  seq : Word16
  period : Word32
  timing : Timing
  master : Nat
  window : Bool
  deriving DecidableEq, Repr, Inhabited

/-! ### The control interpreter and the report unit (chapters 11 and 12) -/

/-- The access pointer and its window (R193). -/
structure Pointer where
  table : TableName
  row : Nat
  column : Nat
  firstRow : Nat
  lastRow : Nat
  firstColumn : Nat
  lastColumn : Nat
  advance : Advance
  deriving DecidableEq, Repr, Inhabited

/-- A CONTROL frame that waits: its origin and its payload (R190). -/
structure ControlFrame where
  origin : Nat
  payload : List Byte
  deriving DecidableEq, Repr, Inhabited

/-- The frame in service, with its results gathered so far (section 11.0): its origin, frame number, operation count,
the number of its operations that can be decoded, the index of the next one, the results placed, the overflow flag
(R197), and whether the operation before waits for another block's answer (R190). -/
structure ControlService where
  origin : Nat
  frameNumber : Nat
  count : Nat
  decodable : Nat
  index : Nat
  results : List Result
  overflow : Bool
  waiting : Bool
  deriving DecidableEq, Repr, Inhabited

/-- An image load in progress (R198): whether the directory follows (at power-on), the image bytes read so far, the
tables to install once the image has been judged, and the bytes of directory sector 8 once they are read. -/
structure Load where
  withDirectory : Bool
  image : List Byte
  tables : Option ImageTables
  sector8 : List Byte
  deriving DecidableEq, Repr, Inhabited

/-- The control interpreter's state (chapter 11). `answer` is the model's own: the result of the operation carried out
last, whether or not a REPLY will carry it. -/
structure Control where
  mode : Mode
  node : NodeEntry
  timer : Nat
  pointer : Pointer
  queue : List ControlFrame
  service : Option ControlService
  saving : Bool
  load : Option Load
  answer : Result
  deriving DecidableEq, Repr, Inhabited

/-- The report unit's state (R202, R203). -/
structure Reports where
  queue : List Report
  overflow : Bool
  interval : Nat
  deriving DecidableEq, Repr, Inhabited

/-! ### The boundary in progress -/

/-- A change that a boundary (or, for `stationAbsent`, a poll outcome) has made due, and that is a row of its own in
spec/opcode_table.json: it is carried out when its command is taken, and before any other command (log entry 1).
`sceneWork` alone is no row: it is the scene unit's stages 1 and 2 where the race operand puts them after other changes of
the boundary (R69; log entry 2). -/
inductive Due
  | sceneWork
  | originAgeOut (k : OriginIx)
  | sourceLost (s : SlotId)
  | fadeComplete (t : FadeTarget)
  | cueFire
  | chimeNoteEnd
  | holdTimeout (c : ClaimId)
  | chimeExpiry (c : ClaimId)
  | reserveDeadline (t : TagId)
  | commitDeadline (t : TagId)
  | releaseDeadline (t : TagId)
  | scanStart
  | callNoAnswer (c : CallId)
  | flashTimer (st : StationId) (k : KeyId)
  | stationAbsent (st : StationId)
  | toneStepEnd (ch : ChanId)
  | silenceStepEnd (ch : ChanId)
  | playComplete (p : ChanId)
  | windowClose
  | standaloneEntry
  | reportEmission
  deriving DecidableEq, Repr, Inhabited

/-- What the mix engine, the speaker blocks and the line supervisor read at one moment of a boundary (R43, R138, R178).
`windowDue` says that stage 2 of the line supervisor has still to close the window then. -/
structure MixView where
  slots : Vector Slot 32
  active : Bank
  taper : Vector Gain 256
  zones : Vector Zone 24
  lists : Vector (List ListEntry) 24
  claims : Vector (Option Claim) 48
  lineStates : Vector LineState 28
  windowDue : Bool
  deriving DecidableEq, Repr, Inhabited

/-- The model's own: the boundary now being taken. While it is open, `due` holds the changes still to be carried out at
it, `seen` what a reader sees at each moment so far, oldest first, and `race` who reads when (log entries 1 and 2). -/
structure Boundary where
  isOpen : Bool
  due : List Due
  seen : List MixView
  race : Race
  deriving DecidableEq, Repr, Inhabited

/-- The state of the part, with the queue of the commands that wait, first in, first out. -/
structure State where
  ring : Ring
  slots : Vector Slot 32
  mix : Mix
  scene : Scene
  claims : Claims
  peer : Peer
  intercom : Intercom
  alarm : Alarm
  clips : Clips
  lines : Lines
  control : Control
  reports : Reports
  counters : Vector Word32 551
  boundary : Boundary
  pending : List Instr
  deriving DecidableEq, Repr

/-! ### The built-in defaults and the state after reset -/

/-- The default taper: entry c is floor((c × 32,768 + 127) / 255) (R41). -/
def defaultTaper : Vector Gain 256 :=
  Vector.ofFn fun c : Fin 256 => Fin.ofNat 65536 ((c.val * 32768 + 127) / 255)

/-- The built-in defaults of the zone record (R57). -/
def defaultZone : ZoneEntry where
  enabled := true
  master := 255
  claimLevel := 255
  duck := 128
  alarmLevel := 255
  limiter := 8388607
  release := 256
  showZone := false
  showStop := 5
  backup := none
  pilot := 4096
  openLimit := 900
  shortLimit := 100
  nominalLow := 400
  nominalHigh := 600
  supervision := false

/-- The built-in defaults of the writable tables (R35, R41, R57, R75, R97, R100, R142, R162, R192). -/
def builtIn : ImageTables where
  node := ⟨0, 0, 2000, 20, 3750, 10⟩
  sources := Vector.replicate 23 ⟨.static, .none, .programClass, 255⟩
  zones := Vector.replicate 24 defaultZone
  taper := defaultTaper
  bank := Vector.replicate 24 (Vector.replicate 32 0)
  groups := Vector.replicate 32 ⟨noZones, []⟩
  chime := Vector.replicate 4 ⟨100, 0, 0⟩
  stations := Vector.replicate 32 ⟨0, 255, 4, 0, false, false⟩
  keys := Vector.replicate 32 (Vector.replicate 8 .none)
  programs := Vector.replicate 8 ⟨0, 0, []⟩
  patterns := Vector.replicate 4 ⟨false, Vector.replicate 64 false, 0, 0, .stop 0, false⟩

/-- A slot as it stands from power-on until the load ends (R35). -/
def resetSlot (i : SlotId) : Slot :=
  if i.val < 23 then ⟨.unbound, some .static, .programClass, 255, .lost, 50, false, silence⟩
  else if i.val < 27 then ⟨.unbound, none, .voiceClass, 255, .lost, 50, false, silence⟩
  else ⟨.internal, none, .voiceClass, 255, .live, 0, false, silence⟩

/-- A free alarm channel (R148, R162). -/
def freeChannel : Channel :=
  ⟨none, none, .none, noZones, 0, false, 0, 0, 0, Vector.replicate 16 0, 0⟩

/-- A clip player that is IDLE with owner none (R171, R176). -/
def idlePlayer : Player :=
  ⟨.idle, .none, 0, 0, 0, 0, 0, Vector.replicate 2 ⟨none, false, []⟩⟩

/-- A lane after power-on (R188). -/
def resetLane : Lane := ⟨⟨none, none, 0, 0, false, false, false, false, none⟩, none⟩

/-- A station after power-on (R142). -/
def resetStation : Station where
  cfg := ⟨0, 255, 4, 0, false, false⟩
  present := false
  missed := 0
  keys := Vector.replicate 8 ⟨false, false⟩
  ringer := false
  page := none
  mic := silence
  speaker := silence
  flash := Vector.replicate 8 0
  poll := ⟨Vector.replicate 8 .off, false⟩

/-- The access pointer after any reset: NODE row 0, column 0, the whole table as window (R200, R201). -/
def resetPointer : Pointer := ⟨.node, 0, 0, 0, 0, 0, 0, .rowFirst⟩

/-- The reads of an image load: sectors 0 to 7, in order (R198). -/
def imageReads (stamp : Nat) : List ReadRequest :=
  (List.range 8).map fun i => ⟨.image i, i, stamp + i⟩

/-- The state after power-on with the straps read as `straps` (R22, R35, R57, R75, R100, R120, R142, R162, R176, R188,
R201, R205): the node id, and UNADDRESSED for 0 or 255, else LOADING with the image read begun (R19, R198). -/
def State.powerOn (straps : Nat) : State :=
  let addressed : Bool := straps != 0 && straps != 255
  { ring :=
      { nodeId := straps
        portA := ⟨.down, [], none⟩
        portB := ⟨.down, [], none⟩
        origins := Vector.replicate 254 ⟨false, 0, 0⟩
        seq := 0
        period := 0
        timing := .holdover
        master := 0
        window := false }
    slots := Vector.ofFn resetSlot
    mix :=
      { zones := Vector.replicate 24 ⟨defaultZone, 32768⟩
        taper := defaultTaper
        zoneOut := Vector.replicate 24 silence }
    scene :=
      { active := builtIn.bank
        staged := builtIn.bank
        cues := []
        fades := []
        held := noZones }
    claims :=
      { table := Vector.replicate 48 none
        lists := Vector.replicate 24 []
        queue := []
        groups := builtIn.groups
        chimeTable := builtIn.chime
        chimeGen := ⟨none, 0⟩
        reported := Vector.replicate 24 .free }
    peer :=
      { file := Vector.replicate 8 none
        tx := Vector.replicate 4 none
        inbound := []
        service := none }
    intercom :=
      { stations := Vector.replicate 32 resetStation
        keymap := builtIn.keys
        calls := Vector.replicate 16 none
        phase := 7 }
    alarm :=
      { programs := builtIn.programs
        list := []
        channels := Vector.replicate 2 freeChannel
        patterns := builtIn.patterns
        arrivals := 0 }
    clips :=
      { directory := Vector.replicate 64 ⟨.empty, 0, 0, 0, 0⟩
        writtenSet := []
        writes := []
        reads := if addressed then (imageReads 0).drop 1 else []
        inFlight := if addressed then some (.read ⟨.image 0, 0, 0⟩) else none
        players := Vector.replicate 2 idlePlayer
        stamp := if addressed then 8 else 0 }
    lines :=
      { lanes := Vector.replicate 28 resetLane
        unheard := noZones
        windowCount := 0
        laneOut := Vector.replicate 28 silence
        freshStart := false }
    control :=
      { mode := if addressed then .loading else .unaddressed
        node := builtIn.node
        timer := 0
        pointer := resetPointer
        queue := []
        service := none
        saving := false
        load := if addressed then some ⟨true, [], none, []⟩ else none
        answer := ⟨0, .ok, .none⟩ }
    reports :=
      { queue := []
        overflow := false
        interval := 0 }
    counters := Vector.replicate 551 0
    boundary :=
      { isOpen := false
        due := []
        seen := []
        race := ⟨[], [], [], [], [], 0, none, false⟩ }
    pending := [] }

/-- The machine right after power-on reset, with the straps read as 1 (log entry 5: the manual gives the straps no
value). -/
def State.reset : State := State.powerOn 1

end Sys2Proof.Machine
end

