-- ==== Sys2Proof/Config.lean ====
section
/-! DEFINITION. What the manual leaves to the format: uninterpreted constants without a body, so that no proof can rest
on a value of them. Section 0.6 gives byte layouts for some formats only; the entry forms of the tables, the operation
codes, the layout of a directory sector and the layouts of REPLY results and report records are not among them (log
entry 3). A layout is a constant whose value has the form's number of bytes, itself a constant. -/
namespace Sys2Proof
open Sys2Proof.Machine

/-! ### CONTROL payloads, REPLY and REPORT payloads (R190, R197, R203) -/

/-- How many of the operations of a CONTROL payload, counted from the first, have a known code and lie within the
payload (R190, undecodable operation). The manual gives no operation codes. -/
opaque Config.decodableOperations : List Byte → Nat

/-- Bytes of a REPLY payload before its first result: the frame number and the overflow flag (R197). -/
opaque Config.replyHeadBytes : Nat

/-- The frame number and the overflow flag of a REPLY payload (R197). -/
opaque Config.replyHead : Nat → Bool → Vector Byte Config.replyHeadBytes

/-- Bytes of a result's operation index and result code (R197). -/
opaque Config.resultHeadBytes : Nat

/-- The operation index and the result code of a result (R197). -/
opaque Config.resultHead : Nat → ResultCode → Vector Byte Config.resultHeadBytes

/-- Bytes of the count of entries taken, in the result of a WRITE (R197). -/
opaque Config.takenBytes : Nat

/-- The count of entries taken (R197). -/
opaque Config.takenField : Nat → Vector Byte Config.takenBytes

/-- Bytes of a claim id and end reason in a result (R197). -/
opaque Config.claimIdBytes : Nat

/-- The claim id and end reason of a result (R197). -/
opaque Config.claimIdField : Option ClaimId → Option EndReason → Vector Byte Config.claimIdBytes

/-- Bytes of one entry in a REPLY, from the number of its entry form (`entryForm` of Machine/Replies.lean) and the number
of items it lists: the steps of a program, the peers of a group, the entries of a claim list, the members of a call, or 1
for a held place and 0 for a free one (R194, R195). -/
opaque Config.entryBytes : Nat → Nat → Nat

/-- One entry in a REPLY, from the number of its entry form and the number of items it lists (R195). -/
opaque Config.entryField : (form items : Nat) → ReadEntry → Vector Byte (Config.entryBytes form items)

/-- Bytes of a REPORT payload before its first record: the number of records and the overflow flag (R203). -/
opaque Config.reportHeadBytes : Nat

/-- The number of records and the overflow flag of a REPORT payload (R203). -/
opaque Config.reportHead : Nat → Bool → Vector Byte Config.reportHeadBytes

/-- Bytes of a report record (section 12.1). -/
opaque Config.recordBytes : Nat

/-- A report record (section 12.1). -/
opaque Config.recordField : Report → Vector Byte Config.recordBytes

/-! ### The entry forms that WRITE and the image body use (R194, section 11.5) -/

/-- Bytes of a table's entry in the form WRITE uses, by what its rows hold; every form but ALARM-PROGRAM's has one length
(R194). -/
opaque Config.formBytes : Type → Nat

/-- An entry in the form WRITE uses. -/
opaque Config.formOf (α : Type) : α → Vector Byte (Config.formBytes α)

/-- The entry that the bytes of its form spell. -/
opaque Config.entryOf (α : Type) [Inhabited α] : List Byte → α

/-- Bytes of an ALARM-PROGRAM entry, from the number of steps it carries (R194). -/
opaque Config.programBytes : Nat → Nat

/-- An ALARM-PROGRAM entry in the form WRITE uses. -/
opaque Config.programForm : (e : ProgramEntry) → Vector Byte (Config.programBytes e.steps.length)

/-- The number of steps that the ALARM-PROGRAM entry at the front of a run of bytes carries (R194). -/
opaque Config.stepsCarried : List Byte → Nat

/-- The bytes of an image behind its body, whose content the manual does not give, by their place (section 11.5). -/
opaque Config.imageFill : Nat → Byte

/-! ### Directory sectors (section 9.1) -/

/-- The bytes of a directory sector that its CRC-32 covers: its 32 entries. -/
opaque Config.directoryBytes : List Byte → List Byte

/-- The CRC-32 that a directory sector carries. -/
opaque Config.directoryCheck : List Byte → Word32

/-- The 32 entries that a directory sector holds. -/
opaque Config.directoryEntries : List Byte → Vector DirEntry 32

/-- The bytes of one directory entry. -/
opaque Config.directoryForm : DirEntry → List Byte

/-- A directory sector that holds the bytes of its entries and a check. -/
opaque Config.directorySector : List Byte → Word32 → Vector Byte 4096

/-! ### Values that no rule states -/

/-- The zones-granted field of the ANSWER to a RELEASE that ends an inbound claim, from the number of zones of the
claim's target: R105 states the field for answers to RESERVE and COMMIT alone (log entry 6). -/
opaque Config.releaseGranted : Nat → Fin 25

/-- The policy field of an alarm claim, by channel: R80 and R154 state every other field of it, and no rule reads this one
but the READ of its CLAIM row (log entry 6). -/
opaque Config.alarmPolicy : ChanId → Policy

/-- The arguments that a key map entry holds once its function alone has been written to another one, from the entry
before (R126, R194; log entry 31). -/
opaque Config.keyArguments : KeyFn → KeyArguments

end Sys2Proof
end

