-- ==== Sys2Proof/Machine/Ops.lean ====
section
/-! DEFINITION. The named operations that every block uses: updates of one block's state, counters (R204), period
numbers (R16), the checks of ring frames (R3, R159), the output queues, the arbiter and origination (R13 to R15), and
placing a report (R202). -/
namespace Sys2Proof.Machine

/-! ### Updates of one block's state -/

/-- The state with its `ring` changed. -/
def modRing (f : Ring → Ring) (s : State) : State := { s with ring := f s.ring }

/-- The state with its `slots` changed. -/
def modSlots (f : Vector Slot 32 → Vector Slot 32) (s : State) : State := { s with slots := f s.slots }

/-- The state with its `mix` changed. -/
def modMix (f : Mix → Mix) (s : State) : State := { s with mix := f s.mix }

/-- The state with its `scene` changed. -/
def modScene (f : Scene → Scene) (s : State) : State := { s with scene := f s.scene }

/-- The state with its `claims` changed. -/
def modClaims (f : Claims → Claims) (s : State) : State := { s with claims := f s.claims }

/-- The state with its `peer` changed. -/
def modPeer (f : Peer → Peer) (s : State) : State := { s with peer := f s.peer }

/-- The state with its `intercom` changed. -/
def modIntercom (f : Intercom → Intercom) (s : State) : State := { s with intercom := f s.intercom }

/-- The state with its `alarm` changed. -/
def modAlarm (f : Alarm → Alarm) (s : State) : State := { s with alarm := f s.alarm }

/-- The state with its `clips` changed. -/
def modClips (f : Clips → Clips) (s : State) : State := { s with clips := f s.clips }

/-- The state with its `lines` changed. -/
def modLines (f : Lines → Lines) (s : State) : State := { s with lines := f s.lines }

/-- The state with its `control` changed. -/
def modControl (f : Control → Control) (s : State) : State := { s with control := f s.control }

/-- The state with its `reports` changed. -/
def modReports (f : Reports → Reports) (s : State) : State := { s with reports := f s.reports }

/-- The state with its `counters` changed. -/
def modCounters (f : Vector Word32 551 → Vector Word32 551) (s : State) : State := { s with counters := f s.counters }

/-- The state with its `boundary` changed. -/
def modBoundary (f : Boundary → Boundary) (s : State) : State := { s with boundary := f s.boundary }

/-- The state with its `pending` changed. -/
def modPending (f : List Instr → List Instr) (s : State) : State := { s with pending := f s.pending }

/-- Every number below n, in ascending order, as the blocks walk their tables. -/
abbrev everyFin (n : Nat) : List (Fin n) := List.finRange n

/-- The state after a change made for each item of a list, in the list's order. -/
def forEach {α : Type} (l : List α) (f : α → State → State) (s : State) : State := l.foldl (fun t a => f a t) s

/-- A number held to a range 0 to k, as a place of a table with k + 1 places. -/
def finUpTo (k n : Nat) : Fin (k + 1) := ⟨min n k, by omega⟩

/-! ### Modes -/

/-- RUN or STANDALONE: normal operation (section 0.5). -/
def running (s : State) : Bool := s.control.mode == .run || s.control.mode == .standalone

/-! ### Counters (R204) -/

/-- The number of a ring port: 0 for A, 1 for B (R1). -/
def portIx : Port → Nat
  | .a => 0
  | .b => 1

/-- The other port (section 1.1). -/
def otherPort : Port → Port
  | .a => .b
  | .b => .a

/-- The counters of the part, chapter by chapter (R21, R34, R56, R74, R99, R119, R141, R161, R175, R187, R201, R204). -/
inductive Counter
  | framesIn (p : Port) | badCheck (p : Port) | oversize (p : Port) | runt (p : Port) | badOrigin (p : Port)
  | stripped (p : Port) | duplicate (p : Port) | hopExpired (p : Port) | loadingDiscard (p : Port) | queueFull (p : Port)
  | audioShed (p : Port) | linkDiscard (p : Port) | framesOut (p : Port) | trainingRetry (p : Port)
  | framesTaken | localBoundaries | relabels
  | slotOverrun (i : Fin 27) | slotLate (i : Fin 27) | slotMuted (i : Fin 27) | slotLost (i : Fin 27) | audioUnmatched
  | zoneClip (z : ZoneId) | limiterAttack (z : ZoneId)
  | bankSwaps | cuesFired | fadesStarted | fadesCompleted | fadeReplaced | fadeDegraded | fadesCancelled
  | claimsStarted | requestsBusy | entriesEvicted (z : ZoneId) | zonesLost (z : ZoneId) | commitsDone | commitsPartial
  | commitsRefused | holdTimeouts
  | peerShortage | reservesSent | peersReserved | peersRefused | peerTimeouts | peersLive | peersFailed
  | unsolicitedPreempted | answersIgnored | claimMalformed | inboundBusy | inboundServed | inboundPreempted
  | missedScans (st : StationId) | keyEvents | keyBounces | keysRefused | keysIgnored | callsStarted | callsConnected
  | callsNoAnswer | pagesRequested
  | alarmStarts | alarmPreemptions | alarmDiscards | alarmRefusals | retriggers | retriggersEmpty | alarmStops
  | alarmCompletions | clipStepsSkipped | stepLimits | alarmFramesTested | patternMatches (p : PatternId)
  | flashReads | flashWrites | clipWritesQueued | directoryRejected | clipUnderruns (p : ChanId) | playsCompleted (p : ChanId)
  | ampNoReturn (l : LaneId) | ampOvertemp (l : LaneId) | ampMuted (l : LaneId) | pilotClamp (l : LaneId)
  | windowVerdicts (l : LaneId) | lineChanges (l : LaneId) | failovers (z : ZoneId) | unheardPeriods (z : ZoneId)
  | controlFrames | controlRejected | controlDropped | operationsRefused | standaloneEntries | imageLoads | imageSaves
  | reportsCoalesced | reportsDropped | reportFrames
  deriving DecidableEq, Repr, Inhabited

/-- The row of the COUNTERS table that holds a counter, by the block table of R204. -/
def counterRow : Counter → Nat
  | .framesIn p => 0 + portIx p
  | .badCheck p => 2 + portIx p
  | .oversize p => 4 + portIx p
  | .runt p => 6 + portIx p
  | .badOrigin p => 8 + portIx p
  | .stripped p => 10 + portIx p
  | .duplicate p => 12 + portIx p
  | .hopExpired p => 14 + portIx p
  | .loadingDiscard p => 16 + portIx p
  | .queueFull p => 18 + portIx p
  | .audioShed p => 20 + portIx p
  | .linkDiscard p => 22 + portIx p
  | .framesOut p => 24 + portIx p
  | .trainingRetry p => 26 + portIx p
  | .framesTaken => 28
  | .localBoundaries => 29
  | .relabels => 30
  | .slotOverrun i => 31 + i.val
  | .slotLate i => 58 + i.val
  | .slotMuted i => 85 + i.val
  | .slotLost i => 112 + i.val
  | .audioUnmatched => 139
  | .zoneClip z => 140 + z.val
  | .limiterAttack z => 164 + z.val
  | .bankSwaps => 188
  | .cuesFired => 189
  | .fadesStarted => 190
  | .fadesCompleted => 191
  | .fadeReplaced => 192
  | .fadeDegraded => 193
  | .fadesCancelled => 194
  | .claimsStarted => 195
  | .requestsBusy => 196
  | .entriesEvicted z => 197 + z.val
  | .zonesLost z => 221 + z.val
  | .commitsDone => 245
  | .commitsPartial => 246
  | .commitsRefused => 247
  | .holdTimeouts => 248
  | .peerShortage => 249
  | .reservesSent => 250
  | .peersReserved => 251
  | .peersRefused => 252
  | .peerTimeouts => 253
  | .peersLive => 254
  | .peersFailed => 255
  | .unsolicitedPreempted => 256
  | .answersIgnored => 257
  | .claimMalformed => 258
  | .inboundBusy => 259
  | .inboundServed => 260
  | .inboundPreempted => 261
  | .missedScans st => 262 + st.val
  | .keyEvents => 294
  | .keyBounces => 295
  | .keysRefused => 296
  | .keysIgnored => 297
  | .callsStarted => 298
  | .callsConnected => 299
  | .callsNoAnswer => 300
  | .pagesRequested => 301
  | .alarmStarts => 302
  | .alarmPreemptions => 303
  | .alarmDiscards => 304
  | .alarmRefusals => 305
  | .retriggers => 306
  | .retriggersEmpty => 307
  | .alarmStops => 308
  | .alarmCompletions => 309
  | .clipStepsSkipped => 310
  | .stepLimits => 311
  | .alarmFramesTested => 312
  | .patternMatches p => 313 + p.val
  | .flashReads => 317
  | .flashWrites => 318
  | .clipWritesQueued => 319
  | .directoryRejected => 320
  | .clipUnderruns p => 321 + p.val
  | .playsCompleted p => 323 + p.val
  | .ampNoReturn l => 325 + l.val
  | .ampOvertemp l => 353 + l.val
  | .ampMuted l => 381 + l.val
  | .pilotClamp l => 409 + l.val
  | .windowVerdicts l => 437 + l.val
  | .lineChanges l => 465 + l.val
  | .failovers z => 493 + z.val
  | .unheardPeriods z => 517 + z.val
  | .controlFrames => 541
  | .controlRejected => 542
  | .controlDropped => 543
  | .operationsRefused => 544
  | .standaloneEntries => 545
  | .imageLoads => 546
  | .imageSaves => 547
  | .reportsCoalesced => 548
  | .reportsDropped => 549
  | .reportFrames => 550

/-- Every counter has a row of the table. -/
theorem counterRow_lt (c : Counter) : counterRow c < 551 := by
  cases c <;> simp only [counterRow] <;> first | omega | (rename_i p; cases p <;> decide)

/-- The place of a counter in the table. -/
def counterIx (c : Counter) : Fin 551 := ⟨counterRow c, counterRow_lt c⟩

/-- One more, staying at 4,294,967,295 (R204). -/
def saturatingSucc (w : Word32) : Word32 := if w = 0xFFFFFFFF#32 then w else w + 1

/-- The value of a counter. -/
def counterOf (s : State) (c : Counter) : Word32 := tget s.counters (counterIx c)

/-- Counts one event of a counter (R204). -/
def count (c : Counter) (s : State) : State := modCounters (fun v => tmod v (counterIx c) saturatingSucc) s

/-- Counts n events of a counter (R204). -/
def countTimes (c : Counter) : Nat → State → State
  | 0, s => s
  | n + 1, s => countTimes c n (count c s)

/-! ### Period numbers (R16) -/

/-- The period number a is reached at the current period number c. -/
def reached (a c : Word32) : Bool := decide ((c - a).toNat < 2 ^ 31)

/-- The period number a is later than b. -/
def laterThan (a b : Word32) : Bool := decide (1 ≤ (a - b).toNat) && decide ((a - b).toNat ≤ 2 ^ 31 - 1)

/-- A deadline of n periods from now (R102). -/
def deadlineIn (n : Nat) (s : State) : Word32 := s.ring.period + BitVec.ofNat 32 n

/-! ### Bytes and checks (R3, R159) -/

/-- The byte at a place, 0 beyond the end. -/
def byteAt (l : List Byte) (i : Nat) : Nat := (l.getD i 0).toNat

/-- Two bytes, most significant first. -/
def word16At (l : List Byte) (i : Nat) : Nat := byteAt l i * 256 + byteAt l (i + 1)

/-- Four bytes, most significant first. -/
def word32At (l : List Byte) (i : Nat) : Nat := word16At l i * 65536 + word16At l (i + 2)

/-- A byte of a number. -/
def toByte (n : Nat) : Byte := BitVec.ofNat 8 n

/-- The two bytes of a number, most significant first. -/
def bytes16 (n : Nat) : List Byte := [toByte (n / 256), toByte n]

/-- The four bytes of a word, most significant first. -/
def bytes32 (w : Word32) : List Byte :=
  [toByte (w.toNat / 16777216), toByte (w.toNat / 65536), toByte (w.toNat / 256), toByte w.toNat]

/-- A function applied n times. -/
def iterate {α : Type} (f : α → α) : Nat → α → α
  | 0, a => a
  | n + 1, a => iterate f n (f a)

/-- One bit of the CRC-32 division, most significant bit first (R3). -/
def crc32Bit (r : Word32) : Word32 := if r.msb then (r <<< 1) ^^^ 0x04C11DB7#32 else r <<< 1

/-- One byte of the CRC-32 (R3). -/
def crc32Byte (r : Word32) (b : Byte) : Word32 := iterate crc32Bit 8 (r ^^^ (BitVec.setWidth 32 b <<< 24))

/-- The CRC-32 of ring frames, of the image body and of directory sectors: preset to all ones, inverted at the end
(R3). -/
def crc32 (l : List Byte) : Word32 := ~~~ (l.foldl crc32Byte 0xFFFFFFFF#32)

/-- One bit of the CRC-16 division (R159). -/
def crc16Bit (r : Word16) : Word16 := if r.msb then (r <<< 1) ^^^ 0x1021#16 else r <<< 1

/-- One byte of the CRC-16 (R159). -/
def crc16Byte (r : Word16) (b : Byte) : Word16 := iterate crc16Bit 8 (r ^^^ (BitVec.setWidth 16 b <<< 8))

/-- The CRC-16 of the pattern slots: preset to all ones, not inverted (R159). -/
def crc16 (l : List Byte) : Word16 := l.foldl crc16Byte 0xFFFF#16

/-- A signed 24-bit sample in three bytes, most significant first, in two's complement (R6). -/
def sampleBytes (x : Int) : List Byte :=
  let n := (BitVec.ofInt 24 x).toNat
  [toByte (n / 65536), toByte (n / 256), toByte n]

/-- The sample that three bytes give (R6). -/
def sampleAt (l : List Byte) (i : Nat) : Int :=
  (BitVec.ofNat 24 (byteAt l i * 65536 + byteAt l (i + 1) * 256 + byteAt l (i + 2))).toInt

/-- The bytes of a block: 48 samples in order (R6). -/
def blockBytes (b : Block) : List Byte := b.toList.flatMap sampleBytes

/-- The block at a place of a payload (R6). -/
def blockAt (l : List Byte) (i : Nat) : Block := Vector.ofFn fun n : Fin 48 => sampleAt l (i + 3 * n.val)

/-! ### Frames (section 1.3) -/

abbrev beaconKind : Byte := 1
abbrev audioKind : Byte := 2
abbrev controlKind : Byte := 3
abbrev replyKind : Byte := 4
abbrev claimKind : Byte := 5
abbrev reportKind : Byte := 6
abbrev alarmKind : Byte := 7

/-- A frame kind that the kind table names (section 1.3). -/
def knownKind (k : Byte) : Bool := decide (1 ≤ k.toNat) && decide (k.toNat ≤ 7)

/-- The minimum payload of a kind, 0 for an unknown one (section 1.3). -/
def minPayload (k : Byte) : Nat :=
  match k.toNat with
  | 1 => 6
  | 2 => 150
  | 3 => 2
  | 5 => 4
  | 7 => 1
  | _ => 0

/-- The payload is a runt for its kind (R4). -/
def isRunt (k : Byte) (payload : List Byte) : Bool :=
  decide (payload.length < minPayload k) ||
    (k == audioKind && (byteAt payload 1 == 0 || decide (8 < byteAt payload 1) ||
      decide (payload.length < 6 + 144 * byteAt payload 1)))

/-- The eight header bytes, with a given hop count (section 1.3). -/
def headerBytes (f : Frame) (hop len : Nat) : List Byte :=
  [f.kind, toByte f.origin, toByte f.dest] ++ bytes16 f.seq.toNat ++ [toByte hop] ++ bytes16 len

/-- The check of a frame whose payload is bytes: the CRC-32 over header and payload with the hop count counted as 0
(R3). -/
def frameCheck (f : Frame) (payload : List Byte) : Word32 := crc32 (headerBytes f 0 payload.length ++ payload)

/-- What the integrity checks find (R7). -/
inductive Integrity
  | oversize
  | badCheck
  | runt
  | badOrigin
  | passed (f : Frame) (payload : List Byte)
  deriving DecidableEq, Repr, Inhabited

/-- The frame that header and payload spell; a hop count above 63 is treated as 63 (R3). -/
def frameOf (l : List Byte) : Frame :=
  { kind := l.getD 0 0
    origin := byteAt l 1
    dest := byteAt l 2
    seq := BitVec.ofNat 16 (word16At l 3)
    hop := min (byteAt l 5) 63
    body := .bytes ((l.drop 8).take (word16At l 6)) }

/-- The five integrity checks, in their order (R7). A byte that a frame is too short to hold is read as 0 (DESIGN CHOICE,
log entry 33). -/
def integrity (l : List Byte) : Integrity :=
  let len := word16At l 6
  let payload := (l.drop 8).take len
  if 4160 < len then .oversize
  else if l.length ≠ 8 + len + 4 then .badCheck
  else if BitVec.ofNat 32 (word32At l (8 + len)) ≠ crc32 (l.take 5 ++ [0] ++ (l.drop 6).take (2 + len)) then .badCheck
  else if isRunt (l.getD 0 0) payload then .runt
  else if byteAt l 1 = 0 ∨ byteAt l 1 = 255 then .badOrigin
  else .passed (frameOf l) payload

/-! ### Output queues, arbiter and origination (R13 to R15) -/

/-- The state of a port. -/
def portOf (s : State) : Port → RingPort
  | .a => s.ring.portA
  | .b => s.ring.portB

/-- A change of one port. -/
def modPort (p : Port) (f : RingPort → RingPort) (s : State) : State :=
  modRing (fun r => match p with
    | .a => { r with portA := f r.portA }
    | .b => { r with portB := f r.portB }) s

/-- BEACON and ALARM frames go before the others (R15). -/
def urgent (f : Frame) : Bool := f.kind == beaconKind || f.kind == alarmKind

/-- The earliest BEACON or ALARM frame of a queue, and the queue without it (R15). -/
def takeUrgent : List Frame → Option (Frame × List Frame)
  | [] => none
  | f :: fs => if urgent f then some (f, fs) else (takeUrgent fs).map fun x => (x.1, f :: x.2)

/-- The frame the arbiter chooses, and the queue it leaves (R15). -/
def chooseFrame (q : List Frame) : Option (Frame × List Frame) :=
  match takeUrgent q with
  | some x => some x
  | none => match q with
    | [] => none
    | f :: fs => some (f, fs)

/-- The arbiter of a port starts a transmission when the transmitter is idle and the queue holds frames (R15). -/
def arbitrate (p : Port) (s : State) : State :=
  if (portOf s p).link = .up ∧ (portOf s p).sending = none then
    match chooseFrame (portOf s p).queue with
    | some (f, rest) => modPort p (fun x => { x with queue := rest, sending := some f }) s
    | none => s
  else s

/-- A frame is offered to the output queue of a port (R14). -/
def offer (p : Port) (f : Frame) (s : State) : State :=
  if (portOf s p).link ≠ .up then count (.linkDiscard p) s
  else if 32 ≤ (portOf s p).queue.length then count (.queueFull p) s
  else if f.kind = audioKind ∧ 28 ≤ (portOf s p).queue.length then count (.audioShed p) s
  else arbitrate p (modPort p (fun x => { x with queue := x.queue ++ [f] }) s)

/-- The part originates a frame in RUN and STANDALONE: the own sequence number, hop count 63, one copy for each port
(R13). -/
def originate (kind : Byte) (dest : Nat) (body : Body) (s : State) : State :=
  if running s then
    let f : Frame := ⟨kind, s.ring.nodeId, dest, s.ring.seq, 63, body⟩
    offer .b f (offer .a f (modRing (fun r => { r with seq := r.seq + 1 }) s))
  else s

/-! ### Reports (R202) -/

/-- The report records of a queue with one of them brought up to date (R202, coalesced). -/
def coalesce (r : Report) (q : List Report) : List Report :=
  q.map fun x => if x.kind = r.kind ∧ x.subject = r.subject then { x with value := r.value, period := r.period } else x

/-- A report is placed: coalesced, added, or added after the oldest is dropped. In UNADDRESSED it is discarded (R202). -/
def report (kind : ReportKind) (subject value : Nat) (s : State) : State :=
  let r : Report := ⟨kind, subject, value, s.ring.period⟩
  if s.control.mode = .unaddressed then s
  else if s.reports.queue.any (fun x => x.kind == kind && x.subject == subject) then
    count .reportsCoalesced (modReports (fun q => { q with queue := coalesce r q.queue }) s)
  else if s.reports.queue.length < 32 then
    modReports (fun q => { q with queue := q.queue ++ [r] }) s
  else
    count .reportsDropped (modReports (fun q => { q with queue := q.queue.tail ++ [r], overflow := true }) s)

end Sys2Proof.Machine
end

