-- ==== Sys2Proof/Machine/Operands.lean ====
section
/-! DEFINITION. The operands as the part takes them: each written value clamped as its table states, and an out-of-range
code read as the manual says. -/
namespace Sys2Proof.Machine

/-- A value held to a range. -/
def clampRange (lo hi n : Nat) : Nat := max lo (min hi n)

/-- The clamped fields of a RING binding (R24). -/
def clampRing (origin bundle channel : Nat) : Binding :=
  .ring (clampRange 1 254 origin) (min 15 bundle) (min 7 channel)

/-- A binding as it is written to a ring slot: clamped; STATION and INTERNAL become NONE, and so does any binding
written with mode DYNAMIC (R24). -/
def writtenBinding (mode : SlotMode) (b : RawBinding) : Binding :=
  match mode, b with
  | .dynamic, _ => .unbound
  | .static, .ring o b c => clampRing o b c
  | .static, _ => .unbound

/-- The class a ring slot takes (R24). -/
def slotClass : RingClass → SlotClass
  | .programClass => .programClass
  | .showClass => .showClass

/-- A backup lane: none, or 24 to 27; any other value is written as none (R37). -/
def clampBackup : Option Nat → Option Nat
  | some n => if 24 ≤ n ∧ n ≤ 27 then some n else none
  | none => none

/-- A ZONE entry as it is taken (R37). -/
def clampZone (e : ZoneEntry) : ZoneEntry :=
  { e with
    limiter := clampRange 1 8388607 e.limiter
    release := clampRange 1 4096 e.release
    showStop := clampRange 1 7 e.showStop
    backup := clampBackup e.backup
    openLimit := min 1023 e.openLimit
    shortLimit := min 1023 e.shortLimit
    nominalLow := min 1023 e.nominalLow
    nominalHigh := min 1023 e.nominalHigh }

/-- A peer as it is written (R97). -/
def clampPeer (p : PeerRef) : PeerRef := ⟨clampRange 1 254 p.node, min 31 p.group⟩

/-- A GROUP entry as it is taken: at most 4 peers (R97). -/
def clampGroup (e : GroupEntry) : GroupEntry := { e with peers := (e.peers.take 4).map clampPeer }

/-- A CHIME entry as it is taken (R85). -/
def clampChime (e : ChimeEntry) : ChimeEntry :=
  { e with freq := clampRange 100 4000 e.freq, duration := min 1000 e.duration }

/-- A STATION entry as it is taken (R125). -/
def clampStation (e : StationEntry) : StationEntry :=
  { e with home := min 23 e.home, maxPriority := clampRange 1 6 e.maxPriority, holdSeconds := min 600 e.holdSeconds }

/-- An alarm group: 0 to 31, or 255; 32 to 254 becomes 255 (R126, R149, R158). -/
def clampAlarmGroup (g : Nat) : Nat := if g ≤ 31 then g else 255

/-- A key map entry as it is taken; an unknown function becomes NONE (R126). -/
def clampKey : KeyFn → KeyFn
  | .call st => .call (min 31 st)
  | .join n => .join (min 3 n)
  | .page g p mode policy chime latch => .page (min 31 g) (clampRange 1 6 p) mode policy chime latch
  | .alarmStart p g => .alarmStart (min 7 p) (clampAlarmGroup g)
  | .alarmStop p => .alarmStop (min 7 p)
  | .unknown => .none
  | .none => .none
  | .answer => .answer
  | .endCall => .endCall

/-- The function code of a key map entry (R126). -/
def keyCode : KeyFn → KeyCode
  | .none => .none
  | .call _ => .call
  | .answer => .answer
  | .endCall => .endCall
  | .join _ => .join
  | .page .. => .page
  | .alarmStart .. => .alarmStart
  | .alarmStop _ => .alarmStop
  | .unknown => .unknown

/-- A key map entry of a function with the arguments given (R126). -/
def keyOf (a : KeyArguments) : KeyCode → KeyFn
  | .none => .none
  | .call => .call a.station
  | .answer => .answer
  | .endCall => .endCall
  | .join => .join a.conference
  | .page => .page a.group a.priority a.mode a.policy a.chime a.latch
  | .alarmStart => .alarmStart a.program a.group
  | .alarmStop => .alarmStop a.program
  | .unknown => .unknown

/-- A key map entry whose function alone is written (R126, R194): the arguments of another function than the entry's are
free values (log entry 31). -/
def withFunction (e : KeyFn) (c : KeyCode) : KeyFn :=
  if keyCode e = c then e else clampKey (keyOf (Config.keyArguments e) c)

/-- A step of an alarm program as it is taken; an unknown kind becomes END (R143). -/
def clampStep : AlarmStep → AlarmStep
  | .tone f a on off => .tone (clampRange 100 4000 f) a (clampRange 1 4000 on) (min 4000 off)
  | .clip n => .clip (min 63 n)
  | .repeatTo t c => .repeatTo (min 15 t) c
  | .silent n => .silent (clampRange 1 4000 n)
  | .stop => .stop
  | .unknown => .stop

/-- An ALARM-PROGRAM entry as it is taken: the steps beyond the 16th are discarded (R143). -/
def clampProgram (e : ProgramEntry) : ProgramEntry :=
  ⟨min 7 e.rank, min 31 e.defaultGroup, (e.steps.take 16).map clampStep⟩

/-- A pattern action as it is taken (R158). -/
def clampAction : PatternAction → PatternAction
  | .start p g => .start (min 7 p) (clampAlarmGroup g)
  | .stop p => .stop (min 7 p)

/-- A PATTERN entry as it is taken (R158). -/
def clampPattern (e : PatternEntry) : PatternEntry :=
  { e with origin := if e.origin = 255 then 0 else e.origin, action := clampAction e.action }

/-- A place of the controller list as it is written (R192). -/
def clampController (n : Fin 256) : Fin 256 := if n = 255 then 254 else n

/-- A NODE entry as it is taken (R192). -/
def clampNode (e : NodeEntry) : NodeEntry where
  controllerA := clampController e.controllerA
  controllerB := clampController e.controllerB
  timeout := clampRange 100 60000 e.timeout
  answerTimeout := clampRange 2 255 e.answerTimeout
  ringLimit := clampRange 125 7500 e.ringLimit
  reportInterval := clampRange 1 1000 e.reportInterval

/-- The priority of a claim that is not an alarm's: 7 or above becomes 6, 0 becomes 1 (R80). -/
def clampPriority (p : Nat) : Nat := clampRange 1 6 p

/-- The hold limit of a claim: at most 600,000, and none for 0 (R80). -/
def holdLimit (n : Nat) : Option Nat := if n = 0 then none else some (min 600000 n)

/-- The RESERVE that a CLAIM payload carries: a mode, policy or chime value other than 1 is read as 0, and the audio
reference is clamped as a written RING binding is (R105). -/
def reserveOf (origin : Nat) (payload : List Byte) : InReserve where
  origin := origin
  tag := byteAt payload 1
  group := byteAt payload 2
  priority := byteAt payload 3
  mode := if byteAt payload 5 = 1 then .exclusive else .duck
  policy := if byteAt payload 6 = 1 then .best else .all
  chime := byteAt payload 7 == 1
  audioOrigin := clampRange 1 254 (byteAt payload 8)
  audioBundle := min 15 (byteAt payload 9)
  audioChannel := min 7 (byteAt payload 10)

/-- The beacon's period number, master and timing valid flag (R5). -/
def beaconPeriod (payload : List Byte) : Word32 := BitVec.ofNat 32 (word32At payload 0)
def beaconMaster (payload : List Byte) : Nat := byteAt payload 4
def beaconValid (payload : List Byte) : Bool := byteAt payload 5 % 2 == 1

/-- The controllers of the controller list, each once (R190, R203). -/
def controllers (e : NodeEntry) : List Nat :=
  (([e.controllerA.val, e.controllerB.val]).filter (· ≠ 0)).dedup

end Sys2Proof.Machine
end

