-- ==== Sys2Proof/Machine/Flags.lean ====
section
/-! DEFINITION. What the blocks derive from the state of others as it stands: gains, the on-air entry, zone states, show
hold, chime length, lamps, verdicts and line conditions. -/
namespace Sys2Proof.Machine

/-! ### Gains (R40, R42) -/

/-- The gain a level code gives: code 0 mutes whatever the table holds (R40). -/
def taperGain (taper : Vector Gain 256) (c : Code) : Nat := if c = 0 then 0 else (tget taper c).val

/-- The combine function (R42). -/
def combine (a b : Nat) : Nat := min 65535 ((a * b + 16384) / 32768)

/-- A value scaled by a gain, with halves rounded upward (R48 to R50, R138). Integer division by a positive divisor is
the floor. -/
def scale (x : Int) (gain : Nat) : Int := (x * gain + 16384) / 32768

/-- A value clamped to a range. -/
def clampInt (lo hi x : Int) : Int := max lo (min hi x)

/-- A value clamped to 24 bits (section 0.6). -/
def clamp24 (x : Int) : Int := clampInt (-8388608) 8388607 x

/-! ### Claim lists (R44, R45, R78, R96) -/

/-- The claim table's entry at a place. -/
def claimAt (s : State) (c : ClaimId) : Option Claim := tget s.claims.table c

/-- The claim list of a zone. -/
def listOf (s : State) (z : ZoneId) : List ListEntry := tget s.claims.lists z

/-- The on-air entry of a claim list with its claim (R44). -/
def onAirIn (table : Vector (Option Claim) 48) (l : List ListEntry) : Option (ListEntry × Claim) :=
  match l with
  | [] => none
  | e :: _ => (tget table e.claim).map fun c => (e, c)

/-- The on-air priority of a claim list, 0 when it has no on-air entry (R44). -/
def priorityIn (table : Vector (Option Claim) 48) (l : List ListEntry) : Nat :=
  match onAirIn table l with
  | some (_, c) => c.priority
  | none => 0

/-- The on-air priority of a zone as the claim list stands (R44). -/
def onAirPriority (s : State) (z : ZoneId) : Nat := priorityIn s.claims.table (listOf s z)

/-- Show hold (R45). -/
def showHoldIn (zone : Zone) (priority : Nat) : Bool := zone.cfg.showZone && decide (zone.cfg.showStop ≤ priority)

/-- A zone is in show hold as its record and its list stand (R45). -/
def showHold (s : State) (z : ZoneId) : Bool := showHoldIn (tget s.mix.zones z) (onAirPriority s z)

/-- The zone state of a claim list, by the first row that applies (R96). -/
def zoneStateIn (table : Vector (Option Claim) 48) (l : List ListEntry) : ZoneState :=
  match onAirIn table l with
  | none => .free
  | some (e, c) =>
    if c.priority = 7 then .alarm
    else if !e.live then .chiming
    else match c.mode with
      | .duck => .shared
      | .exclusive => .exclusive

/-- The code of a zone state (R96). -/
def zoneStateCode : ZoneState → Nat
  | .free => 0
  | .chiming => 1
  | .shared => 2
  | .exclusive => 3
  | .alarm => 4

/-- An entry of claim a stands before an entry of claim b by priority or rank; arrival, the third ground of R78, is the
place in the list. -/
def outranks (a b : Claim) : Bool := decide (b.priority < a.priority) || (a.priority == b.priority && decide (b.rank < a.rank))

/-- The entry of a claim in a list. -/
def entryIn (l : List ListEntry) (c : ClaimId) : Option ListEntry := l.find? (·.claim == c)

/-- The zones, in ascending order, whose list holds an entry of the claim for which p holds. -/
def zonesWhere (s : State) (c : ClaimId) (p : ListEntry → Bool) : List ZoneId :=
  (everyFin 24).filter fun z => match entryIn (listOf s z) c with
    | some e => p e
    | none => false

/-- The claim holds an entry in some zone (R84). -/
def holdsAnyZone (s : State) (c : ClaimId) : Bool := !(zonesWhere s c fun _ => true).isEmpty

/-- The number of LIVE entries of a claim (R89, R111). -/
def liveEntries (s : State) (c : ClaimId) : Nat := (zonesWhere s c (·.live)).length

/-- The zones of a set, in ascending order. -/
def zonesOf (zs : ZoneSet) : List ZoneId := (everyFin 24).filter fun z => tget zs z

/-- The union, the difference, and the emptiness of zone sets. -/
def unionZones (a b : ZoneSet) : ZoneSet := tmap (fun z x => x || tget b z) a
def diffZones (a b : ZoneSet) : ZoneSet := tmap (fun z x => x && !tget b z) a
def isNoZones (a : ZoneSet) : Bool := (zonesOf a).isEmpty

/-- The zones of a set that are enabled (R81). -/
def enabledZones (s : State) (zs : ZoneSet) : ZoneSet := tmap (fun z x => x && (tget s.mix.zones z).cfg.enabled) zs

/-! ### The chime (R85) -/

/-- The row is a note: no row up to it has duration 0 (R85). -/
def isNote (t : Vector ChimeEntry 4) (i : Fin 4) : Bool :=
  (everyFin 4).all fun j => decide (i < j) || decide (0 < (tget t j).duration)

/-- The chime length: the sum of the durations of the notes (R85). -/
def chimeLength (t : Vector ChimeEntry 4) : Nat :=
  ((everyFin 4).map fun i => if isNote t i then (tget t i).duration else 0).sum

/-- The phase increment of a tone: floor(f × 2^32 / 48,000 + 1/2) (R86, R146). -/
def phaseIncrement (f : Nat) : Word32 := BitVec.ofNat 32 ((f * 4294967296 + 24000) / 48000)

/-- The amplitude of a tone (R86, R146). -/
def toneAmplitude (taper : Vector Gain 256) (a : Code) : Nat := min 8388607 (taperGain taper a * 128)

/-- The sample of a square wave at a phase (R86, R146). -/
def toneSample (amplitude : Nat) (phase : Word32) : Int :=
  if phase.toNat < 2147483648 then (amplitude : Int) else -(amplitude : Int)

/-- A block of a tone and the phase after it (R86, R146). -/
def toneBlock (taper : Vector Gain 256) (freq : Nat) (a : Code) (phase : Word32) : Block × Word32 :=
  (Vector.ofFn fun n : Fin 48 =>
      toneSample (toneAmplitude taper a) (phase + BitVec.ofNat 32 n.val * phaseIncrement freq),
    phase + 48 * phaseIncrement freq)

/-! ### Slots (R23) -/

/-- The slot is in use: a claim names it, or it is bound for the RESERVE in service (R23). -/
def slotInUse (s : State) (i : SlotId) : Bool :=
  s.claims.table.toList.any (fun c => match c with
    | some c => c.slot == i
    | none => false) ||
  (match s.peer.service with
    | some v => v.slot == i
    | none => false)

/-! ### Lines (R177, R181) -/

/-- A line state is a fault state (R177). -/
def inFault (l : LineState) : Bool :=
  match l with
  | some .openLine => true
  | some .short => true
  | some .ampFault => true
  | some .ampAbsent => true
  | _ => false

/-- The code of a verdict as a line state; UNKNOWN is 0 (R177). -/
def lineStateCode : LineState → Nat
  | none => 0
  | some .normal => 1
  | some .degraded => 2
  | some .openLine => 3
  | some .short => 4
  | some .ampFault => 5
  | some .ampAbsent => 6

/-- The zone of a primary lane; none for a spare lane (section 10.1). -/
def zoneOfLane (l : LaneId) : Option ZoneId := if h : l.val < 24 then some ⟨l.val, h⟩ else none

/-- The primary lane of a zone. -/
def laneOfZone (z : ZoneId) : LaneId := ⟨z.val, by omega⟩

/-- The spare lanes 24 to 27, in order. -/
def spareLanes : List LaneId := [24, 25, 26, 27]

/-- A lane is supervised (R177). -/
def supervised (zones : Vector Zone 24) (l : LaneId) : Bool :=
  match zoneOfLane l with
  | some z => (tget zones z).cfg.supervision
  | none => true

/-- The zone record whose limits judge a lane: its zone's, or zone 0's for a spare lane (R177). -/
def judgingZone (zones : Vector Zone 24) (l : LaneId) : ZoneEntry :=
  match zoneOfLane l with
  | some z => (tget zones z).cfg
  | none => (tget zones 0).cfg

/-- The verdict of a window, by the first row that applies (R181). -/
def verdictOf (e : ZoneEntry) (r : LaneRecord) : Verdict :=
  let mean := r.loadSum / r.returns
  if 16 ≤ 256 - r.returns then .ampAbsent
  else if r.faultSeen then .ampFault
  else if e.openLimit ≤ mean then .openLine
  else if mean ≤ e.shortLimit then .short
  else if mean < e.nominalLow ∨ e.nominalHigh < mean then .degraded
  else .normal

/-- The spare lane that serves a zone, if one does (R183). -/
def servingSpare (s : State) (z : ZoneId) : Option LaneId :=
  spareLanes.find? fun l => (tget s.lines.lanes l).record.served == some z

/-- The lane that carries a zone's block (R177, R178). -/
def carrierLane (s : State) (z : ZoneId) : LaneId := (servingSpare s z).getD (laneOfZone z)

/-! ### Lamps and calls (R128, R139) -/

/-- The call of which a station is a member, with its member state. -/
def callOf (s : State) (st : StationId) : Option (CallId × Call × MemberState) :=
  (everyFin 16).findSome? fun i => match tget s.intercom.calls i with
    | some c => (c.members.find? (·.1 == st)).map fun m => (i, c, m.2)
    | none => none

/-- A program is RUNNING or WAITING in the alarm request list (R143). -/
def programPresent (s : State) (p : ProgramId) : Bool := s.alarm.list.any (·.program == p)

/-- The lamp that a key's function gives when its flash timer is 0 (R139). -/
def functionLamp (s : State) (st : StationId) (k : KeyId) : Lamp :=
  match tget (tget s.intercom.keymap st) k with
  | .none => .off
  | .unknown => .off
  | .call b =>
    match callOf s st with
    | some (_, c, _) =>
      if c.kind = .point ∧ (c.members.any fun m => m.1.val == b) then
        if c.connected then .on else .flashSlow
      else .off
    | none => .off
  | .answer =>
    match callOf s st with
    | some (_, _, .ringing) => .flashFast
    | _ => .off
  | .endCall => if (callOf s st).isSome then .on else .off
  | .join n =>
    match callOf s st with
    | some (_, c, _) => if c.kind = .conf n then .on else .off
    | none => .off
  | .page _ _ _ _ _ _ =>
    match (tget s.intercom.stations st).page with
    | some p =>
      if p.key = k then
        match p.claim with
        | none => .flashSlow
        | some c =>
          match claimAt s c with
          | some cl => if cl.state = .live then .on else .flashSlow
          | none => .off
      else .off
    | none => .off
  | .alarmStart p _ => if programPresent s (finUpTo 7 p) then .on else .off
  | .alarmStop p => if programPresent s (finUpTo 7 p) then .on else .off

/-- The lamp of a key: FLASH-FAST while its flash timer is above 0 (R139). -/
def lampOf (s : State) (st : StationId) (k : KeyId) : Lamp :=
  if 0 < tget (tget s.intercom.stations st).flash k then .flashFast else functionLamp s st k

/-! ### Codes of reports (chapter 12) -/

/-- The code of a report kind, 1 to 25 (section 12.1). -/
def reportCode : ReportKind → Nat
  | .linkChange => 1 | .holdover => 2 | .sourceLost => 3 | .sourceLive => 4 | .zoneState => 5 | .claimEnd => 6
  | .claimPartial => 7 | .showHold => 8 | .alarmStarted => 9 | .alarmStopped => 10 | .alarmDiscarded => 11
  | .alarmRefused => 12 | .clipMissing => 13 | .alarmUnheard => 14 | .lineState => 15 | .failover => 16
  | .restore => 17 | .stationPresence => 18 | .callEnd => 19 | .keyRefused => 20 | .clipState => 21
  | .patternMatch => 22 | .standalone => 23 | .imageInvalid => 24 | .fadeCancelled => 25

/-- The code of a claim's end reason (R91). -/
def reasonCode : EndReason → Nat
  | .released => 0 | .timeout => 1 | .preempted => 2 | .refused => 3 | .sourceLost => 4 | .stopped => 5
  | .complete => 6 | .reset => 7

/-- The code of a link state (R1). -/
def linkCode : LinkState → Nat
  | .down => 0 | .training => 1 | .up => 2

/-- The code of a clip state (R163). -/
def clipStateCode : ClipState → Nat
  | .empty => 0 | .opened => 1 | .ready => 2 | .bad => 3

/-- The subject of a FADE-CANCELLED report (R68). -/
def fadeSubject : FadeTarget → Nat
  | .crosspoint z s => z.val * 32 + s.val
  | .master z => 768 + z.val

end Sys2Proof.Machine
end

