-- ==== Sys2Proof/Machine/Replies.lean ====
section
/-! DEFINITION. Recording what an operation answers, and the REPLY of the frame in service (R190, R197). -/
namespace Sys2Proof.Machine

/-- The code refuses the operation (R194 to R196). -/
def isRefusal : ResultCode → Bool
  | .ok => false
  | .hit => false
  | .miss => false
  | _ => true

/-- One item for a held place, none for a free one. -/
def heldItem {α : Type} (o : Option α) : Nat := if o.isSome then 1 else 0

/-- The number of an entry form, and the number of items an entry of it lists: what its length may depend on. -/
def entryForm : ReadEntry → Nat × Nat
  | .source .. => (0, 0)
  | .level _ => (1, 0)
  | .gain _ => (2, 0)
  | .zone .. => (3, 0)
  | .group _ e => (4, e.peers.length)
  | .chime _ => (5, 0)
  | .station .. => (6, 0)
  | .key _ => (7, 0)
  | .program _ e => (8, e.steps.length)
  | .pattern _ => (9, 0)
  | .node .. => (10, 0)
  | .claim _ c => (11, heldItem c)
  | .claimList _ l _ => (12, l.length)
  | .outstanding _ e => (13, heldItem e)
  | .channel _ r => (14, heldItem r)
  | .call _ c => (15, match c with
    | some c => c.members.length
    | none => 0)
  | .alarm e _ _ => (16, heldItem e)
  | .clip _ e => (17, if e.state = .empty then 0 else 1)
  | .lane .. => (18, 0)
  | .counter _ => (19, 0)

/-- Bytes of an entry in a REPLY. -/
def entrySize (e : ReadEntry) : Nat := Config.entryBytes (entryForm e).1 (entryForm e).2

/-- Bytes of a result's data (R197). -/
def dataSize : ResultData → Nat
  | .none => 0
  | .taken _ => Config.takenBytes
  | .entries _ l => (l.map entrySize).sum
  | .missed _ e => entrySize e
  | .claim _ _ => Config.claimIdBytes

/-- Bytes of a result (R197). -/
def resultSize (r : Result) : Nat := Config.resultHeadBytes + dataSize r.data

/-- Bytes of a REPLY payload that holds the results given (R197). -/
def replySize (l : List Result) : Nat := Config.replyHeadBytes + (l.map resultSize).sum

/-- Bytes left in a REPLY payload after the results given (R197). -/
def replyRoom (l : List Result) : Nat := 4160 - replySize l

/-- The results placed so far for the frame in service (section 11.0). -/
def placedResults (s : State) : List Result :=
  match s.control.service with
  | some v => v.results
  | none => []

/-- A result is placed in the REPLY of the frame in service when it fits whole, and left out with the overflow flag set
otherwise (R197). -/
def placeResult (r : Result) (v : ControlService) : ControlService :=
  if resultSize r ≤ replyRoom v.results then { v with results := v.results ++ [r] } else { v with overflow := true }

/-- The frame in service is finished: its REPLY is originated if it owes one, and no frame is in service (R190, R197). -/
def finishFrame (v : ControlService) (s : State) : State :=
  let t := modControl (fun c => { c with service := none }) s
  if v.results.isEmpty && !v.overflow then t
  else originate replyKind v.origin (.reply ⟨v.frameNumber, v.results, v.overflow⟩) t

/-- The frame in service after an operation: it goes on with the next, refuses the first undecodable operation and ends
there, or has been carried out whole (R190). The refusal is counted OPERATIONS-REFUSED (R201; DEDUCED, log entry 20). -/
def continueFrame (v : ControlService) (s : State) : State :=
  if v.count ≤ v.index then finishFrame v s
  else if v.decodable ≤ v.index then
    finishFrame (placeResult ⟨v.index, .outOfRange, .none⟩ v) (count .operationsRefused s)
  else modControl (fun c => { c with service := some v }) s

/-- The place of the operation being carried out in its frame. -/
def operationIndex (s : State) : Nat :=
  match s.control.service with
  | some v => v.index
  | none => 0

/-- An operation has been carried out with the answer given. `owed` says that the REPLY carries the result whatever its
code: a READ, a WRITE-IF or a command returning a claim id; a refusal is always carried (R197). Every refusal is counted OPERATIONS-REFUSED, that
of a SELECT or WINDOW too (R193, R201; DEDUCED, log entry 20). -/
def finishOperation (owed : Bool) (code : ResultCode) (data : ResultData) (s : State) : State :=
  let r : Result := ⟨operationIndex s, code, data⟩
  let t := modControl (fun c => { c with answer := r }) s
  let t := if isRefusal code then count .operationsRefused t else t
  match s.control.service with
  | none => t
  | some v =>
    let w := if owed || isRefusal code then placeResult r v else v
    continueFrame { w with index := v.index + 1, waiting := false } t

/-- The result of a command that answers a code and no data (R196). -/
def commandDone (code : ResultCode) (s : State) : State := finishOperation false code .none s

/-- The next operation of the frame waits for the answer of another block (R190). -/
def awaitAnswer (s : State) : State :=
  modControl (fun c => { c with service := c.service.map fun v => { v with waiting := true } }) s

/-- The answer to a management start request: it belongs to the frame in service, or to a command given without one
(R190, R196). -/
def claimAnswer (framed : Bool) (code : ResultCode) (data : ResultData) (s : State) : State :=
  if framed then finishOperation true code data s
  else
    let t := modControl (fun c => { c with answer := ⟨0, code, data⟩ }) s
    if isRefusal code then count .operationsRefused t else t

end Sys2Proof.Machine
end

