-- ==== Sys2Proof/Machine/Slots.lean ====
section
/-! DEFINITION. Source slots: binding, capture and the judgment of source health (chapter 2). -/
namespace Sys2Proof.Machine

/-- A change of one slot. -/
def modSlot (i : SlotId) (f : Slot → Slot) (s : State) : State := modSlots (fun v => tmod v i f) s

/-- A slot as it stands when it becomes bound (R26, binding). -/
def boundSlot (b : Binding) (x : Slot) : Slot :=
  { x with binding := b, block := silence, fresh := false, miss := 0, health := .live }

/-- A slot as it stands when its binding becomes NONE (R26, unbinding). -/
def unboundSlot (x : Slot) : Slot :=
  { x with binding := .unbound, block := silence, fresh := false, miss := 50, health := .lost }

/-- A change of binding (R26). -/
def rebind (b : Binding) (i : SlotId) (s : State) : State :=
  modSlot i (fun x => if b = .unbound then unboundSlot x else boundSlot b x) s

/-- The ring slots 0 to 22 and the station slots 23 to 26 (section 2.1). -/
def ringSlots : List SlotId := (everyFin 32).filter fun i => decide (i.val < 23)
def stationSlots : List SlotId := [23, 24, 25, 26]

/-- The lowest-numbered free DYNAMIC slot (R27). -/
def freeDynamicSlot (s : State) : Option SlotId :=
  ringSlots.find? fun i => (tget s.slots i).mode == some .dynamic && (tget s.slots i).binding == .unbound

/-- The lowest-numbered station slot whose binding is NONE (R28). -/
def freeStationSlot (s : State) : Option SlotId := stationSlots.find? fun i => (tget s.slots i).binding == .unbound

/-- The slot number as the counters of slots 0 to 26 keep it (R34). -/
def countedSlot (i : SlotId) : Fin 27 := finUpTo 26 i.val

/-- A capture into a slot: the block replaced, the fresh flag set, SLOT-OVERRUN counted if it was set (R29). -/
def capture (i : SlotId) (b : Block) (s : State) : State :=
  let overrun := (tget s.slots i).fresh
  let t := modSlot i (fun x => { x with block := b, fresh := true }) s
  if overrun then count (.slotOverrun (countedSlot i)) t else t

/-- The ring slots that capture a frame of an origin with a bundle number and a channel count, each with its bound
channel (R29). -/
def capturingSlots (s : State) (origin bundle channels : Nat) : List (SlotId × Nat) :=
  ringSlots.filterMap fun i => match (tget s.slots i).binding with
    | .ring o b c => if o = origin ∧ b = bundle ∧ c < channels then some (i, c) else none
    | _ => none

/-- A new AUDIO frame is handed to the slot unit (R29). -/
def audioCapture (origin : Nat) (payload : List Byte) (s : State) : State :=
  match capturingSlots s origin (byteAt payload 0) (byteAt payload 1) with
  | [] => count .audioUnmatched s
  | l => forEach l (fun x => capture x.1 (blockAt payload (6 + 144 * x.2))) s

/-- A station's microphone block is delivered to the slots bound to the station (R30). -/
def stationCapture (st : StationId) (b : Block) (s : State) : State :=
  forEach (stationSlots.filter fun i => (tget s.slots i).binding == .station st) (fun i => capture i b) s

/-- The judgment of one ring or station slot at a boundary, but for the 50th consecutive miss, which is the SOURCE_LOST
row's (R31, R32). An unbound slot is not judged. -/
def judgeSlot (i : SlotId) (s : State) : State :=
  let x := tget s.slots i
  if x.binding = .unbound then s
  else if x.fresh then
    let t := modSlot i (fun x => { x with miss := 0, health := .live, fresh := false }) s
    if x.health = .lost then report .sourceLive i.val 0 t else t
  else if x.miss = 0 then
    count (.slotLate (countedSlot i)) (modSlot i (fun x => { x with miss := 1, health := .late }) s)
  else if x.miss < 49 then
    count (.slotMuted (countedSlot i))
      (modSlot i (fun x => { x with miss := x.miss + 1, health := .muted, block := silence }) s)
  else s

/-- A ring or station slot that reaches its 50th consecutive miss at this boundary (R31). -/
def losesSource (s : State) (i : SlotId) : Bool :=
  let x := tget s.slots i
  decide (i.val < 27) && x.binding != .unbound && !x.fresh && x.miss == 49

/-- The slots that are judged: 0 to 26 (R31). -/
def judgedSlots : List SlotId := (everyFin 32).filter fun i => decide (i.val < 27)

/-- A generator writes the block of its slot (R33). -/
def writeGenerator (i : SlotId) (b : Block) (s : State) : State := modSlot i (fun x => { x with block := b }) s

end Sys2Proof.Machine
end

