-- ==== Sys2Proof/Machine/Clips.lean ====
section
/-! DEFINITION. The clip store: the flash port, the write queue, the clip players and the sector allocation
(chapter 9). -/
namespace Sys2Proof.Machine

/-- A change of one clip player. -/
def modPlayer (p : ChanId) (f : Player → Player) (s : State) : State :=
  modClips (fun c => { c with players := tmod c.players p f }) s

/-- A clip player. -/
def playerOf (s : State) (p : ChanId) : Player := tget s.clips.players p

/-- The directory entry of a clip. -/
def clipAt (s : State) (c : ClipId) : DirEntry := tget s.clips.directory c

/-! ### The flash port (R169, R170) -/

/-- The sectors that a write request has still to write (R169). -/
def writeTargets (w : WriteRequest) : List Nat :=
  match w.kind with
  | .clip sector _ => [sector].drop w.finished
  | .directory => [8, 9].drop w.finished
  | .image _ => (List.range 8).drop w.finished

/-- A directory sector of 32 entries, with the CRC-32 over them (section 9.1, R169). -/
def directoryBytes (l : List DirEntry) : List Byte :=
  let b := l.flatMap Config.directoryForm
  (Config.directorySector b (crc32 b)).toList

/-- The 32 entries of directory sector 8 or 9, counted from 0 (section 9.1). -/
def directoryHalf (s : State) (i : Nat) : List DirEntry := (s.clips.directory.toList.drop (32 * i)).take 32

/-- The 4096 bytes of an image's sector (section 11.5). -/
def imageSlice (image : List Byte) (i : Nat) : List Byte := (image.drop (4096 * i)).take 4096

/-- The bytes of a request's next sector, as they stand when that sector's write begins (R169). -/
def writeContent (s : State) (w : WriteRequest) : List Byte :=
  match w.kind with
  | .clip _ data => data
  | .directory => directoryBytes (directoryHalf s w.finished)
  | .image bytes => imageSlice bytes w.finished

/-- A read can be taken: no write requested before it is still to write its sector (R170, step 1). -/
def readEligible (writes : List WriteRequest) (r : ReadRequest) : Bool :=
  writes.all fun w => decide (r.stamp ≤ w.stamp) || !(writeTargets w).contains r.sector

/-- The oldest read that can be taken, and the reads left (R170, step 1). -/
def chooseRead (writes : List WriteRequest) : List ReadRequest → Option (ReadRequest × List ReadRequest)
  | [] => none
  | r :: rs => if readEligible writes r then some (r, rs) else (chooseRead writes rs).map fun x => (x.1, r :: x.2)

/-- The flash port arbiter chooses the next operation when the port is idle (R170). -/
def arbitrateFlash (s : State) : State :=
  if s.clips.inFlight.isSome then s
  else match chooseRead s.clips.writes s.clips.reads with
    | some (r, rest) => modClips (fun c => { c with inFlight := some (.read r), reads := rest }) s
    | none => match s.clips.writes with
      | [] => s
      | w :: ws => match writeTargets w with
        | [] => s
        | sector :: _ =>
          modClips (fun c =>
            { c with inFlight := some (.write sector (writeContent s w)), writes := { w with begun := true } :: ws }) s

/-- A read is requested (R170). -/
def requestRead (reader : Reader) (sector : Nat) (s : State) : State :=
  arbitrateFlash (modClips (fun c =>
    { c with reads := c.reads ++ [⟨reader, sector, c.stamp⟩], stamp := c.stamp + 1 }) s)

/-- A write request joins the end of the write queue (R169). -/
def queueWrite (kind : WriteKind) (s : State) : State :=
  arbitrateFlash (modClips (fun c =>
    { c with writes := c.writes ++ [⟨kind, 0, false, c.stamp⟩], stamp := c.stamp + 1 }) s)

/-- A write is a directory write that has not begun (R169). -/
def mergeable (w : WriteRequest) : Bool :=
  match w.kind with
  | .directory => !w.begun
  | _ => false

/-- A directory write can be merged or added (R169). -/
def canQueueDirectory (writes : List WriteRequest) : Bool :=
  (match writes.getLast? with
    | some w => mergeable w
    | none => false) || decide (writes.length < 4)

/-- A directory write is queued: merged with the last request, or added (R169). -/
def queueDirectory (s : State) : State :=
  match s.clips.writes.getLast? with
  | some w => if mergeable w then s else queueWrite .directory s
  | none => queueWrite .directory s

/-! ### Clip players (R171 to R173) -/

/-- A read belongs to a player. -/
def readOfPlayer (p : ChanId) (r : ReadRequest) : Bool :=
  match r.reader with
  | .player q _ => q == p
  | _ => false

/-- The data of a read that a player has requested will be discarded (R172, R173). -/
def orphanRequest (p : ChanId) (r : ReadRequest) : ReadRequest :=
  if readOfPlayer p r then { r with reader := .nobody } else r

/-- The data of a player's read in flight will be discarded (R172, R173). -/
def orphanRead (p : ChanId) : FlashOp → FlashOp
  | .read r => .read (orphanRequest p r)
  | .write sector content => .write sector content

/-- A player that has completed its clip: IDLE with owner none. Reads of the buffers it releases complete, and their data
is discarded (R172). -/
def releasePlayer (p : ChanId) (s : State) : State :=
  modClips (fun c =>
    { c with
      players := tset c.players p idlePlayer
      reads := c.reads.map (orphanRequest p)
      inFlight := c.inFlight.map (orphanRead p) }) s

/-- A player is stopped: IDLE with owner none, its waiting reads withdrawn, its read in flight discarded (R173). A stop of
a player that is already so has no effect. Reads that an earlier playback left waiting when it completed are nobody's by
then, and are not withdrawn (DESIGN CHOICE, log entry 35). -/
def stopPlayer (p : ChanId) (s : State) : State :=
  if (playerOf s p).state = .idle ∧ (playerOf s p).owner = .none then s
  else modClips (fun c =>
    { c with
      players := tset c.players p idlePlayer
      reads := c.reads.filter fun r => !readOfPlayer p r
      inFlight := c.inFlight.map (orphanRead p) }) s

/-- A player as it stands when it is started on a clip (R171, start). -/
def startedPlayer (owner : PlayerOwner) (clip : ClipId) (e : DirEntry) : Player where
  state := .starting
  owner := owner
  clip := clip
  samples := e.samples
  sectors := e.sectors
  first := e.first
  position := 0
  buffers := #v[⟨some 0, false, []⟩, ⟨if 2 ≤ e.sectors then some 1 else none, false, []⟩]

/-- A player is started on a READY clip for an owner (R171). -/
def startPlayer (p : ChanId) (owner : PlayerOwner) (clip : ClipId) (s : State) : State :=
  let e := clipAt s clip
  let t := requestRead (.player p 0) e.first (modPlayer p (fun _ => startedPlayer owner clip e) s)
  if 2 ≤ e.sectors then requestRead (.player p 1) (e.first + 1) t else t

/-- The place of the buffer that a clip sector goes into (R171). -/
def bufferIx (sector : Nat) : Fin 2 := Fin.ofNat 2 (sector % 2)

/-- The data of a player's sector read is handed over; it is discarded when the buffer no longer awaits the sector
(R171, R172). -/
def fillBuffer (p : ChanId) (sector : Nat) (data : List Byte) (s : State) : State :=
  let b := tget (playerOf s p).buffers (bufferIx sector)
  if (playerOf s p).state ≠ .idle ∧ b.sector = some sector then
    modPlayer p (fun x =>
      { x with
        buffers := tset x.buffers (bufferIx sector) ⟨some sector, true, data⟩
        state := if sector = 0 ∧ x.state = .starting then .playing else x.state }) s
  else s

/-- The 16-bit value of a sample of a sector buffer (section 9.1). -/
def clipSample (data : List Byte) (i : Nat) : Int := (BitVec.ofNat 16 (word16At data (2 * i))).toInt

/-- The buffer of a sample's sector is filled with that sector (R172). -/
def bufferReady (x : Player) (i : Nat) : Bool :=
  let b := tget x.buffers (bufferIx (i / 2048))
  b.filled && b.sector == some (i / 2048)

/-- One sample of a player's block (R172). -/
def playerSample (x : Player) (i : Nat) : Int :=
  if x.samples ≤ i then 0 else clipSample (tget x.buffers (bufferIx (i / 2048))).data (i % 2048) * 256

/-- The block needs a buffer that is not filled (R172). -/
def underruns (x : Player) : Bool :=
  (everyFin 48).any fun n => decide (x.position + n.val < x.samples) && !bufferReady x (x.position + n.val)

/-- The block of a PLAYING player (R172, 1). -/
def playerBlock (x : Player) : Block :=
  if underruns x then silence else Vector.ofFn fun n : Fin 48 => playerSample x (x.position + n.val)

/-- A PLAYING player enters a new sector: the buffer of the sector before is cleared, and the sector after the new one
is requested into it (R172, 3). -/
def enterSector (p : ChanId) (j : Nat) (s : State) : State :=
  let more : Bool := decide (j + 1 < (playerOf s p).sectors)
  let t := modPlayer p (fun x =>
    { x with buffers := tset x.buffers (bufferIx (j + 1)) ⟨if more then some (j + 1) else none, false, []⟩ }) s
  if more then requestRead (.player p (j + 1)) ((playerOf s p).first + (j + 1)) t else t

/-- The slot that a player writes (R33). -/
def playerSlot (p : ChanId) : SlotId := ⟨29 + p.val, by omega⟩

/-- The player whose slot this is, if it is one. -/
def playerOfSlot (i : SlotId) : Option ChanId := if i = 29 then some 0 else if i = 30 then some 1 else none

/-- A PLAYING player plays one block and advances (R172, 1 to 3). -/
def playBlock (p : ChanId) (s : State) : State :=
  let x := playerOf s p
  let t := modSlots (fun v => tmod v (playerSlot p) fun y => { y with block := playerBlock x }) s
  let t := if underruns x then count (.clipUnderruns p) t else t
  let t := modPlayer p (fun y => { y with position := x.position + 48 }) t
  let j := (x.position + 48) / 2048
  if x.position / 2048 < j ∧ j < x.sectors then enterSector p j t else t

/-- A player that played its final block at an earlier boundary (R172, 4). -/
def playedOut (x : Player) : Bool := x.state == .playing && decide (x.samples ≤ x.position)

/-- An alarm channel holds the player: it has a RUNNING entry (R157). -/
def heldByAlarm (s : State) (p : ChanId) : Bool := (tget s.alarm.channels p).program.isSome

/-- The lowest-numbered player that is free and not held by an alarm channel (R174, 3). -/
def freePlayer (s : State) : Option ChanId :=
  (everyFin 2).find? fun p =>
    (playerOf s p).state == .idle && (playerOf s p).owner == .none && !heldByAlarm s p

/-- A player holds a clip: STARTING or PLAYING it, or reserved for a playback of it (R168). -/
def playerHolds (s : State) (c : ClipId) : Bool :=
  (everyFin 2).any fun p =>
    (playerOf s p).clip == c && !((playerOf s p).state == .idle && (playerOf s p).owner == .none)

/-! ### Sector allocation (R163, R165) -/

/-- The sectors a to b − 1 are all free of the entry (R163). -/
def clearOf (a b : Nat) (e : DirEntry) : Bool :=
  e.state == .empty || decide (b ≤ e.first) || decide (e.first + e.sectors ≤ a)

/-- The n sectors from a on lie in the clip area and are free (R165). -/
def runFree (dir : List DirEntry) (a n : Nat) : Bool := decide (a + n ≤ 8192) && dir.all (clearOf a (a + n))

/-- The search upward from a sector for the first run of n free sectors (R165). -/
def firstFit (dir : List DirEntry) (n : Nat) : Nat → Nat → Option Nat
  | 0, _ => none
  | fuel + 1, a => if runFree dir a n then some a else firstFit dir n fuel (a + 1)

/-- The sector count of a sample count (R163). -/
def sectorCount (samples : Nat) : Nat := (samples + 2047) / 2048

/-- The first free run of the clip area (R165). -/
def allocate (s : State) (n : Nat) : Option Nat := firstFit s.clips.directory.toList n 8182 10

/-- An entry of the directory is replaced, and its change of state reported (R163). -/
def setClip (c : ClipId) (e : DirEntry) (s : State) : State :=
  report .clipState c.val (clipStateCode e.state) (modClips (fun x => { x with directory := tset x.directory c e }) s)

/-- An EMPTY entry (R163). -/
def emptyClip : DirEntry := ⟨.empty, 0, 0, 0, 0⟩

/-- Some clip is OPEN (R165). -/
def anyOpen (s : State) : Bool := s.clips.directory.toList.any fun e => e.state == .opened

/-- The clip of a number that a command carries, when it is in range (R165 to R168). -/
def clipOfNumber (n : Nat) : Option ClipId := if h : n < 64 then some ⟨n, h⟩ else none

/-- The write is one that a CLIP-DELETE of an OPEN clip removes: a clip sector write in the clip's sectors that has not
begun (R168). A write to those sectors that an earlier clip queued, deleted before it was written, is removed with them:
the manual does not tell the two apart, and the model does not either (DESIGN CHOICE, log entry 21). -/
def writesClip (e : DirEntry) (w : WriteRequest) : Bool :=
  match w.kind with
  | .clip sector _ => !w.begun && decide (e.first ≤ sector) && decide (sector < e.first + e.sectors)
  | _ => false

end Sys2Proof.Machine
end

