-- ==== Sys2Proof/Machine/PeerFile.lean ====
section
/-! DEFINITION. The outstanding claim file and the transmit channel table, and the CLAIM frames that go with them
(sections 6.1 to 6.4). -/
namespace Sys2Proof.Machine

/-! ### CLAIM frames (section 6.3) -/

/-- A CLAIM frame is originated to a node (R13). -/
def sendClaim (dest : Nat) (payload : List Byte) (s : State) : State := originate claimKind dest (.bytes payload) s

/-- The payload of a COMMIT, kind 2, or a RELEASE, kind 3, padded to four bytes (section 6.3). -/
def shortPayload (kind tag : Nat) : List Byte := [toByte kind, toByte tag, 0, 0]

/-- A COMMIT is sent for an entry. -/
def sendCommit (tag : TagId) (peer : Nat) (s : State) : State := sendClaim peer (shortPayload 2 tag.val) s

/-- A RELEASE is sent for an entry. -/
def sendRelease (tag : TagId) (peer : Nat) (s : State) : State := sendClaim peer (shortPayload 3 tag.val) s

/-- The answer codes (R105). -/
inductive AnswerCode | granted | partialGrant | refused | noGroup | noSlot | busy | gone | preempted
  deriving DecidableEq, Repr, Inhabited

/-- The number of an answer code (R105). -/
def answerNumber : AnswerCode → Nat
  | .granted => 0 | .partialGrant => 1 | .refused => 2 | .noGroup => 3 | .noSlot => 4 | .busy => 5 | .gone => 6
  | .preempted => 7

/-- The payload of an ANSWER (section 6.3). -/
def answerPayload (tag answered : Nat) (code : AnswerCode) (granted requested : Nat) : List Byte :=
  [4, toByte tag, toByte answered, toByte (answerNumber code), toByte granted, toByte requested]

/-- An ANSWER is originated to the origin of a CLAIM frame, with its tag and the claim kind answered (R105). -/
def sendAnswer (origin tag answered : Nat) (code : AnswerCode) (granted requested : Nat) (s : State) : State :=
  sendClaim origin (answerPayload tag answered code granted requested) s

/-- The code of a mode, a policy and a flag in a CLAIM frame (section 6.3). -/
def modeCode : ClaimMode → Nat
  | .duck => 0
  | .exclusive => 1
def policyCode : Policy → Nat
  | .all => 0
  | .best => 1
def flagCode (b : Bool) : Nat := if b then 1 else 0

/-- The payload of a RESERVE (section 6.3). -/
def reservePayload (tag : TagId) (group : Nat) (c : Claim) (origin bundle channel : Nat) : List Byte :=
  [1, toByte tag.val, toByte group, toByte c.priority, toByte c.rank, toByte (modeCode c.mode),
    toByte (policyCode c.policy), toByte (flagCode c.chime), toByte origin, toByte bundle, toByte channel]

/-! ### Entries and channels (R102, R103) -/

/-- An entry of the outstanding claim file; `none` is FREE. -/
def entryAt (s : State) (t : TagId) : Option OutEntry := tget s.peer.file t

/-- An entry is written. -/
def setEntry (t : TagId) (e : Option OutEntry) (s : State) : State :=
  modPeer (fun p => { p with file := tset p.file t e }) s

/-- A transmit channel record, freed when its local hold is clear and its peer count is 0 (R103). -/
def settleTx (r : TxRecord) : Option TxRecord := if r.hold = false ∧ r.peers = 0 then none else some r

/-- The peer count of a transmit channel falls by 1 (R103). -/
def dropPeer (k : TxId) (s : State) : State :=
  modPeer (fun p => { p with tx := tmod p.tx k fun r => r.bind fun r => settleTx { r with peers := r.peers - 1 } }) s

/-- An entry becomes FREE, and the peer count of its transmit channel falls by 1 (section 6.4, R103). -/
def freeEntry (t : TagId) (s : State) : State :=
  match entryAt s t with
  | none => s
  | some e =>
    let u := setEntry t none s
    match e.channel with
    | some k => dropPeer k u
    | none => u

/-- The tags whose entry belongs to a claim that exists and satisfies p. An entry in RELEASE-SENT belongs to a claim that
has ended, whose id may have been given again (R77). -/
def entriesOf (s : State) (c : ClaimId) (p : OutState → Bool) : List TagId :=
  (everyFin 8).filter fun t => match entryAt s t with
    | some e => e.claim == c && e.state != .releaseSent && p e.state
    | none => false

/-- The local hold of a claim's transmit channel is cleared (R103, R110). A record whose hold is clear belongs to a
claim that has ended. -/
def clearHold (c : ClaimId) (s : State) : State :=
  modPeer (fun p => { p with tx := tmap (fun _ r => r.bind fun r =>
    if r.claim = c ∧ r.hold = true then settleTx { r with hold := false } else some r) p.tx }) s

/-- An entry is given a state and a fresh deadline (R109, R110). -/
def renewEntry (t : TagId) (e : OutEntry) (state : OutState) (s : State) : State :=
  setEntry t (some { e with state := state, deadline := deadlineIn s.control.node.answerTimeout s }) s

/-- One entry of a local claim that ends: RELEASE is sent and the entry becomes RELEASE-SENT (R110). -/
def releaseEntry (t : TagId) (s : State) : State :=
  match entryAt s t with
  | some e => sendRelease t e.peer (renewEntry t e .releaseSent s)
  | none => s

/-- A local claim has ended: its entries are released, and its transmit channel loses its local hold (R110). -/
def releasePeers (c : ClaimId) (s : State) : State :=
  clearHold c (forEach (entriesOf s c fun _ => true) releaseEntry s)

/-- COMMIT is sent for one RESERVED entry, which becomes COMMIT-SENT (R109). -/
def commitEntry (t : TagId) (s : State) : State :=
  match entryAt s t with
  | some e => sendCommit t e.peer (renewEntry t e .commitSent s)
  | none => s

/-- A local claim has committed: COMMIT goes to each of its peers that is RESERVED (R109). -/
def commitPeers (c : ClaimId) (s : State) : State := forEach (entriesOf s c (· == .reserved)) commitEntry s

/-! ### The hand-on (R101, R102) -/

/-- The lowest-numbered FREE entry, and the lowest-numbered free transmit channel (R102). -/
def freeTag (s : State) : Option TagId := (everyFin 8).find? fun t => (entryAt s t).isNone
def freeTx (s : State) : Option TxId := (everyFin 4).find? fun k => (tget s.peer.tx k).isNone

/-- The number of FREE entries (R101). -/
def freeTags (s : State) : Nat := ((everyFin 8).filter fun t => (entryAt s t).isNone).length

/-- The audio of a slot is already on the ring (R102, 1). -/
def ringBound (s : State) (i : SlotId) : Bool :=
  match (tget s.slots i).binding with
  | .ring _ _ _ => true
  | _ => false

/-- The peer unit's answer to check 3 of R80: enough FREE entries, and a transmit channel if one is needed. A station page
always needs one: its slot is a station slot (R101). -/
def enoughPeers (s : State) (peers : Nat) (slot : Option SlotId) : Bool :=
  decide (peers ≤ freeTags s) &&
    ((match slot with
      | some i => ringBound s i
      | none => false) || (freeTx s).isSome)

/-- The transmit channel that a hand-on takes: none when the slot's audio is already on the ring (R102, 1). -/
def handOnChannel (s : State) (i : SlotId) : Option TxId := if ringBound s i then none else freeTx s

/-- The audio reference of a hand-on (R102, 1). -/
def audioReference (s : State) (i : SlotId) : Nat × Nat × Nat :=
  match (tget s.slots i).binding with
  | .ring o b c => (o, b, c)
  | _ => (s.ring.nodeId, 0, match freeTx s with
    | some k => k.val
    | none => 0)

/-- One peer of a hand-on takes the lowest-numbered FREE entry (R102, 2). -/
def takeEntry (c : ClaimId) (k : Option TxId) (p : PeerRef) (s : State) : State :=
  match freeTag s with
  | some t => setEntry t (some ⟨.reserveSent, c, p.node, p.group, k, deadlineIn s.control.node.answerTimeout s⟩) s
  | none => s

/-- One RESERVE of a hand-on (R102, 3). -/
def sendReserve (cl : Claim) (ref : Nat × Nat × Nat) (t : TagId) (s : State) : State :=
  match entryAt s t with
  | some e => count .reservesSent (sendClaim e.peer (reservePayload t e.group cl ref.1 ref.2.1 ref.2.2) s)
  | none => s

/-- A claim with peers is handed to the peer unit: audio reference, entries, RESERVE frames (R102). -/
def handOnPeers (c : ClaimId) (cl : Claim) (peers : List PeerRef) (s : State) : State :=
  let ref := audioReference s cl.slot
  let k := handOnChannel s cl.slot
  let t := match k with
    | some k => modPeer (fun p => { p with tx := tset p.tx k (some ⟨c, cl.slot, true, peers.length⟩) }) s
    | none => s
  let t := forEach peers (takeEntry c k) t
  let t := modClaims (fun x => { x with table := tmod x.table c (Option.map fun y => { y with handed := peers.length }) }) t
  forEach (entriesOf t c (· == .reserveSent)) (sendReserve cl ref) t

/-! ### The page bundle (R104) -/

/-- The block that one channel of the page bundle carries (R104). -/
def bundleBlock (slots : Vector Slot 32) (r : Option TxRecord) : Block :=
  match r with
  | some r => if r.hold then (tget slots r.slot).block else silence
  | none => silence

/-- The channels of the page bundle: up to the highest allocated one (R104). -/
def bundleChannels (s : State) : Nat :=
  ((everyFin 4).map fun k => if (tget s.peer.tx k).isSome then k.val + 1 else 0).foldl max 0

/-- The payload of the page bundle (R6, R104). -/
def bundlePayload (s : State) : List Byte :=
  [0, toByte (bundleChannels s)] ++ bytes32 s.ring.period ++
    ((everyFin 4).take (bundleChannels s)).flatMap fun k => blockBytes (bundleBlock s.slots (tget s.peer.tx k))

/-- The page bundle is sent at a boundary with an allocated transmit channel (R104). -/
def sendBundle (s : State) : State :=
  if bundleChannels s = 0 then s else originate audioKind 255 (.bytes (bundlePayload s)) s

end Sys2Proof.Machine
end

