-- ==== Sys2Proof/Machine/Claims.lean ====
section
/-! DEFINITION. The claim unit: claim lists, the claim request queue, the start, the commit and the end of a claim
(chapter 5). -/
namespace Sys2Proof.Machine

/-- A change of one claim, of one station, of one alarm channel. -/
def modClaim (c : ClaimId) (f : Claim → Claim) (s : State) : State :=
  modClaims (fun x => { x with table := tmod x.table c (Option.map f) }) s
def modStation (st : StationId) (f : Station → Station) (s : State) : State :=
  modIntercom (fun x => { x with stations := tmod x.stations st f }) s
def modChannel (ch : ChanId) (f : Channel → Channel) (s : State) : State :=
  modAlarm (fun x => { x with channels := tmod x.channels ch f }) s

/-- A station, and an alarm channel. -/
def stationOf (s : State) (st : StationId) : Station := tget s.intercom.stations st
def channelOf (s : State) (ch : ChanId) : Channel := tget s.alarm.channels ch

/-! ### Zone states (R96) -/

/-- A report that a reset leaves out (R100). -/
def reportUnless (quiet : Bool) (kind : ReportKind) (subject value : Nat) (s : State) : State :=
  if quiet then s else report kind subject value s

/-- The claim list of a zone has changed: its zone state is derived again and reported when it differs from the last
state reported (R96); a reset makes no report of it (R100). -/
def noteZone (quiet : Bool) (z : ZoneId) (s : State) : State :=
  let new := zoneStateIn s.claims.table (listOf s z)
  if new = tget s.claims.reported z then s
  else reportUnless quiet .zoneState z.val (zoneStateCode new)
    (modClaims (fun x => { x with reported := tset x.reported z new }) s)

/-- A zone's claim list is written. -/
def setList (z : ZoneId) (l : List ListEntry) (s : State) : State :=
  modClaims (fun x => { x with lists := tset x.lists z l }) s

/-- A claim's entry is removed from a zone's list (R78). -/
def removeEntry (quiet : Bool) (c : ClaimId) (z : ZoneId) (s : State) : State :=
  noteZone quiet z (setList z ((listOf s z).filter fun e => e.claim != c) s)

/-! ### The end of a claim (R91) -/

/-- A member state of a station is changed in the call it is a member of. -/
def mapMember (st : StationId) (f : MemberState → MemberState) (s : State) : State :=
  modIntercom (fun x =>
    { x with calls := tmap (fun _ c => Option.map (fun c : Call =>
      { c with members := c.members.map fun m => if m.1 = st then (m.1, f m.2) else m }) c) x.calls }) s

/-- The flash timer of a key is set to 250 scans (R139). -/
def flashKey (st : StationId) (k : KeyId) (s : State) : State :=
  modStation st (fun x => { x with flash := tset x.flash k 250 }) s

/-- The PAGE key of a station's page with the claim given flashes (R139). -/
def flashPage (st : StationId) (c : ClaimId) (s : State) : State :=
  match (stationOf s st).page with
  | some p => if p.claim = some c then flashKey st p.key s else s
  | none => s

/-- The end reasons that set the PAGE key's flash timer (R139). -/
def flashingEnd : EndReason → Bool
  | .timeout => true
  | .preempted => true
  | .refused => true
  | _ => false

/-- The intercom controller is told of the end of a page claim: lamp, page in progress, HELD member (R136, R139). -/
def tellStation (st : StationId) (c : ClaimId) (reason : EndReason) (s : State) : State :=
  let t := if flashingEnd reason then flashPage st c s else s
  let t := modStation st (fun x =>
    { x with page := match x.page with
      | some p => if p.claim = some c then none else some p
      | none => none }) t
  mapMember st (fun m => if m = .held then .within else m) t

/-- An end of an inbound claim of which the origin is told by an unsolicited PREEMPTED (R117). -/
def preemptingEnd : EndReason → Bool
  | .preempted => true
  | .sourceLost => true
  | .reset => true
  | _ => false

/-- The RESERVE of an origin and tag is in service: its claim's end is told by the answer to it (R84, R113, R117). -/
def inServiceFor (s : State) (node tag : Nat) : Bool :=
  match s.peer.service with
  | some v => v.reserve.origin == node && v.reserve.tag == tag
  | none => false

/-- The peer unit tells the origin of an inbound claim of its end, when the end is one it is told of (R117). -/
def tellOrigin (node tag requested : Nat) (reason : EndReason) (s : State) : State :=
  if preemptingEnd reason && !inServiceFor s node tag then
    count .inboundPreempted (sendAnswer node tag 0 .preempted 0 requested s)
  else s

/-- The claim's slot is released to its owner (R91, 2). -/
def releaseSlot (c : ClaimId) (cl : Claim) (reason : EndReason) (s : State) : State :=
  match cl.owner with
  | .station _ => rebind .unbound cl.slot s
  | .peer _ _ => rebind .unbound cl.slot s
  | .alarm _ => s
  | .management =>
    match playerOfSlot cl.slot with
    | some p => if reason ≠ .complete ∧ (playerOf s p).owner = .management (some c) then stopPlayer p s else s
    | none => s

/-- The owner is told the reason (R91, 4). The control interpreter learns of the end of a management claim from the
CLAIM-END report, or from the answer to its own operation. -/
def tellOwner (c : ClaimId) (cl : Claim) (reason : EndReason) (s : State) : State :=
  match cl.owner with
  | .station st => releasePeers c (tellStation st c reason s)
  | .management => releasePeers c s
  | .alarm ch => modChannel ch (fun x => { x with claim := if x.claim = some c then none else x.claim }) s
  | .peer node tag => tellOrigin node tag (zonesOf cl.target).length reason s

/-- A claim ends with a reason (R91). An end that finds no claim changes nothing (R92). -/
def endClaim (reason : EndReason) (c : ClaimId) (s : State) : State :=
  match claimAt s c with
  | none => s
  | some cl =>
    let t := forEach (zonesWhere s c fun _ => true) (removeEntry (reason == .reset) c) s
    let t := releaseSlot c cl reason t
    let t := modClaims (fun x => { x with table := tset x.table c none }) t
    let t := tellOwner c cl reason t
    reportUnless (reason == .reset) .claimEnd c.val (reasonCode reason) t

/-- An entry of a claim has been taken from it by an eviction or a zone disable: zones lost, and the end of a claim with
no zone left (R84, R95). The number goes on past 24 when a zone is lost again after it was given back (DESIGN CHOICE, log
entry 28). -/
def loseEntry (c : ClaimId) (s : State) : State :=
  let t := modClaim c (fun x => { x with lost := x.lost + 1 }) s
  if holdsAnyZone t c then t else endClaim .preempted c t

/-! ### Insertion (R82 to R84) -/

/-- The list with an entry of a claim put in its place by precedence (R78, R82). -/
def insertIn (table : Vector (Option Claim) 48) (cl : Claim) (new : ListEntry) : List ListEntry → List ListEntry
  | [] => [new]
  | e :: es =>
    match tget table e.claim with
    | some x => if outranks cl x then new :: e :: es else e :: insertIn table cl new es
    | none => e :: insertIn table cl new es

/-- The entry takes the first place of the list (R82). -/
def takesFirst (table : Vector (Option Claim) 48) (cl : Claim) (l : List ListEntry) : Bool :=
  match onAirIn table l with
  | none => l.isEmpty
  | some (_, x) => outranks cl x

/-- A RESERVED entry that is pushed from first place loses its intact flag (R84). -/
def pushFirst (l : List ListEntry) : List ListEntry :=
  match l with
  | [] => []
  | e :: es => (if e.live then e else { e with intact := false }) :: es

/-- The list after an insertion with a place free (R82, R84). -/
def inserted (table : Vector (Option Claim) 48) (c : ClaimId) (cl : Claim) (live : Bool) (l : List ListEntry) :
    List ListEntry :=
  if takesFirst table cl l then ⟨c, live, true⟩ :: pushFirst l else insertIn table cl ⟨c, live, false⟩ l

/-- The entry of a full list that a new entry evicts: the last, when the new entry stands before it (R83). -/
def evictedBy (table : Vector (Option Claim) 48) (cl : Claim) (l : List ListEntry) : Option ListEntry :=
  match l.getLast? with
  | some e => match tget table e.claim with
    | some x => if outranks cl x then some e else none
    | none => none
  | none => none

/-- An entry of a claim is inserted into the list of a zone: its place, an eviction, or a lost zone (R82 to R84). -/
def insertEntry (c : ClaimId) (live : Bool) (z : ZoneId) (s : State) : State :=
  match claimAt s c with
  | none => s
  | some cl =>
    let l := listOf s z
    if l.length < 4 then noteZone false z (setList z (inserted s.claims.table c cl live l) s)
    else match evictedBy s.claims.table cl l with
      | some e =>
        let t := noteZone false z (setList z (inserted s.claims.table c cl live l.dropLast) s)
        loseEntry e.claim (count (.entriesEvicted z) t)
      | none => count (.zonesLost z) (modClaim c (fun x => { x with lost := x.lost + 1 }) s)

/-- A zone has been disabled: every entry of its list is removed, from the last to the first, each with the effects of an
eviction (R95; log entry 12). -/
def disableZone (z : ZoneId) (s : State) : State :=
  forEach (listOf s z).reverse
    (fun e t => loseEntry e.claim (count (.entriesEvicted z) (removeEntry false e.claim z t))) s

/-! ### Commit (R88 to R90) -/

/-- Every target zone holds an intact entry of the claim (R88). -/
def allIntact (s : State) (c : ClaimId) (cl : Claim) : Bool :=
  (zonesOf cl.target).all fun z => match entryIn (listOf s z) c with
    | some e => e.intact
    | none => false

/-- Every entry the claim was handed on with is RESERVED (R107). -/
def peersReserved (s : State) (c : ClaimId) (cl : Claim) : Bool := (entriesOf s c (· == .reserved)).length == cl.handed

/-- A peer of the claim has failed before its commit (R107). -/
def peerFailed (s : State) (c : ClaimId) (cl : Claim) : Bool := decide ((entriesOf s c fun _ => true).length < cl.handed)

/-- The claim's entry in a zone becomes LIVE (R88, R89). -/
def commitZone (c : ClaimId) (z : ZoneId) (s : State) : State :=
  noteZone false z (setList z ((listOf s z).map fun e => if e.claim = c then { e with live := true } else e) s)

/-- The player that a management playback has reserved is started on its clip (R174). -/
def startPlayback (c : ClaimId) (cl : Claim) (s : State) : State :=
  match playerOfSlot cl.slot with
  | some p =>
    if (playerOf s p).owner = .management (some c) ∧ (playerOf s p).state = .idle then
      startPlayer p (.management (some c)) (playerOf s p).clip s
    else s
  | none => s

/-- The claim has committed: it is LIVE, and its peers and its player go on (R88, R89, R109, R174). -/
def commitDone (c : ClaimId) (cl : Claim) (s : State) : State :=
  let t := modClaim c (fun x => { x with state := .live }) (count .commitsDone s)
  startPlayback c cl (commitPeers c t)

/-- A claim's commit test has failed (R88, R89). -/
def commitRefused (c : ClaimId) (s : State) : State := count .commitsRefused (endClaim .refused c s)

/-- A CLAIM-PARTIAL report is made of a claim, with the number of its LIVE entries (R89, R111). -/
def reportPartial (c : ClaimId) (s : State) : State := report .claimPartial c.val (liveEntries s c) s

/-- The owner of a claim is told of a partial commit or a late failure: the PAGE key of a station flashes (R139). -/
def tellPartial (c : ClaimId) (cl : Claim) (s : State) : State :=
  match cl.owner with
  | .station st => flashPage st c s
  | _ => s

/-- A policy BEST commit is partial: an entry was removed, a zone was lost, or peers were left out or failed (R89). -/
def isPartial (s : State) (c : ClaimId) (cl : Claim) : Bool :=
  !(zonesWhere s c fun e => !e.intact).isEmpty || decide (0 < cl.lost) || cl.noPeers || peerFailed s c cl

/-- The commit test of a policy ALL claim (R88). -/
def commitAll (c : ClaimId) (cl : Claim) (s : State) : State :=
  if allIntact s c cl && peersReserved s c cl then
    commitDone c cl (forEach (zonesWhere s c fun _ => true) (commitZone c) s)
  else commitRefused c s

/-- The commit of a policy BEST claim (R89). -/
def commitBest (c : ClaimId) (cl : Claim) (s : State) : State :=
  if (zonesWhere s c fun e => e.intact).isEmpty then commitRefused c s
  else
    let part := isPartial s c cl
    let t := forEach (zonesWhere s c fun e => e.intact) (commitZone c) s
    let t := forEach (zonesWhere s c fun e => !e.intact) (removeEntry false c) t
    let t := commitDone c cl t
    if part then tellPartial c cl (count .commitsPartial (reportPartial c t)) else t

/-- The commit test of a claim by its policy (R88, R89). -/
def commitTest (c : ClaimId) (s : State) : State :=
  match claimAt s c with
  | none => s
  | some cl =>
    match cl.policy with
    | .all => commitAll c cl s
    | .best => commitBest c cl s

/-- The commit of a claim falls due: a policy ALL claim with peers still in RESERVE-SENT waits for them, any other makes
its commit test (R90). -/
def commitDue (c : ClaimId) (s : State) : State :=
  match claimAt s c with
  | none => s
  | some cl =>
    if cl.policy = .all ∧ (entriesOf s c (· == .reserveSent)).isEmpty = false then
      modClaim c (fun x => { x with waiting := true }) s
    else commitTest c s

/-- The claim was started by this part, for a station or for management (R101). -/
def isLocal : Owner → Bool
  | .station _ => true
  | .management => true
  | _ => false

/-- An entry of a claim has left RESERVE-SENT: a policy ALL claim whose commit waits, and that has no other entry there,
makes its commit test (R90, R107). -/
def peerSettled (c : ClaimId) (s : State) : State :=
  match claimAt s c with
  | none => s
  | some cl =>
    if isLocal cl.owner && cl.waiting && (entriesOf s c (· == .reserveSent)).isEmpty then
      commitTest c (modClaim c (fun x => { x with waiting := false }) s)
    else s

/-! ### The claim request queue (R79) -/

/-- A request of the alarm sequencer (R79). -/
def isAlarmRequest : Request → Bool
  | .gain _ _ _ => true
  | .start r => match r.owner with
    | .alarm _ => true
    | _ => false

/-- The queue has room for the request (R79, R98). -/
def queueAdmits (s : State) (r : Request) : Bool :=
  running s && decide (s.claims.queue.length < if isAlarmRequest r then 16 else 14)

/-- A request is offered to the claim request queue: it joins the end, or is refused BUSY (R79). -/
def offerRequest (r : Request) (s : State) : State :=
  if queueAdmits s r then modClaims (fun x => { x with queue := x.queue ++ [r] }) s else count .requestsBusy s

/-- The requests of a requester. -/
def requestOf (o : Owner) : Request → Bool
  | .start r => r.owner == o
  | .gain ch _ _ => o == .alarm ch

/-- A requester's waiting request is withdrawn (R79). -/
def withdrawRequest (o : Owner) (s : State) : State :=
  modClaims (fun x => { x with queue := x.queue.eraseP (requestOf o) }) s

/-! ### The start of a claim (R80, R81) -/

/-- What the taking of a start request comes to: refused BUSY, the claim created, or the claim created and ended within
its own start, with the number of zones of its target (R80, R81). -/
inductive Started
  | busy
  | created (c : ClaimId)
  | ended (c : ClaimId) (reason : EndReason) (requested : Nat)
  deriving DecidableEq, Repr, Inhabited

/-- The lowest-numbered free place of the claim table (R77). -/
def freeClaim (s : State) : Option ClaimId := (everyFin 48).find? fun c => (claimAt s c).isNone

/-- The group that a request names, none for an alarm request (R80). -/
def requestGroup (r : StartRequest) : Option GroupId :=
  match r.target with
  | .group g => some g
  | .zones _ => none

/-- The zones that a request asks for (R81). -/
def requestZones (s : State) (r : StartRequest) : ZoneSet :=
  match r.target with
  | .group g => (tget s.claims.groups g).zones
  | .zones zs => zs

/-- The peers of a request's claim (R101). -/
def requestPeers (s : State) (r : StartRequest) : List PeerRef :=
  if isLocal r.owner then
    match r.target with
    | .group g => (tget s.claims.groups g).peers
    | .zones _ => []
  else []

/-- The request has peers for which the peer unit has no room (R101). -/
def peerShort (s : State) (r : StartRequest) : Bool :=
  !(requestPeers s r).isEmpty && !enoughPeers s (requestPeers s r).length r.slot

/-- The slot of the claim: the request's, or the lowest free station slot for a station page (R80). -/
def requestSlot (s : State) (r : StartRequest) : Option SlotId :=
  match r.slot with
  | some i => some i
  | none => freeStationSlot s

/-- The claim as it is created (R80, R81). -/
def createdClaim (s : State) (r : StartRequest) (slot : SlotId) : Claim :=
  let alarm : Bool := match r.owner with
    | .alarm _ => true
    | _ => false
  { owner := r.owner
    priority := if alarm then 7 else clampPriority r.priority
    rank := if alarm then r.rank else 0
    mode := if alarm then .exclusive else r.mode
    policy := r.policy
    slot := slot
    chime := !alarm && r.chime
    group := if alarm then none else requestGroup r
    target := enabledZones s (requestZones s r)
    state := if alarm then .live else .reserving
    timer := if !alarm && r.chime then chimeLength s.claims.chimeTable else 0
    waiting := false
    lost := 0
    hold := holdLimit r.hold
    elapsed := 0
    noPeers := peerShort s r
    handed := 0 }

/-- The chime generator is restarted (R87). -/
def restartChime (s : State) : State :=
  modClaims (fun x =>
    { x with chimeGen := ⟨if isNote x.chimeTable 0 then some (0, 0) else none, 0⟩ }) s

/-- The owner takes the new claim's id: the page in progress, the reserved player, the alarm channel; and a station's
member state of IN becomes HELD (R135, R136, R154, R174). -/
def tellCreated (c : ClaimId) (cl : Claim) (s : State) : State :=
  match cl.owner with
  | .station st =>
    let t := rebind (.station st) cl.slot s
    let t := modStation st (fun x => { x with page := x.page.map fun p => { p with claim := some c } }) t
    mapMember st (fun m => if m = .within then .held else m) t
  | .management =>
    match playerOfSlot cl.slot with
    | some p => modPlayer p (fun x => { x with owner := .management (some c) }) s
    | none => s
  | .alarm ch => modChannel ch (fun x => { x with claim := some c }) s
  | .peer _ _ => s

/-- The claim is created in a place of the table (R80). -/
def createClaim (c : ClaimId) (cl : Claim) (s : State) : State :=
  let t := modClaims (fun x => { x with table := tset x.table c (some cl) }) s
  let t := tellCreated c cl (count .claimsStarted t)
  if cl.chime ∧ 0 < cl.timer then restartChime t else t

/-- The claim, its insertions made, is handed on (R81). -/
def handOnClaim (c : ClaimId) (cl : Claim) (peers : List PeerRef) (s : State) : State :=
  let t := if peers.isEmpty || cl.noPeers then s else handOnPeers c cl peers s
  match cl.owner with
  | .alarm _ => s
  | .peer _ _ => if cl.timer = 0 then commitDue c s else modClaim c (fun x => { x with waiting := true }) s
  | _ => if cl.timer = 0 then commitDue c t else t

/-- A claim is carried out from its creation to its hand-on, with what its start comes to (R80 to R84, R90). -/
def carryOut (c : ClaimId) (cl : Claim) (peers : List PeerRef) (s : State) : Started × State :=
  let n := (zonesOf cl.target).length
  let t := createClaim c cl s
  if isNoZones cl.target then (.ended c .refused 0, endClaim .refused c t)
  else
    let t := forEach (zonesOf cl.target) (insertEntry c !cl.chime) t
    if holdsAnyZone t c then
      let t := handOnClaim c cl peers t
      if (claimAt t c).isSome then (.created c, t) else (.ended c .refused n, t)
    else (.ended c .preempted n, endClaim .preempted c t)

/-- A start request is refused BUSY at the checks of R80 (R99). -/
def startBusy (s : State) : Started × State := (.busy, count .requestsBusy s)

/-- The claim unit takes a start request: the checks, in order, and the claim (R80). -/
def startClaim (r : StartRequest) (s : State) : Started × State :=
  match freeClaim s with
  | none => startBusy s
  | some c =>
    match requestSlot s r with
    | none => startBusy s
    | some slot =>
      let t := if peerShort s r then count .peerShortage s else s
      if peerShort s r ∧ r.policy = .all then startBusy t
      else carryOut c (createdClaim s r slot) (requestPeers s r) t

/-- The claim unit takes a GAIN: entries of a running alarm claim in each enabled zone of the set that holds none
(R94). A GAIN of a claim that the channel no longer holds is discarded. -/
def gainZones (ch : ChanId) (c : ClaimId) (zs : ZoneSet) (s : State) : State :=
  if (channelOf s ch).claim = some c ∧ (claimAt s c).isSome then
    forEach ((zonesOf (enabledZones s zs)).filter fun z => (entryIn (listOf s z) c).isNone)
      (fun z t => insertEntry c true z (modClaim c (fun x => { x with target := tset x.target z true }) t)) s
  else s

end Sys2Proof.Machine
end

