-- ==== Sys2Proof/Machine/Peers.lean ====
section
/-! DEFINITION. The peer unit: answers and deadlines of the outstanding claim file, and inbound claims (chapter 6). -/
namespace Sys2Proof.Machine

/-! ### Failures (R107, R109, R111) -/

/-- A late failure of an entry of a claim: a CLAIM-PARTIAL report, PEERS-FAILED, and the owner told (R111). -/
def lateFailure (c : ClaimId) (s : State) : State :=
  match claimAt s c with
  | some cl =>
    if cl.state = .live then tellPartial c cl (count .peersFailed (reportPartial c s)) else s
  | none => s

/-- An entry of an existing claim fails: it becomes FREE, which is a late failure once the claim has committed, and the
claim unit is told when no entry of the claim is left in RESERVE-SENT (R107, R111). -/
def failEntry (t : TagId) (e : OutEntry) (s : State) : State := peerSettled e.claim (lateFailure e.claim (freeEntry t s))

/-! ### ANSWER frames (R106 to R111) -/

/-- An ANSWER frame as its fields came (section 6.3). -/
structure Answer where
  origin : Nat
  tag : Nat
  answered : Nat
  code : Nat
  deriving DecidableEq, Repr, Inhabited

/-- The ANSWER that a CLAIM payload carries (section 6.3). -/
def answerOf (origin : Nat) (payload : List Byte) : Answer :=
  ⟨origin, byteAt payload 1, byteAt payload 2, byteAt payload 3⟩

/-- The tag that a frame names, when there is such an entry. -/
def tagOf (n : Nat) : Option TagId := if h : n < 8 then some ⟨n, h⟩ else none

/-- The entry an ANSWER is for (R106). -/
def answeredEntry (s : State) (a : Answer) : Option (TagId × OutEntry) :=
  match tagOf a.tag with
  | none => none
  | some t =>
    match entryAt s t with
    | some e => if e.peer = a.origin then some (t, e) else none
    | none => none

/-- An entry becomes RESERVED; if its claim has already committed, COMMIT is sent for it at once (R107, R109). -/
def entryReserved (t : TagId) (e : OutEntry) (s : State) : State :=
  let u := count .peersReserved (setEntry t (some { e with state := .reserved }) s)
  let u := match claimAt u e.claim with
    | some cl => if cl.state = .live then commitEntry t u else u
    | none => u
  peerSettled e.claim u

/-- An ANSWER for an entry in RESERVE-SENT, of answered kind RESERVE (R107). -/
def reserveAnswered (t : TagId) (e : OutEntry) (code : Nat) (s : State) : State :=
  if code ≤ 1 then entryReserved t e s else failEntry t e (count .peersRefused s)

/-- An ANSWER for an entry in COMMIT-SENT, of answered kind COMMIT (R109). -/
def commitAnswered (t : TagId) (e : OutEntry) (code : Nat) (s : State) : State :=
  if code ≤ 1 then count .peersLive (setEntry t (some { e with state := .live }) s)
  else if code = 2 ∨ code = 6 then failEntry t e s
  else count .answersIgnored s

/-- An ANSWER of answered kind 0 for an entry: PREEMPTED frees it, any other code is ignored (R111). -/
def unsolicitedAnswer (t : TagId) (e : OutEntry) (code : Nat) (s : State) : State :=
  if code = 7 then failEntry t e (count .unsolicitedPreempted s) else count .answersIgnored s

/-- An ANSWER for an entry in RELEASE-SENT frees it, whatever its kind and code; an unsolicited PREEMPTED is counted too
(R110, R111). An ANSWER of kind 0 with another code frees the entry by R110 and is not counted ANSWERS-IGNORED by R111
(DESIGN CHOICE, log entry 19). -/
def releaseAnswered (t : TagId) (a : Answer) (s : State) : State :=
  freeEntry t (if a.answered = 0 ∧ a.code = 7 then count .unsolicitedPreempted s else s)

/-- An ANSWER acts on the entry it is for, by the entry's state (R106 to R111). -/
def answerFor (t : TagId) (e : OutEntry) (a : Answer) (s : State) : State :=
  if e.state = .releaseSent then releaseAnswered t a s
  else if a.answered = 0 then unsolicitedAnswer t e a.code s
  else if e.state = .reserveSent ∧ a.answered = 1 then reserveAnswered t e a.code s
  else if e.state = .commitSent ∧ a.answered = 2 then commitAnswered t e a.code s
  else count .answersIgnored s

/-- An ANSWER frame (R106). -/
def takeAnswer (a : Answer) (s : State) : State :=
  match answeredEntry s a with
  | some (t, e) => answerFor t e a s
  | none => count .answersIgnored s

/-! ### Deadlines (R107 to R110) -/

/-- The deadline of an entry is reached (R108). -/
def deadlineReached (s : State) (t : TagId) (state : OutState) : Option OutEntry :=
  match entryAt s t with
  | some e => if e.state = state ∧ reached e.deadline s.ring.period = true then some e else none
  | none => none

/-- A deadline in RESERVE-SENT or COMMIT-SENT: the entry is freed, one RELEASE is sent with its tag, and the peer has
failed (R107, R109). -/
def peerTimeout (t : TagId) (e : OutEntry) (s : State) : State :=
  let u := sendRelease t e.peer (freeEntry t s)
  peerSettled e.claim (lateFailure e.claim (count .peerTimeouts u))

/-! ### Inbound claims (R112 to R117) -/

/-- The inbound claim of an origin and tag (R112). -/
def inboundClaim (s : State) (origin tag : Nat) : Option ClaimId :=
  (everyFin 48).find? fun c => match claimAt s c with
    | some cl => cl.owner == .peer origin tag
    | none => false

/-- An inbound RESERVE joins the queue, or is answered BUSY (R112). -/
def enqueueReserve (r : InReserve) (s : State) : State :=
  if 8 ≤ s.peer.inbound.length then
    sendAnswer r.origin r.tag 1 .busy 0 0 (count .inboundBusy s)
  else modPeer (fun p => { p with inbound := p.inbound ++ [r] }) s

/-- The service of a RESERVE ends: no RESERVE is in service (R113). -/
def clearService (s : State) : State := modPeer (fun p => { p with service := none }) s

/-- The service of a RESERVE ends before its claim is created: the start request is withdrawn and the slot unbound
(R113, R32). -/
def abandonService (v : InService) (s : State) : State :=
  rebind .unbound v.slot (withdrawRequest (.peer v.reserve.origin v.reserve.tag) (clearService s))

/-- The answer to a RESERVE in service whose claim was created, from the intact entries it holds (R113, step 4). -/
def answerCreated (r : InReserve) (c : ClaimId) (s : State) : State :=
  match claimAt s c with
  | none => s
  | some cl =>
    let n := (zonesOf cl.target).length
    let g := (zonesWhere s c (·.intact)).length
    if allIntact s c cl then count .inboundServed (sendAnswer r.origin r.tag 1 .granted g n s)
    else if 0 < g then count .inboundServed (sendAnswer r.origin r.tag 1 .partialGrant g n s)
    else sendAnswer r.origin r.tag 1 .refused 0 n (endClaim .refused c s)

/-- The RESERVE in service is answered from the outcome of its start request (R113, step 4). -/
def answerReserve (v : InService) (o : Started) (s : State) : State :=
  clearService (match o with
    | .busy => sendAnswer v.reserve.origin v.reserve.tag 1 .busy 0 0 (rebind .unbound v.slot s)
    | .ended _ _ n => sendAnswer v.reserve.origin v.reserve.tag 1 .refused 0 n s
    | .created c => answerCreated v.reserve c s)

/-- The start request of a RESERVE (R113, step 3). -/
def inboundRequest (r : InReserve) (g : GroupId) (slot : SlotId) : StartRequest where
  owner := .peer r.origin r.tag
  priority := r.priority
  rank := 0
  mode := r.mode
  policy := r.policy
  chime := r.chime
  slot := some slot
  target := .group g
  hold := 0
  framed := false

/-- The group of a number that a command or a frame carries, when it is in range. -/
def groupOfNumber (n : Nat) : Option GroupId := if h : n < 32 then some ⟨n, h⟩ else none

/-- The remote group of a RESERVE, when it is in range and has local zones (R113, step 1). -/
def reserveGroup (s : State) (r : InReserve) : Option GroupId :=
  match groupOfNumber r.group with
  | some g => if isNoZones (tget s.claims.groups g).zones then none else some g
  | none => none

/-- The DYNAMIC slot is bound to the audio reference, and the start request offered (R113, steps 2 and 3). -/
def requestInbound (r : InReserve) (g : GroupId) (slot : SlotId) (s : State) : State :=
  let t := rebind (.ring r.audioOrigin r.audioBundle r.audioChannel) slot s
  let t := modPeer (fun p => { p with service := some ⟨r, slot⟩ }) t
  let q := Request.start (inboundRequest r g slot)
  if queueAdmits t q then offerRequest q t
  else
    sendAnswer r.origin r.tag 1 .busy 0 0 (clearService (rebind .unbound slot (offerRequest q t)))

/-- A RESERVE is served: group, slot, request (R113, steps 1 to 3). -/
def serveReserve (r : InReserve) (s : State) : State :=
  match reserveGroup s r with
  | none => sendAnswer r.origin r.tag 1 .noGroup 0 0 s
  | some g =>
    match freeDynamicSlot s with
    | none => sendAnswer r.origin r.tag 1 .noSlot 0 0 s
    | some slot => requestInbound r g slot s

/-- Tag reuse: the inbound claim of the same origin and tag ends first, RELEASED, and no frame is sent for it (R112). -/
def endReused (r : InReserve) (s : State) : State :=
  match inboundClaim s r.origin r.tag with
  | some c => endClaim .released c s
  | none => s

/-- The peer unit takes the head of the inbound claim queue into service (R112, R113). -/
def serveNext (s : State) : State :=
  match s.peer.service, s.peer.inbound with
  | none, r :: rest =>
    if running s then serveReserve r (endReused r (modPeer (fun p => { p with inbound := rest }) s)) else s
  | _, _ => s

/-- The answer to a COMMIT for an inbound claim that is LIVE (R115). -/
def answerLive (origin tag : Nat) (c : ClaimId) (cl : Claim) (s : State) : State :=
  let n := (zonesOf cl.target).length
  let g := liveEntries s c
  sendAnswer origin tag 2 (if n ≤ g then .granted else .partialGrant) g n s

/-- The commit test of an inbound claim at its COMMIT, and its answer (R115). -/
def commitInbound (origin tag : Nat) (c : ClaimId) (cl : Claim) (s : State) : State :=
  let t := commitTest c (modClaim c (fun x => { x with waiting := false }) s)
  match claimAt t c with
  | some x => answerLive origin tag c x t
  | none => sendAnswer origin tag 2 .refused 0 (zonesOf cl.target).length t

/-- A COMMIT frame (R115). -/
def takeCommit (origin tag : Nat) (s : State) : State :=
  match inboundClaim s origin tag with
  | none => sendAnswer origin tag 2 .gone 0 0 s
  | some c =>
    match claimAt s c with
    | none => sendAnswer origin tag 2 .gone 0 0 s
    | some cl => if cl.waiting then commitInbound origin tag c cl s else answerLive origin tag c cl s

/-- The RESERVE comes from an origin with a tag. -/
def reserveNamed (origin tag : Nat) (r : InReserve) : Bool := r.origin == origin && r.tag == tag

/-- A RELEASE for an inbound claim that exists, or GONE (R116). -/
def releaseInbound (origin tag : Nat) (s : State) : State :=
  match inboundClaim s origin tag with
  | some c =>
    let n := match claimAt s c with
      | some cl => (zonesOf cl.target).length
      | none => 0
    sendAnswer origin tag 3 .granted (Config.releaseGranted n).val n (endClaim .released c s)
  | none => sendAnswer origin tag 3 .gone 0 0 s

/-- A RELEASE frame, in the order of its cases (R116). Of two waiting RESERVEs of its origin and tag it removes the one that
arrived first (DESIGN CHOICE, log entry 34). -/
def takeRelease (origin tag : Nat) (s : State) : State :=
  match s.peer.service with
  | some v =>
    if reserveNamed origin tag v.reserve then sendAnswer origin tag 3 .granted 0 0 (abandonService v s)
    else if s.peer.inbound.any (reserveNamed origin tag) then
      sendAnswer origin tag 3 .granted 0 0 (modPeer (fun p => { p with inbound := p.inbound.eraseP (reserveNamed origin tag) }) s)
    else releaseInbound origin tag s
  | none =>
    if s.peer.inbound.any (reserveNamed origin tag) then
      sendAnswer origin tag 3 .granted 0 0 (modPeer (fun p => { p with inbound := p.inbound.eraseP (reserveNamed origin tag) }) s)
    else releaseInbound origin tag s

/-- The bytes that a claim kind needs (section 6.3). -/
def claimNeeds : Nat → Nat
  | 1 => 11
  | 4 => 6
  | _ => 4

/-- A CLAIM frame is malformed: broadcast, of unknown claim kind or too short (R105). -/
def claimMalformed (dest : Nat) (payload : List Byte) : Bool :=
  let kind := byteAt payload 0
  dest == 255 || kind == 0 || decide (4 < kind) || decide (payload.length < claimNeeds kind)

/-- A new CLAIM frame is taken by the peer unit (R105). -/
def takeClaimFrame (origin dest : Nat) (payload : List Byte) (s : State) : State :=
  if claimMalformed dest payload then count .claimMalformed s
  else match byteAt payload 0 with
    | 1 => enqueueReserve (reserveOf origin payload) s
    | 2 => takeCommit origin (byteAt payload 1) s
    | 3 => takeRelease origin (byteAt payload 1) s
    | _ => takeAnswer (answerOf origin payload) s

/-- A DYNAMIC slot is LOST: its inbound claim ends SOURCE-LOST, or the service it was bound for ends and the RESERVE is
answered REFUSED (R32). -/
def loseDynamic (i : SlotId) (s : State) : State :=
  match s.peer.service with
  | some v =>
    if v.slot = i then sendAnswer v.reserve.origin v.reserve.tag 1 .refused 0 0 (abandonService v s)
    else endOnSlot i s
  | none => endOnSlot i s
where
  /-- The inbound claims whose slot this is end SOURCE-LOST. -/
  endOnSlot (i : SlotId) (s : State) : State :=
    forEach ((everyFin 48).filter fun c => match claimAt s c with
      | some cl => cl.slot == i && (match cl.owner with
        | .peer _ _ => true
        | _ => false)
      | none => false) (endClaim .sourceLost) s

end Sys2Proof.Machine
end

