-- ==== Sys2Proof/Machine/Alarms.lean ====
section
/-! DEFINITION. The alarm sequencer: steps, the alarm request list, channels, alarm claims and pattern slots
(chapter 8). -/
namespace Sys2Proof.Machine

/-- The program table's row. -/
def programOf (s : State) (p : ProgramId) : ProgramEntry := tget s.alarm.programs p

/-- The entry of a program in the alarm request list. -/
def alarmEntry (s : State) (p : ProgramId) : Option AlarmEntry := s.alarm.list.find? (·.program == p)

/-- The entry of a program is changed. -/
def modEntry (p : ProgramId) (f : AlarmEntry → AlarmEntry) (s : State) : State :=
  modAlarm (fun a => { a with list := a.list.map fun e => if e.program = p then f e else e }) s

/-! ### Steps and slots (R144, R155) -/

/-- The step of a channel's program at a number; `none` is treated as END (R144). -/
def stepAt (s : State) (ch : ChanId) (k : Nat) : Option AlarmStep :=
  match (channelOf s ch).program with
  | some p => (programOf s p).steps[k]?
  | none => none

/-- The current step of a channel is a CLIP step it has entered. -/
def atClip (s : State) (ch : ChanId) : Bool :=
  !(channelOf s ch).stalled && (match stepAt s ch (channelOf s ch).step with
    | some (.clip _) => true
    | _ => false)

/-- The tone generator's slot of a channel. -/
def toneSlot (ch : ChanId) : SlotId := ⟨27 + ch.val, by omega⟩

/-- The slot that the claim of a channel carries at its current step (R155). -/
def channelSlot (s : State) (ch : ChanId) : SlotId := if atClip s ch then playerSlot ch else toneSlot ch

/-- A channel rewrites its claim's slot when it differs from its current step's (R155). -/
def rewriteSlot (ch : ChanId) (s : State) : State :=
  match (channelOf s ch).claim with
  | some c => modClaim c (fun x => { x with slot := channelSlot s ch }) s
  | none => s

/-- The management playback that holds a player is ended PREEMPTED; a reservation whose claim is not created yet loses
its waiting request (R157, R171; log entry 7). -/
def takePlayer (p : ChanId) (s : State) : State :=
  match (playerOf s p).owner with
  | .management (some c) => stopPlayer p (endClaim .preempted c s)
  | .management none => stopPlayer p (withdrawPlayback p s)
  | _ => s
where
  /-- The waiting request of a player's reservation is withdrawn, and answered as ended RELEASED (R79). -/
  withdrawPlayback (p : ChanId) (s : State) : State :=
    match s.claims.queue.find? (isPlayback p) with
    | some (.start r) =>
      claimAnswer r.framed .ok (.claim none (some .released))
        (modClaims (fun x => { x with queue := x.queue.eraseP (isPlayback p) }) s)
    | _ => s
  /-- The request is that of a player's reservation. -/
  isPlayback (p : ChanId) : Request → Bool
    | .start r => r.owner == .management && r.slot == some (playerSlot p)
    | .gain _ _ _ => false

/-- A channel stands at a step, entered, with its counts (R144). -/
def standAt (ch : ChanId) (k on off silent : Nat) (s : State) : State :=
  rewriteSlot ch (modChannel ch (fun x =>
    { x with step := k, stalled := false, onCount := on, offCount := off, silenceCount := silent }) s)

/-- A channel stops at a step without entering it: it would pass a 17th step without time (R144). -/
def stallAt (ch : ChanId) (k : Nat) (s : State) : State :=
  count .stepLimits (modChannel ch (fun x =>
    { x with step := k, stalled := true, onCount := 0, offCount := 0, silenceCount := 0 }) s)

/-- A CLIP step of a missing clip is skipped (R157). -/
def skipClip (ch : ChanId) (n : ClipId) (s : State) : State :=
  match (channelOf s ch).program with
  | some p => count .clipStepsSkipped (report .clipMissing n.val p.val s)
  | none => s

/-- The REPEAT counter of a step. -/
def repeatIx (k : Nat) : Fin 16 := finUpTo 15 k

/-- The step that a REPEAT leads to, and its counter after it (R145). -/
def repeatNext (k target : Nat) (limit counter : Fin 256) : Nat × Fin 256 :=
  if limit = 0 then (target, counter)
  else if counter < limit then (target, counter + 1)
  else (k + 1, 0)

/-- A REPEAT step's counter is written. -/
def setRepeat (ch : ChanId) (k : Nat) (v : Fin 256) (s : State) : State :=
  modChannel ch (fun x => { x with repeats := tset x.repeats (repeatIx k) v }) s

/-- A channel enters a step and passes the steps that take no time, at most as many as `budget`. At END it answers how
many it may still pass (R144, R145, R157). -/
def enterStep (ch : ChanId) : Nat → Nat → State → Option Nat × State
  | budget, k, s =>
    match stepAt s ch k with
    | some (.tone _ _ on off) =>
      (none, modChannel ch (fun x => { x with phase := 0 }) (standAt ch k on off 0 s))
    | some (.silent n) => (none, standAt ch k 0 0 n s)
    | some (.clip n) =>
      let c : ClipId := finUpTo 63 n
      if (clipAt s c).state = .ready then
        (none, standAt ch k 0 0 0 (startPlayer ch (.alarm ch) c (takePlayer ch s)))
      else match budget with
        | 0 => (none, stallAt ch k s)
        | b + 1 => enterStep ch b (k + 1) (skipClip ch c s)
    | some (.repeatTo t limit) =>
      match budget with
      | 0 => (none, stallAt ch k s)
      | b + 1 =>
        let next := repeatNext k t limit (tget (channelOf s ch).repeats (repeatIx k))
        enterStep ch b next.1 (setRepeat ch k next.2 s)
    | _ =>
      match budget with
      | 0 => (none, stallAt ch k s)
      | b + 1 => (some b, s)

/-! ### Channels (R148, R154) -/

/-- The zones of the entry that a channel runs. -/
def channelZones (s : State) (ch : ChanId) : ZoneSet :=
  match (channelOf s ch).program with
  | some p => match alarmEntry s p with
    | some e => e.zones
    | none => noZones
  | none => noZones

/-- The start request of a channel's claim (R154). -/
def channelRequest (s : State) (ch : ChanId) : StartRequest where
  owner := .alarm ch
  priority := 7
  rank := match (channelOf s ch).program with
    | some p => (programOf s p).rank
    | none => 0
  mode := .exclusive
  policy := Config.alarmPolicy ch
  chime := false
  slot := some (channelSlot s ch)
  target := .zones (channelZones s ch)
  hold := 0
  framed := false

/-- A channel offers the START of its claim (R154). -/
def offerStart (ch : ChanId) (s : State) : State :=
  let q := Request.start (channelRequest s ch)
  let t := offerRequest q s
  if queueAdmits s q then modChannel ch (fun x => { x with request := .start }) t else t

/-- A channel offers a GAIN of zones (R154). -/
def offerGain (ch : ChanId) (c : ClaimId) (zs : ZoneSet) (s : State) : State :=
  let q := Request.gain ch c zs
  let t := offerRequest q s
  if queueAdmits s q then modChannel ch (fun x => { x with request := .gain }) t else t

/-- Zones are brought to a RUNNING channel's claim: owed while a request waits, else by a GAIN or a new START (R154). -/
def addZones (ch : ChanId) (zs : ZoneSet) (s : State) : State :=
  if (channelOf s ch).request ≠ .none then modChannel ch (fun x => { x with owed := unionZones x.owed zs }) s
  else match (channelOf s ch).claim with
    | some c => offerGain ch c zs s
    | none => offerStart ch s

/-- A channel's waiting request has been answered: its owed zones are offered (R154). -/
def requestAnswered (ch : ChanId) (s : State) : State :=
  let owed := (channelOf s ch).owed
  let t := modChannel ch (fun x => { x with request := .none, owed := noZones }) s
  if isNoZones owed then t
  else match (channelOf t ch).claim with
    | some c => offerGain ch c owed t
    | none => offerStart ch t

/-- A channel is stopped with a reason: request withdrawn, claim ended, player stopped, channel free (R148). -/
def stopChannel (ch : ChanId) (reason : EndReason) (s : State) : State :=
  let t := if (channelOf s ch).request = .none then s else withdrawRequest (.alarm ch) s
  let t := match (channelOf s ch).claim with
    | some c => endClaim reason c t
    | none => t
  let t := if (playerOf t ch).owner = .alarm ch then stopPlayer ch t else t
  modChannel ch (fun _ => freeChannel) t

/-- An entry leaves the alarm request list. -/
def removeAlarm (p : ProgramId) (s : State) : State :=
  modAlarm (fun a => { a with list := a.list.filter fun e => e.program != p }) s

/-- A RUNNING program has reached END: its channel is stopped COMPLETE and its entry leaves the list (R153). The channel
hand-on that follows is the caller's. -/
def completeProgram (ch : ChanId) (s : State) : State :=
  match (channelOf s ch).program with
  | some p =>
    count .alarmCompletions (report .alarmStopped p.val 1 (removeAlarm p (stopChannel ch .complete s)))
  | none => s

/-- An entry begins to run on a channel, which may pass `budget` steps that take no time (R144, R148). When entering step
0 reaches END no claim is asked for, and the program ends at once. Answers the steps the channel may still pass then. -/
def beginWithin (budget : Nat) (p : ProgramId) (ch : ChanId) (s : State) : Option Nat × State :=
  let t := modEntry p (fun e => { e with channel := some ch }) s
  let t := modChannel ch (fun _ => { freeChannel with program := some p }) t
  let r := enterStep ch budget 0 t
  let started := fun u => count .alarmStarts (report .alarmStarted p.val ch.val u)
  match r.1 with
  | some left => (some left, completeProgram ch (started r.2))
  | none => (none, started (offerStart ch r.2))

/-- The steps without time that a channel may pass as it begins to run: 16 on a start between boundaries; on the boundary at
which a program ended on it, what that program left of the 16 (R144). -/
def passesLeft (used : Option (ChanId × Nat)) (ch : ChanId) : Nat :=
  match used with
  | some (c, n) => if c = ch then n else 16
  | none => 16

/-- What a channel may still pass on the boundary once a further program has begun on it, and has ended at once if it leaves
a number (R144). -/
def passesAfter (used : Option (ChanId × Nat)) (ch : ChanId) (left : Option Nat) : Option (ChanId × Nat) :=
  match used, left with
  | some (c, m), some n => some (c, if c = ch then n else m)
  | used, _ => used

/-- The lowest-numbered free channel (R147). -/
def freeChan (s : State) : Option ChanId := (everyFin 2).find? fun ch => (channelOf s ch).program.isNone

/-- The first WAITING entry in list order (R147). -/
def firstWaiting (s : State) : Option AlarmEntry := s.alarm.list.find? (·.channel.isNone)

/-- The channel hand-on, while a channel is free and an entry waits (R147). Each pass runs one entry, or removes it when
its program ends at once, so the four entries of the list need at most four passes. -/
def handOn : Nat → Option (ChanId × Nat) → State → State
  | 0, _, s => s
  | n + 1, used, s =>
    match freeChan s, firstWaiting s with
    | some ch, some e =>
      let r := beginWithin (passesLeft used ch) e.program ch s
      handOn n (passesAfter used ch r.1) r.2
    | _, _ => s

/-- An entry begins to run on a channel between boundaries, or at one where the channel has passed no step yet. -/
def beginToRun (p : ProgramId) (ch : ChanId) (s : State) : State := (beginWithin 16 p ch s).2

/-- The channel hand-on (R147). -/
def channelHandOn (s : State) : State := handOn 4 none s

/-- A RUNNING program ends at END with so many steps left to pass, and the freed channel is handed on (R144, R153). -/
def programEnd (ch : ChanId) (left : Nat) (s : State) : State := handOn 4 (some (ch, left)) (completeProgram ch s)

/-! ### START and STOP (R149 to R152) -/

/-- Why a START or STOP is refused (R149). -/
inductive AlarmRefusal | noSteps | noZones | full | notPresent
  deriving DecidableEq, Repr, Inhabited

/-- The value of an ALARM-REFUSED report (R149). -/
def refusalValue : AlarmRefusal → Nat
  | .noSteps => 0 | .noZones => 1 | .full => 2 | .notPresent => 3

/-- The code in a REPLY to management (R149). -/
def refusalCode : AlarmRefusal → ResultCode
  | .noSteps => .empty | .noZones => .empty | .full => .busy | .notPresent => .notFound

/-- A START or STOP is refused (R149). -/
def refuseAlarm (p : ProgramId) (r : AlarmRefusal) (s : State) : Option AlarmRefusal × State :=
  (some r, count .alarmRefusals (report .alarmRefused p.val (refusalValue r) s))

/-- The zone set of a START: the local zones of the group, or of the program's default group for 255 and for 32 to 254
(R149, R150). -/
def startZones (s : State) (p : ProgramId) (g : Nat) : ZoneSet :=
  match groupOfNumber g with
  | some g => (tget s.claims.groups g).zones
  | none => (tget s.claims.groups (finUpTo 31 (programOf s p).defaultGroup)).zones

/-- A START of a present program (R150, re-trigger). -/
def retrigger (p : ProgramId) (e : AlarmEntry) (zs : ZoneSet) (s : State) : State :=
  let added := diffZones zs e.zones
  if isNoZones added then count .retriggersEmpty s
  else
    let t := count .retriggers (modEntry p (fun x => { x with zones := unionZones x.zones zs }) s)
    match e.channel with
    | some ch => addZones ch added t
    | none => t

/-- The rank of an entry's program. -/
def rankOf (s : State) (e : AlarmEntry) : Nat := (programOf s e.program).rank

/-- The list with a new entry put before the first entry of a lower rank (R151, 2). -/
def insertAlarm (s : State) (new : AlarmEntry) : List AlarmEntry → List AlarmEntry
  | [] => [new]
  | e :: es => if rankOf s e < rankOf s new then new :: e :: es else e :: insertAlarm s new es

/-- The RUNNING entry that stands later in the list (R151, 4). -/
def laterRunning (s : State) : Option AlarmEntry := (s.alarm.list.filter (·.channel.isSome)).getLast?

/-- The programs that wait. -/
def waitingPrograms (s : State) : List ProgramId := (s.alarm.list.filter (·.channel.isNone)).map (·.program)

/-- An entry is discarded from a full list (R151, 1). -/
def discardAlarm (e : AlarmEntry) (s : State) : State :=
  let t := match e.channel with
    | some ch => stopChannel ch .preempted s
    | none => s
  count .alarmDiscards (report .alarmDiscarded e.program.val (rankOf s e) (removeAlarm e.program t))

/-- A RUNNING entry is preempted by a new one (R151, 4). -/
def preempt (p : ProgramId) (old : AlarmEntry) (ch : ChanId) (s : State) : State :=
  let t := stopChannel ch .preempted s
  let t := modEntry old.program (fun e => { e with channel := none }) t
  channelHandOn (beginToRun p ch (count .alarmPreemptions t))

/-- The new entry, still WAITING with both channels RUNNING, is compared with the later RUNNING entry (R151, 4). -/
def tryPreempt (p : ProgramId) (s : State) : State :=
  if (waitingPrograms s).contains p then
    match laterRunning s with
    | some old =>
      match old.channel with
      | some ch => if rankOf s old < (programOf s p).rank then preempt p old ch s else s
      | none => s
    | none => s
  else s

/-- The ALARM-STARTED reports of the entries that wait now and did not before the START (R151, 5). -/
def reportWaiting (before : List ProgramId) (s : State) : State :=
  forEach ((waitingPrograms s).filter fun p => !before.contains p) (fun p => report .alarmStarted p.val 2) s

/-- A new entry is inserted, and the channels and reports follow (R151, 2 to 5). -/
def insertEntryOf (p : ProgramId) (zs : ZoneSet) (before : List ProgramId) (s : State) : State :=
  let new : AlarmEntry := ⟨p, zs, none, s.alarm.arrivals⟩
  let t := modAlarm (fun a => { a with list := insertAlarm s new a.list, arrivals := a.arrivals + 1 }) s
  reportWaiting before (tryPreempt p (channelHandOn t))

/-- A new entry for a program (R151). -/
def newAlarm (p : ProgramId) (zs : ZoneSet) (s : State) : Option AlarmRefusal × State :=
  let before := waitingPrograms s
  if s.alarm.list.length < 4 then (none, insertEntryOf p zs before s)
  else match s.alarm.list.getLast? with
    | some last =>
      if rankOf s last < (programOf s p).rank then (none, insertEntryOf p zs before (discardAlarm last s))
      else refuseAlarm p .full s
    | none => refuseAlarm p .full s

/-- A START of a program with a group (R150). -/
def startAlarm (p : ProgramId) (g : Nat) (s : State) : Option AlarmRefusal × State :=
  let zs := startZones s p g
  if (programOf s p).steps.isEmpty then refuseAlarm p .noSteps s
  else match alarmEntry s p with
    | some e => (none, retrigger p e zs s)
    | none => if isNoZones zs then refuseAlarm p .noZones s else newAlarm p zs s

/-- A STOP of a program (R152). -/
def stopAlarm (p : ProgramId) (s : State) : Option AlarmRefusal × State :=
  match alarmEntry s p with
  | none => refuseAlarm p .notPresent s
  | some e =>
    let t := match e.channel with
      | some ch => stopChannel ch .stopped s
      | none => s
    (none, channelHandOn (count .alarmStops (report .alarmStopped p.val 0 (removeAlarm p t))))

/-- A zone has been enabled: the channel of each RUNNING entry whose zone set contains it treats it as an added zone
(R38, R154). The channels offer their requests in the order of the alarm request list (DESIGN CHOICE, log entry 12). -/
def enableZone (z : ZoneId) (s : State) : State :=
  forEach s.alarm.list (fun e t => match e.channel with
    | some ch => if tget e.zones z then addZones ch (tset noZones z true) t else t
    | none => t) s

/-! ### Pattern slots (R158 to R160) -/

/-- The payload positions that a mask selects, counted from a base. -/
def maskPositions (base : Nat) (m : Vector Bool 64) : List Nat :=
  ((everyFin 64).filter fun i => tget m i).map fun i => base + i.val

/-- The patterns that are tested, in slot order: a slot, or the first slot of a chained pair, with the positions its mask
selects (R158). -/
def patternsTested (s : State) : List (PatternId × List Nat) :=
  pair 0 1 ++ pair 2 3
where
  /-- The patterns of one pair of slots. -/
  pair (a b : PatternId) : List (PatternId × List Nat) :=
    let m := fun p => (tget s.alarm.patterns p).mask
    if (tget s.alarm.patterns a).chained then [(a, maskPositions 0 (m a) ++ maskPositions 64 (m b))]
    else [(a, maskPositions 0 (m a)), (b, maskPositions 0 (m b))]

/-- A pattern matches a frame (R159). -/
def patternMatches (e : PatternEntry) (positions : List Nat) (origin : Nat) (payload : List Byte) : Bool :=
  e.enabled && !positions.isEmpty && positions.all (fun i => decide (i < payload.length)) &&
    (e.origin == 0 || e.origin.val == origin) && crc16 (positions.map fun i => payload.getD i 0) == e.crc

/-- The action of a matching pattern is taken (R160). Its PATTERN-MATCH report is placed before the reports of the action
(DESIGN CHOICE, log entry 12). -/
def patternAct (origin : Nat) (p : PatternId) (s : State) : State :=
  let t := count (.patternMatches p) (report .patternMatch p.val origin s)
  match (tget s.alarm.patterns p).action with
  | .start q g => (startAlarm (finUpTo 7 q) g t).2
  | .stop q => (stopAlarm (finUpTo 7 q) t).2

/-- A new ALARM frame is tested, and the action of each matching pattern taken (R159, R160). -/
def takeAlarmFrame (origin : Nat) (payload : List Byte) (s : State) : State :=
  let hits := (patternsTested s).filter fun x => patternMatches (tget s.alarm.patterns x.1) x.2 origin payload
  forEach (hits.map (·.1)) (patternAct origin) (count .alarmFramesTested s)

end Sys2Proof.Machine
end

