-- ==== Sys2Proof/Machine/Mix.lean ====
section
/-! DEFINITION. The zone mix (chapter 3): gains, sum, master and limiter of one zone, as functions of what the mix engine
reads, and the forming of the 24 zone blocks. -/
namespace Sys2Proof.Machine

/-- What the readers of a boundary read as the state stands (R43, R138, R178). -/
def mixView (s : State) : MixView :=
  { slots := s.slots
    active := s.scene.active
    taper := s.mix.taper
    zones := s.mix.zones
    lists := s.claims.lists
    claims := s.claims.table
    lineStates := tmap (fun _ l => l.record.state) s.lines.lanes
    windowDue := decide (256 ≤ s.lines.windowCount) }

/-- The on-air entry of a zone with its claim (R44). -/
def onAir (v : MixView) (z : ZoneId) : Option (ListEntry × Claim) := onAirIn v.claims (tget v.lists z)

/-- The on-air priority of a zone (R44). -/
def viewPriority (v : MixView) (z : ZoneId) : Nat := priorityIn v.claims (tget v.lists z)

/-- The on-air slot: the claim's slot while its entry is LIVE, the chime slot 31 while it is RESERVED (R44). -/
def onAirSlot (v : MixView) (z : ZoneId) : Option SlotId :=
  (onAir v z).map fun x => if x.1.live then x.2.slot else 31

/-- Slot s is a programme source of zone z: its crosspoint is not 0, it is not the on-air slot, and it is not the slot
of a claim that chimes there (R46). -/
def isProgramme (v : MixView) (z : ZoneId) (i : SlotId) : Bool :=
  tget (tget v.active z) i != 0 &&
    (match onAir v z with
      | none => true
      | some (e, c) => if e.live then i != c.slot else i != 31 && i != c.slot)

/-- The duck factor of a programme source in a zone, by the first row that applies (R46). -/
def duckFactor (v : MixView) (z : ZoneId) (i : SlotId) : Nat :=
  match onAir v z with
  | none => 32768
  | some (_, c) =>
    if c.priority = 7 then 0
    else if c.mode = .exclusive then 0
    else if (tget v.slots i).cls = .showClass ∧ showHoldIn (tget v.zones z) (viewPriority v z) = true then 0
    else taperGain v.taper (tget v.zones z).cfg.duck

/-- The effective gain of a programme source (R46). -/
def programmeGain (v : MixView) (z : ZoneId) (i : SlotId) : Nat :=
  combine (combine (taperGain v.taper (tget (tget v.active z) i)) (taperGain v.taper (tget v.slots i).trim))
    (duckFactor v z i)

/-- The gain of the claim source (R47). -/
def claimGain (v : MixView) (z : ZoneId) (c : SlotId) : Nat :=
  combine (taperGain v.taper (tget v.zones z).cfg.claimLevel) (taperGain v.taper (tget v.slots c).trim)

/-- The slots that contribute to a zone, each with its gain (R46, R47). -/
def contributors (v : MixView) (z : ZoneId) : List (SlotId × Nat) :=
  ((everyFin 32).filter (isProgramme v z)).map (fun i => (i, programmeGain v z i)) ++
    (match onAirSlot v z with
      | some c => [(c, claimGain v z c)]
      | none => [])

/-- The sum of the contributions to one sample (R48). -/
def mixSum (v : MixView) (l : List (SlotId × Nat)) (n : Fin 48) : Int :=
  (l.map fun x => tget (tget v.slots x.1).block n * (x.2 : Int)).sum

/-- The master gain: the alarm level code's while the on-air priority is 7, else the master code's (R49). -/
def masterGain (v : MixView) (z : ZoneId) : Nat :=
  taperGain v.taper
    (if viewPriority v z = 7 then (tget v.zones z).cfg.alarmLevel else (tget v.zones z).cfg.master)

/-- The master stage's output of a zone (R48, R49). -/
def masterBlock (v : MixView) (z : ZoneId) : Block :=
  let l := contributors v z
  let m := masterGain v z
  Vector.ofFn fun n : Fin 48 => scale (scale (mixSum v l n) 1) m

/-- One sample after the limiter's gain (R50). -/
def limited (gain : Nat) (x : Int) : Int := scale x gain

/-- The limiter output (R50). -/
def limiterBlock (limit gain : Nat) (b : Block) : Block :=
  tmap (fun _ x => clampInt (-(limit : Int)) limit (limited gain x)) b

/-- Some sample of the block is changed by the clamp (R50). -/
def isClipped (limit gain : Nat) (b : Block) : Bool :=
  b.toList.any fun x => clampInt (-(limit : Int)) limit (limited gain x) != limited gain x

/-- The peak of a block (R51). -/
def peakOf (b : Block) : Nat := (b.toList.map Int.natAbs).foldl max 0

/-- The target gain (R51). -/
def targetGain (limit peak : Nat) : Nat := if peak ≤ limit then 32768 else max 1 (limit * 32768 / peak)

/-- The limiter gain after a block (R51). -/
def nextGain (gain target release : Nat) : Nat := if target < gain then target else min target (gain + release)

/-- What the mix engine forms for one zone: its block, and whether ZONE-CLIP and LIMITER-ATTACK are counted, and the
limiter gain after it (R50, R51, R53). -/
structure Formed where
  block : Block
  clipped : Bool
  attack : Bool
  gain : Nat
  deriving DecidableEq, Repr, Inhabited

/-- The block of one zone from what is read (R43 to R53). -/
def formZone (v : MixView) (z : ZoneId) : Formed :=
  let zone := tget v.zones z
  if zone.cfg.enabled then
    let b := masterBlock v z
    let target := targetGain zone.cfg.limiter (peakOf b)
    { block := limiterBlock zone.cfg.limiter zone.gain b
      clipped := isClipped zone.cfg.limiter zone.gain b
      attack := decide (target < zone.gain)
      gain := nextGain zone.gain target zone.cfg.release }
  else
    { block := silence
      clipped := false
      attack := false
      gain := nextGain zone.gain 32768 zone.cfg.release }

/-- A change of one zone record. -/
def modZone (z : ZoneId) (f : Zone → Zone) (s : State) : State := modMix (fun m => { m with zones := tmod m.zones z f }) s

/-- A zone's block is handed over, its counters counted and its limiter gain updated (R43, R50, R51). -/
def deliverZone (z : ZoneId) (x : Formed) (s : State) : State :=
  let t := modMix (fun m => { m with zoneOut := tset m.zoneOut z x.block }) (modZone z (fun r => { r with gain := x.gain }) s)
  let t := if x.clipped then count (.zoneClip z) t else t
  if x.attack then count (.limiterAttack z) t else t

end Sys2Proof.Machine
end

