-- ==== Sys2Proof/Machine/Calls.lean ====
section
/-! DEFINITION. The intercom controller: polls, keys, calls, station pages and speaker blocks (chapter 7). -/
namespace Sys2Proof.Machine

/-- A change of one call record. -/
def setCall (i : CallId) (c : Option Call) (s : State) : State :=
  modIntercom (fun x => { x with calls := tset x.calls i c }) s

/-- The record of a call. -/
def callAt (s : State) (i : CallId) : Option Call := tget s.intercom.calls i

/-- A station has a page claim (R136). -/
def hasPageClaim (s : State) (st : StationId) : Bool :=
  s.claims.table.toList.any fun c => match c with
    | some c => c.owner == .station st
    | none => false

/-- The member state of a station that speaks: IN, or HELD while it has a page claim (R130, R132). -/
def speakingState (s : State) (st : StationId) : MemberState := if hasPageClaim s st then .held else .within

/-- A station's ringer flag is written. -/
def setRinger (b : Bool) (st : StationId) (s : State) : State := modStation st (fun x => { x with ringer := b }) s

/-! ### Polls (R121) -/

/-- What a poll to a station carries as the state stands (R121, R139). -/
def pollNow (s : State) (st : StationId) : Poll :=
  ⟨Vector.ofFn fun k : Fin 8 => lampOf s st k, (stationOf s st).ringer⟩

/-- A poll is sent to a station (R121). -/
def sendPoll (st : StationId) (s : State) : State := modStation st (fun x => { x with poll := pollNow s st }) s

/-- The poll of the next station, in ascending order, follows the outcome of a station's poll (R121). -/
def pollNext (st : StationId) (s : State) : State :=
  if h : st.val + 1 < 32 then sendPoll ⟨st.val + 1, h⟩ s else s

/-! ### The end of a call (R134) -/

/-- The reasons of a call's end (R134). -/
inductive CallReason | ended | rejected | noAnswer | lost | reset
  deriving DecidableEq, Repr, Inhabited

/-- The code of a call's end reason (R134). -/
def callReasonCode : CallReason → Nat
  | .ended => 0 | .rejected => 1 | .noAnswer => 2 | .lost => 3 | .reset => 4

/-- A call ends with a reason; a reset makes no report (R134). -/
def endCall (reason : CallReason) (i : CallId) (s : State) : State :=
  match callAt s i with
  | none => s
  | some c =>
    let ringing := (c.members.filter fun m => m.2 == .ringing).map (·.1)
    let t := setCall i none (forEach ringing (setRinger false) s)
    reportUnless (reason == .reset) .callEnd i.val (callReasonCode reason) t

/-- A station is removed from a call's member list; the others keep their order (R131, R133). -/
def removeMember (i : CallId) (c : Call) (st : StationId) (s : State) : State :=
  setCall i (some { c with members := c.members.filter fun m => m.1 != st }) s

/-! ### Key presses (R127 to R132) -/

/-- The refusals of a PRESS (R127). -/
inductive KeyRefusal | inCall | target | noRecord | confFull | noAuthority | pageBusy
  deriving DecidableEq, Repr, Inhabited

/-- The code of a refusal (R127). -/
def keyRefusalCode : KeyRefusal → Nat
  | .inCall => 0 | .target => 1 | .noRecord => 2 | .confFull => 3 | .noAuthority => 4 | .pageBusy => 5

/-- A PRESS is refused: a KEY-REFUSED report, the flash timer, KEYS-REFUSED (R127). -/
def refuseKey (st : StationId) (k : KeyId) (r : KeyRefusal) (s : State) : State :=
  count .keysRefused (flashKey st k (report .keyRefused (st.val * 8 + k.val) (keyRefusalCode r) s))

/-- A PRESS that finds nothing to act on (R127). -/
def ignoreKey (s : State) : State := count .keysIgnored s

/-- The lowest-numbered free call record (R128). -/
def freeCall (s : State) : Option CallId := (everyFin 16).find? fun i => (callAt s i).isNone

/-- A PRESS of a CALL key (R129). -/
def callKey (a : StationId) (k : KeyId) (b : StationId) (s : State) : State :=
  if (callOf s a).isSome then refuseKey a k .inCall s
  else if b = a ∨ (stationOf s b).present = false ∨ (callOf s b).isSome then refuseKey a k .target s
  else match freeCall s with
    | none => refuseKey a k .noRecord s
    | some i =>
      count .callsStarted (setRinger true b
        (setCall i (some ⟨.point, false, [(a, .calling), (b, .ringing)], s.control.node.ringLimit⟩) s))

/-- A PRESS of an ANSWER key (R130). -/
def answerKey (b : StationId) (s : State) : State :=
  match callOf s b with
  | some (i, c, .ringing) =>
    count .callsConnected (setRinger false b (setCall i (some
      { c with connected := true, members := c.members.map fun m => (m.1, speakingState s m.1), deadline := 0 }) s))
  | _ => ignoreKey s

/-- A PRESS of an END key (R131). -/
def endKey (st : StationId) (s : State) : State :=
  match callOf s st with
  | none => ignoreKey s
  | some (i, c, m) =>
    match c.kind with
    | .point => if m = .ringing then endCall .rejected i s else endCall .ended i s
    | .conf _ =>
      if c.members.any (fun x => x.1 != st) then removeMember i c st s
      else endCall .ended i (removeMember i c st s)

/-- The conference of a number (R128). -/
def conference (s : State) (n : Nat) : Option (CallId × Call) :=
  (everyFin 16).findSome? fun i => match callAt s i with
    | some c => if c.kind = .conf n then some (i, c) else none
    | none => none

/-- A PRESS of a JOIN key (R132). -/
def joinKey (st : StationId) (k : KeyId) (n : Nat) (s : State) : State :=
  if (callOf s st).isSome then refuseKey st k .inCall s
  else match conference s n with
    | some (i, c) =>
      if c.members.length < 6 then setCall i (some { c with members := c.members ++ [(st, speakingState s st)] }) s
      else refuseKey st k .confFull s
    | none =>
      match freeCall s with
      | some i => count .callsStarted (setCall i (some ⟨.conf n, true, [(st, speakingState s st)], 0⟩) s)
      | none => refuseKey st k .noRecord s

/-! ### Station pages (R135, R136) -/

/-- A station's page in progress is written. -/
def setPage (st : StationId) (p : Option Page) (s : State) : State := modStation st (fun x => { x with page := p }) s

/-- The start request of a page (R135). -/
def pageRequest (x : Station) (st : StationId) (group priority : Nat) (mode : ClaimMode) (policy : Policy)
    (chime : Bool) : StartRequest where
  owner := .station st
  priority := min priority x.cfg.maxPriority
  rank := 0
  mode := mode
  policy := policy
  chime := chime
  slot := none
  target := .group (finUpTo 31 group)
  hold := x.cfg.holdSeconds * 1000
  framed := false

/-- A PRESS of a PAGE key that starts a page, or is refused PAGE-BUSY (R135). -/
def pageKey (st : StationId) (k : KeyId) (group priority : Nat) (mode : ClaimMode) (policy : Policy) (chime latch : Bool)
    (s : State) : State :=
  let x := stationOf s st
  if x.page.isSome then refuseKey st k .pageBusy s
  else
    let q := Request.start (pageRequest x st group priority mode policy chime)
    let t := count .pagesRequested (offerRequest q s)
    if queueAdmits s q then setPage st (some ⟨k, latch, none⟩) t else refuseKey st k .pageBusy t

/-- A station's page in progress ends by its key, or with the station: the claim ends with the reason given, or the
waiting request is withdrawn (R133, R136). -/
def endPage (st : StationId) (reason : EndReason) (s : State) : State :=
  match (stationOf s st).page with
  | none => s
  | some p =>
    let t := setPage st none s
    match p.claim with
    | some c => endClaim reason c t
    | none => withdrawRequest (.station st) t

/-- The claim unit has refused a waiting page request BUSY (R135). -/
def pageRefused (st : StationId) (s : State) : State :=
  match (stationOf s st).page with
  | none => s
  | some p => refuseKey st p.key .pageBusy (setPage st none s)

/-! ### Alarm keys (R137) -/

/-- The station may use its alarm keys now (R137). -/
def hasAuthority (s : State) (st : StationId) : Bool :=
  (stationOf s st).cfg.alarmAuthority || ((stationOf s st).cfg.standaloneAuthority && s.control.mode == .standalone)

/-- The key's flash timer is set when the alarm sequencer refuses the request (R137). -/
def alarmKeyDone (st : StationId) (k : KeyId) (r : Option AlarmRefusal × State) : State :=
  match r.1 with
  | some _ => flashKey st k r.2
  | none => r.2

/-- A PRESS of an alarm key, for the request given (R137). -/
def alarmKey (st : StationId) (k : KeyId) (f : State → Option AlarmRefusal × State) (s : State) : State :=
  if hasAuthority s st then alarmKeyDone st k (f s) else refuseKey st k .noAuthority s

/-! ### Key events (R124, R127) -/

/-- A PRESS acts by the function of the key's entry (R127). -/
def pressFunction (st : StationId) (k : KeyId) (s : State) : State :=
  match tget (tget s.intercom.keymap st) k with
  | .none => s
  | .unknown => s
  | .call b => callKey st k (finUpTo 31 b) s
  | .answer => answerKey st s
  | .endCall => endKey st s
  | .join n => joinKey st k n s
  | .page g p mode policy chime latch => pageKey st k g p mode policy chime latch s
  | .alarmStart p g => alarmKey st k (startAlarm (finUpTo 7 p) g) s
  | .alarmStop p => alarmKey st k (stopAlarm (finUpTo 7 p)) s

/-- The key started the station's page in progress, and the page records the behaviour LATCH, or HOLD (R127). -/
def pageOfKey (s : State) (st : StationId) (k : KeyId) (latch : Bool) : Bool :=
  match (stationOf s st).page with
  | some p => p.key == k && p.latch == latch
  | none => false

/-- A PRESS event (R127). -/
def pressKey (st : StationId) (k : KeyId) (s : State) : State :=
  if pageOfKey s st k true then endPage st .released s else pressFunction st k s

/-- A RELEASE event (R127). -/
def releaseKey (st : StationId) (k : KeyId) (s : State) : State :=
  if pageOfKey s st k false then endPage st .released s else s

/-- One key of an answer goes to debounce (R124). -/
def debounceKey (st : StationId) (keys : Vector Bool 8) (k : KeyId) (s : State) : State :=
  let x := tget (stationOf s st).keys k
  let put := fun (y : KeyState) => modStation st (fun t => { t with keys := tset t.keys k y }) s
  if x.pending then
    if tget keys k = x.down then count .keyBounces (put ⟨x.down, false⟩)
    else
      let t := count .keyEvents (put ⟨tget keys k, false⟩)
      if tget keys k then pressKey st k t else releaseKey st k t
  else if tget keys k = x.down then s
  else put ⟨x.down, true⟩

/-- Pending changes of a station are dropped, each counted (R122, R124). -/
def dropPending (st : StationId) (s : State) : State :=
  let n := ((stationOf s st).keys.toList.filter (·.pending)).length
  countTimes .keyBounces n
    (modStation st (fun x => { x with keys := tmap (fun _ (y : KeyState) => ⟨y.down, false⟩) x.keys }) s)

/-- The outcome of a poll is an answer (R122). -/
def takeAnswerOfPoll (st : StationId) (keys : Vector Bool 8) (s : State) : State :=
  if (stationOf s st).present then
    forEach (everyFin 8) (debounceKey st keys) (modStation st (fun x => { x with missed := 0 }) s)
  else
    report .stationPresence st.val 1 (modStation st (fun x =>
      { x with present := true, missed := 0, keys := tmap (fun _ b => ⟨b, false⟩) keys }) s)

/-- The outcome of a poll is a missed scan, but for the absence at a count of 3, which is the STATION_ABSENT row's
(R121, R122). -/
def takeMiss (st : StationId) (s : State) : State :=
  let t := count (.missedScans st) s
  if (stationOf s st).present then
    dropPending st (modStation st (fun x => { x with missed := min 3 (x.missed + 1) }) t)
  else t

/-- A station leaves its call as it becomes ABSENT (R133). -/
def leaveCall (st : StationId) (s : State) : State :=
  match callOf s st with
  | none => s
  | some (i, c, _) =>
    let t := removeMember i c st s
    match c.kind with
    | .point => endCall .lost i t
    | .conf _ => if c.members.any (fun x => x.1 != st) then t else endCall .lost i t

/-- A station becomes ABSENT (R122, R123, R133). The reports of the end of its page claim are placed before that of its call,
and both before the one of its absence (DESIGN CHOICE, log entry 12). -/
def becomeAbsent (st : StationId) (s : State) : State :=
  let t := modStation st (fun x =>
    { x with present := false, ringer := false, flash := Vector.replicate 8 0, mic := silence }) s
  report .stationPresence st.val 0 (leaveCall st (endPage st .sourceLost t))

/-! ### Speaker blocks (R138) -/

/-- The microphone blocks of the other IN members of a station's call, while it is an IN member itself (R138). -/
def heardBy (s : State) (t : StationId) : List Block :=
  match callOf s t with
  | some (_, c, .within) =>
    (c.members.filter fun m => m.1 != t && m.2 == .within).map fun m => (stationOf s m.1).mic
  | _ => []

/-- The gain of a station's speaker, from what the mix view holds of its home zone (R138). -/
def speakerGain (v : MixView) (x : Station) : Nat :=
  let home : ZoneId := finUpTo 23 x.cfg.home
  combine (taperGain v.taper x.cfg.volume)
    (if viewPriority v home = 7 then taperGain v.taper (tget v.zones home).cfg.duck else 32768)

/-- The speaker block of a station (R138). -/
def speakerBlock (s : State) (v : MixView) (t : StationId) : Block :=
  match heardBy s t with
  | [] => silence
  | l =>
    let g := speakerGain v (stationOf s t)
    Vector.ofFn fun n : Fin 48 => clamp24 (scale (l.map fun b => tget b n).sum g)

end Sys2Proof.Machine
end

