-- ==== Sys2Proof/Machine/Lanes.lean ====
section
/-! DEFINITION. The line supervisor: returns, windows, line states, spare lanes, lane output and unheard alarms
(chapter 10). -/
namespace Sys2Proof.Machine

/-- A change of one lane, and of a lane's record. -/
def modLane (l : LaneId) (f : Lane → Lane) (s : State) : State := modLines (fun x => { x with lanes := tmod x.lanes l f }) s
def modRecord (l : LaneId) (f : LaneRecord → LaneRecord) (s : State) : State :=
  modLane l (fun x => { x with record := f x.record }) s

/-- A lane's record. -/
def recordOf (s : State) (l : LaneId) : LaneRecord := (tget s.lines.lanes l).record

/-- A lane is supervised as the zone table stands (R177). -/
def isSupervised (s : State) (l : LaneId) : Bool := supervised s.mix.zones l

/-- The accumulators of a lane cleared (R181). -/
def clearAccumulators (r : LaneRecord) : LaneRecord :=
  { r with loadSum := 0, returns := 0, faultSeen := false, overtempSeen := false }

/-! ### Stage 1: returns (R180) -/

/-- A return is added to a lane's accumulators (R180). -/
def addReturn (load : Fin 1024) (amp : AmpState) (r : LaneRecord) : LaneRecord :=
  { r with
    loadSum := r.loadSum + load.val
    returns := r.returns + 1
    faultSeen := r.faultSeen || amp == .fault
    overtempSeen := r.overtempSeen || amp == .overtemp }

/-- A supervised lane accumulates the return of the period that ended; the return of any other lane is discarded
(R180). -/
def accumulateLane (l : LaneId) (s : State) : State :=
  let t := modLane l (fun x => { x with back := none }) s
  if isSupervised s l then
    match (tget s.lines.lanes l).back with
    | none => count (.ampNoReturn l) t
    | some (load, amp) =>
      let t := modRecord l (addReturn load amp) t
      match amp with
      | .overtemp => count (.ampOvertemp l) t
      | .muted => count (.ampMuted l) t
      | _ => t
  else t

/-- Every supervised lane begins a window whole, with the window count 0 and the accumulators clear (R186, R188). -/
def startWindows (s : State) : State :=
  modLines (fun x =>
    { x with
      windowCount := 0
      lanes := tmap (fun l y => { y with record := { clearAccumulators y.record with whole := supervised s.mix.zones l } })
        x.lanes }) s

/-- The returns collected in a period that no lane accumulates (R186). -/
def discardReturns (s : State) : State :=
  modLines (fun x => { x with lanes := tmap (fun _ y => { y with back := none }) x.lanes }) s

/-- The first boundary after LOADING (R186). The returns of the part of a period before it are discarded and counted by
nothing (DEDUCED, log entry 37). -/
def beginWindows (s : State) : State :=
  modLines (fun x => { x with freshStart := false }) (discardReturns (startWindows s))

/-- Stage 1 of a boundary (R178, R180, R186). -/
def lineStage1 (s : State) : State :=
  if s.lines.freshStart then beginWindows s
  else modLines (fun x => { x with windowCount := x.windowCount + 1 }) (forEach (everyFin 28) accumulateLane s)

/-! ### Stage 2: the window (R181, R182) -/

/-- The line state of a lane is written, with its report and count, when it changes (R182). -/
def setLineState (l : LaneId) (v : LineState) (s : State) : State :=
  if (recordOf s l).state = v then s
  else count (.lineChanges l) (report .lineState l.val (lineStateCode v) (modRecord l (fun r => { r with state := v }) s))

/-- The overtemp flag follows overtemp seen at the close of a window (R181). -/
def setOvertemp (l : LaneId) (b : Bool) (s : State) : State :=
  if (recordOf s l).overtemp = b then s
  else report .lineState (32 + l.val) (if b then 1 else 0) (modRecord l (fun r => { r with overtemp := b }) s)

/-- A whole supervised lane receives its verdict (R181, R182). Of two LINE-STATE reports of the lane that of the overtemp flag
is placed first (DESIGN CHOICE, log entry 12). -/
def judgeLane (l : LaneId) (s : State) : State :=
  let r := recordOf s l
  let v := verdictOf (judgingZone s.mix.zones l) r
  let t := setOvertemp l r.overtempSeen (count (.windowVerdicts l) s)
  let t := if r.lastVerdict = some v then setLineState l (some v) t else t
  modRecord l (fun x => { x with lastVerdict := some v }) t

/-- One lane at the close of the window (R181). The overtemp flag of a lane without a verdict stays (DEDUCED, log
entry 36). -/
def closeLane (l : LaneId) (s : State) : State :=
  if isSupervised s l then
    modRecord l (fun r => { clearAccumulators r with whole := true })
      (if (recordOf s l).whole then judgeLane l s else s)
  else s

/-- The window closes (R181). -/
def closeWindow (s : State) : State :=
  modLines (fun x => { x with windowCount := 0 }) (forEach (everyFin 28) closeLane s)

/-- The supervision enable of a zone is changed from yes to no (R182). A set overtemp flag is cleared without a report of
R181, because R182 names the report of the line state alone (DESIGN CHOICE, log entry 30). -/
def endSupervision (l : LaneId) (s : State) : State :=
  modRecord l (fun r => { clearAccumulators r with overtemp := false, lastVerdict := none, whole := false })
    (setLineState l none s)

/-- A change of a zone's supervision enable acts on its primary lane; no change, no effect (R182). -/
def changeSupervision (z : ZoneId) (old new : Bool) (s : State) : State :=
  if old && !new then endSupervision (laneOfZone z) s
  else if !old && new then modRecord (laneOfZone z) (fun r => { r with whole := false }) s
  else s

/-! ### Stage 3: the spare lane arbiter (R183, R184) -/

/-- The primary lane of a zone is in a fault state, as it is read (R183). -/
def lineFailed (v : MixView) (z : ZoneId) : Bool := inFault (tget v.lineStates (laneOfZone z))

/-- The candidates of a spare lane, in ascending zone order, each zone as it is read (R178; R183, 2). -/
def candidates (read : ZoneId → MixView) (l : LaneId) : List ZoneId :=
  (everyFin 24).filter fun z => (tget (read z).zones z).cfg.backup == some l.val && lineFailed (read z) z

/-- The better of two candidates by the on-air priorities as they are read, the first being the lower zone
(R183, 3). -/
def betterZone (read : ZoneId → MixView) (best : Option ZoneId) (z : ZoneId) : Option ZoneId :=
  match best with
  | none => some z
  | some b => if viewPriority (read b) b < viewPriority (read z) z then some z else some b

/-- The zone that a spare lane is to serve (R183). -/
def servedChoice (read : ZoneId → MixView) (s : State) (l : LaneId) : Option ZoneId :=
  if inFault (recordOf s l).state then none else (candidates read l).foldl (betterZone read) none

/-- The reports of a spare lane whose served zone changes (R184). -/
def reportServed (read : ZoneId → MixView) (l : LaneId) (old new : Option ZoneId) (s : State) : State :=
  let t := match new with
    | some z => count (.failovers z) (report .failover z.val l.val s)
    | none => s
  match old with
  | some z =>
    if lineFailed (read z) z then report .failover z.val 255 t else report .restore z.val l.val t
  | none => t

/-- The arbiter decides the served zone of one spare lane (R183, R184). -/
def arbitrateSpare (read : ZoneId → MixView) (l : LaneId) (s : State) : State :=
  let old := (recordOf s l).served
  let new := servedChoice read s l
  if old = new then s else reportServed read l old new (modRecord l (fun r => { r with served := new }) s)

/-- Stage 3 (R183). -/
def arbitrateSpares (read : ZoneId → MixView) (s : State) : State := forEach spareLanes (arbitrateSpare read) s

/-! ### Stage 4: lane output (R178, R179) -/

/-- The zone block that a lane carries, silence for none (R178). -/
def laneContent (s : State) (l : LaneId) : Block :=
  match zoneOfLane l with
  | some z => if (servingSpare s z).isSome then silence else tget s.mix.zoneOut z
  | none => match (recordOf s l).served with
    | some z => tget s.mix.zoneOut z
    | none => silence

/-- The pilot amplitude of a lane, its zone as it is read; none for a lane without pilot (R178, R179). -/
def pilotOf (read : ZoneId → MixView) (l : LaneId) : Option Nat :=
  match zoneOfLane l with
  | some z => if supervised (read z).zones l then some (tget (read z).zones z).cfg.pilot.val else none
  | none => some 4096

/-- The pilot sample: +A on even samples, −A on odd ones (R179, R55). -/
def pilotSample (a : Nat) (n : Fin 48) : Int := if n.val % 2 = 0 then (a : Int) else -(a : Int)

/-- A lane's block with the pilot, clamped to 24 bits (R179). -/
def withPilot (a : Nat) (b : Block) : Block := tmap (fun n x => clamp24 (x + pilotSample a n)) b

/-- The clamp changes some sample of the lane (R179). -/
def pilotClamps (a : Nat) (b : Block) : Bool :=
  (everyFin 48).any fun n => clamp24 (tget b n + pilotSample a n) != tget b n + pilotSample a n

/-- One lane is filled (R178, R179). -/
def fillLane (read : ZoneId → MixView) (l : LaneId) (s : State) : State :=
  let b := laneContent s l
  let put := fun (x : Block) => modLines (fun y => { y with laneOut := tset y.laneOut l x }) s
  match pilotOf read l with
  | none => put b
  | some a => if pilotClamps a b then count (.pilotClamp l) (put (withPilot a b)) else put (withPilot a b)

/-- Stage 4: every lane is filled (R178). -/
def fillLanes (read : ZoneId → MixView) (s : State) : State := forEach (everyFin 28) (fillLane read) s

/-! ### Stage 5: unheard alarms (R185) -/

/-- The condition of an unheard zone (R185), for its on-air priority and the line states as they are read. -/
def unheard (v : MixView) (s : State) (z : ZoneId) : Bool :=
  viewPriority v z == 7 && inFault (tget v.lineStates (carrierLane s z))

/-- The unheard flag of a zone follows the condition (R185). -/
def setUnheard (z : ZoneId) (b : Bool) (s : State) : State :=
  let t := if b then count (.unheardPeriods z) s else s
  if tget s.lines.unheard z = b then t
  else report .alarmUnheard z.val (if b then 1 else 0) (modLines (fun x => { x with unheard := tset x.unheard z b }) t)

/-- Every lane carries silence without pilot (R186). -/
def silenceLanes (s : State) : State := modLines (fun x => { x with laneOut := Vector.replicate 28 silence }) s

end Sys2Proof.Machine
end

