-- ==== Sys2Proof/Machine/Scenes.lean ====
section
/-! DEFINITION. The scene unit: bank exchanges, cues, fades and show hold (chapter 4). -/
namespace Sys2Proof.Machine

/-- The scene unit is suspended while its held-zone set is not empty (R70). -/
def suspended (s : State) : Bool := !isNoZones s.scene.held

/-- The code that a fade's target holds. -/
def targetCode (s : State) : FadeTarget → Code
  | .crosspoint z i => tget (tget s.scene.active z) i
  | .master z => (tget s.mix.zones z).cfg.master

/-- The code of a fade's target is written by the scene unit (R65, R67). -/
def setTarget (t : FadeTarget) (c : Code) (s : State) : State :=
  match t with
  | .crosspoint z i => modScene (fun x => { x with active := tmod x.active z fun row => tset row i c }) s
  | .master z => modMix (fun m => { m with zones := tmod m.zones z fun r => { r with cfg := { r.cfg with master := c } } }) s

/-- The fade on a target, if one is in the table. -/
def fadeOn (s : State) (t : FadeTarget) : Option Fade := s.scene.fades.find? (·.target == t)

/-- The fade on a target leaves the table. -/
def dropFade (t : FadeTarget) (s : State) : State :=
  modScene (fun x => { x with fades := x.fades.filter fun f => f.target != t }) s

/-- A fade is cancelled: it leaves the table with a FADE-CANCELLED report of the code held (R68). -/
def cancelFade (t : FadeTarget) (s : State) : State :=
  count .fadesCancelled (report .fadeCancelled (fadeSubject t) (targetCode s t).val (dropFade t s))

/-- A management write that carries a zone's master code cancels a master fade running on it (R39, R68). -/
def cancelMaster (z : ZoneId) (s : State) : State :=
  if (fadeOn s (.master z)).isSome then cancelFade (.master z) s else s

/-- The target of a fade is a crosspoint. -/
def isCrosspoint : FadeTarget → Bool
  | .crosspoint _ _ => true
  | .master _ => false

/-- A bank exchange: every crosspoint fade is cancelled with the code it held, and the banks are swapped whole
(R59, R68). The FADE-CANCELLED reports are placed in the order of the fade table (DESIGN CHOICE, log entry 12). -/
def exchangeBanks (s : State) : State :=
  let t := forEach ((s.scene.fades.filter fun f => isCrosspoint f.target).map (·.target)) cancelFade s
  count .bankSwaps (modScene (fun x => { x with active := x.staged, staged := x.active }) t)

/-! ### Fades (R66, R67) -/

/-- The code that a fade writes at a step (R67). -/
def fadeCode (start goal : Code) (total elapsed : Nat) : Code :=
  let d := if start ≤ goal then goal.val - start.val else start.val - goal.val
  let q := (d * elapsed + total / 2) / total
  Fin.ofNat 256 (if start ≤ goal then start.val + q else start.val - q)

/-- The fade completes at its next step (R67). -/
def lastStep (f : Fade) : Bool := decide (f.total ≤ f.elapsed + 1)

/-- A fade that does not complete takes one step (R67). -/
def stepFade (f : Fade) (s : State) : State :=
  if lastStep f then s
  else
    setTarget f.target (fadeCode f.start f.goal f.total (f.elapsed + 1))
      (modScene (fun x =>
        { x with fades := x.fades.map fun g => if g.target = f.target then { g with elapsed := g.elapsed + 1 } else g }) s)

/-- A fade takes its last step: its target code is written, and it leaves the table (R67, 3). -/
def completeFade (f : Fade) (s : State) : State :=
  count .fadesCompleted (dropFade f.target (setTarget f.target f.goal s))

/-- A fade begins on a target: as a replacement, as a new entry, or degraded to a set at once (R66). -/
def beginFade (t : FadeTarget) (goal : Code) (n : Nat) (s : State) : State :=
  let new : Fade := ⟨t, targetCode s t, goal, n, 0⟩
  if (fadeOn s t).isSome then
    count .fadesStarted (count .fadeReplaced
      (modScene (fun x => { x with fades := x.fades.map fun f => if f.target = t then new else f }) s))
  else if s.scene.fades.length < 16 then
    count .fadesStarted (modScene (fun x => { x with fades := x.fades ++ [new] }) s)
  else count .fadeDegraded (setTarget t goal s)

/-- A target is set at once, and a fade on it leaves the table (R65). -/
def setAtOnce (t : FadeTarget) (goal : Code) (s : State) : State :=
  let u := setTarget t goal s
  if (fadeOn s t).isSome then count .fadeReplaced (dropFade t u) else u

/-- A LEVEL or MASTER action (R65). -/
def moveTarget (t : FadeTarget) (goal : Code) (n : Nat) (s : State) : State :=
  if n = 0 ∨ targetCode s t = goal then setAtOnce t goal s else beginFade t goal n s

/-- The action of a fired cue (R65). -/
def cueAct (e : CueEffect) (s : State) : State :=
  match e with
  | .swap => exchangeBanks s
  | .level z i goal n => moveTarget (.crosspoint z i) goal n s
  | .master z goal n => moveTarget (.master z) goal n s

/-! ### Cues (R60 to R64) -/

/-- A cue is due (R64). -/
def cueReached (s : State) (c : Cue) : Bool := reached c.due s.ring.period

/-- The cue list with a cue inserted before the first cue that is due later (R61). -/
def insertCue (new : Cue) : List Cue → List Cue
  | [] => [new]
  | c :: cs => if laterThan c.due new.due then new :: c :: cs else c :: insertCue new cs

/-- The first due cue of the list and the list without it (R64). -/
def takeCue (s : State) : List Cue → Option (Cue × List Cue)
  | [] => none
  | c :: cs => if cueReached s c then some (c, cs) else (takeCue s cs).map fun x => (x.1, c :: x.2)

/-- The first due cue fires (R64). -/
def fireCue (s : State) : State :=
  match takeCue s s.scene.cues with
  | some (c, rest) => count .cuesFired (cueAct c.action (modScene (fun x => { x with cues := rest }) s))
  | none => s

/-- The action of a cue with its zone and slot checked (R60, R61). -/
def cueEffect : CueAction → Option CueEffect
  | .swap => some .swap
  | .level z i goal n =>
    if h : z < 24 ∧ i < 32 then some (.level ⟨z, h.1⟩ ⟨i, h.2⟩ goal n.val) else none
  | .master z goal n => if h : z < 24 then some (.master ⟨z, h⟩ goal n.val) else none

/-! ### Show hold (R69, R70) -/

/-- A zone is evaluated against the held-zone set (R69). -/
def evaluateZone (held : ZoneSet) (z : ZoneId) (s : State) : State :=
  if showHold s z = tget held z then s else report .showHold z.val (if showHold s z then 1 else 0) s

/-- Stage 1: show hold of every zone, and the suspension (R69, R70). -/
def evaluateHold (s : State) : State :=
  let held := s.scene.held
  let new : ZoneSet := Vector.ofFn fun z => showHold s z
  let t := forEach (everyFin 24) (evaluateZone held) s
  let t := modScene (fun x => { x with held := new }) t
  if isNoZones held = isNoZones new then t else report .showHold 255 (if isNoZones new then 0 else 1) t

/-- Stage 2, but for the fades that complete, which are FADE_COMPLETE rows (R67). -/
def stepFades (s : State) : State := if suspended s then s else forEach s.scene.fades stepFade s

end Sys2Proof.Machine
end

