-- ==== Sys2Proof/Machine/Tables.lean ====
section
/-! DEFINITION. The tables that the control interpreter reaches: their bounds, what a READ of an entry returns, and what
a write of one does (sections 11.2 and 11.3, with the table rules of each block's chapter). -/
namespace Sys2Proof.Machine

/-- The rows and columns of a table (section 11.2). -/
def tableDims : TableName → Nat × Nat
  | .source => (32, 1)
  | .matrix => (24, 32)
  | .matrixActive => (24, 32)
  | .taper => (256, 1)
  | .zone => (24, 1)
  | .group => (32, 1)
  | .chime => (4, 1)
  | .station => (32, 1)
  | .keymap => (32, 8)
  | .alarmProgram => (8, 1)
  | .pattern => (4, 1)
  | .node => (1, 1)
  | .claim => (84, 1)
  | .call => (16, 1)
  | .alarmList => (4, 1)
  | .clipDir => (64, 1)
  | .line => (28, 1)
  | .counters => (551, 1)

/-- A table that cannot be written (section 11.2). -/
def readOnlyTable : TableName → Bool
  | .matrixActive => true
  | .claim => true
  | .call => true
  | .alarmList => true
  | .clipDir => true
  | .line => true
  | .counters => true
  | _ => false

/-- A place of a table that cannot be written: every place of a read-only table, and SOURCE rows 23 to 31 (R24, R194). -/
def readOnlyAt (t : TableName) (row : Nat) : Bool := readOnlyTable t || (t == .source && decide (23 ≤ row))

/-! ### Reading (R195) -/

/-- A row of the CLAIM table: claims, claim lists, outstanding entries, transmit channels (R77, R192). -/
def claimRow (s : State) (row : Nat) : ReadEntry :=
  if h : row < 48 then .claim ⟨row, h⟩ (claimAt s ⟨row, h⟩)
  else if row < 72 then
    let z : ZoneId := finUpTo 23 (row - 48)
    .claimList z (listOf s z) (zoneStateIn s.claims.table (listOf s z))
  else if row < 80 then
    let t : TagId := finUpTo 7 (row - 72)
    .outstanding t (entryAt s t)
  else
    let k : TxId := finUpTo 3 (row - 80)
    .channel k (tget s.peer.tx k)

/-- A row of the ALARM-LIST table: the entries in list order, a RUNNING one with its current step and its channel's claim
(R147). -/
def alarmRow (s : State) (row : Nat) : ReadEntry :=
  match s.alarm.list[row]? with
  | none => .alarm none none none
  | some e =>
    match e.channel with
    | some ch => .alarm (some e) (some (channelOf s ch).step) (channelOf s ch).claim
    | none => .alarm (some e) none none

/-- A row of the LINE table (R177). -/
def lineRow (s : State) (l : LaneId) : ReadEntry :=
  match zoneOfLane l with
  | some z => .lane l (recordOf s l) (some (carrierLane s z)) (some (tget s.lines.unheard z))
  | none => .lane l (recordOf s l) none none

/-- A row of the STATION table (R125). -/
def stationRow (s : State) (st : StationId) : ReadEntry :=
  let x := stationOf s st
  .station st x.cfg x.present x.missed (tmap (fun _ (k : KeyState) => k.down) x.keys) x.ringer x.page

/-- A row of the SOURCE table (R23). -/
def sourceRow (s : State) (i : SlotId) : ReadEntry :=
  let x := tget s.slots i
  .source i x.binding x.mode x.cls x.trim x.health x.miss

/-- The entry of a table at a place, as a READ returns it (R195). -/
def readEntry (s : State) (t : TableName) (row column : Nat) : ReadEntry :=
  match t with
  | .source => sourceRow s (finUpTo 31 row)
  | .matrix => .level (tget (tget s.scene.staged (finUpTo 23 row)) (finUpTo 31 column))
  | .matrixActive => .level (tget (tget s.scene.active (finUpTo 23 row)) (finUpTo 31 column))
  | .taper => .gain (tget s.mix.taper (finUpTo 255 row))
  | .zone => .zone (finUpTo 23 row) (tget s.mix.zones (finUpTo 23 row))
  | .group => .group (finUpTo 31 row) (tget s.claims.groups (finUpTo 31 row))
  | .chime => .chime (tget s.claims.chimeTable (finUpTo 3 row))
  | .station => stationRow s (finUpTo 31 row)
  | .keymap => .key (tget (tget s.intercom.keymap (finUpTo 31 row)) (finUpTo 7 column))
  | .alarmProgram => .program (finUpTo 7 row) (tget s.alarm.programs (finUpTo 7 row))
  | .pattern => .pattern (tget s.alarm.patterns (finUpTo 3 row))
  | .node => .node s.control.node s.ring.nodeId s.control.mode
  | .claim => claimRow s row
  | .call => .call (finUpTo 15 row) (callAt s (finUpTo 15 row))
  | .alarmList => alarmRow s row
  | .clipDir => .clip (finUpTo 63 row) (clipAt s (finUpTo 63 row))
  | .line => lineRow s (finUpTo 27 row)
  | .counters => .counter (tget s.counters (finUpTo 550 row))

/-! ### Writing whole entries (R194) -/

/-- A write of a ring slot's record, from its mode and binding as they are to stand: refused IN-USE when it would change
the binding or the mode of a slot in use (R24, R25). -/
def putSource (i : SlotId) (mode : SlotMode) (b : Binding) (cls : SlotClass) (trim : Code) (s : State) :
    ResultCode × State :=
  let x := tget s.slots i
  if (x.binding ≠ b ∨ x.mode ≠ some mode) ∧ slotInUse s i = true then (.inUse, s)
  else
    let t := modSlot i (fun y => { y with mode := some mode, cls := cls, trim := trim }) s
    (.ok, if x.binding = b then t else rebind b i t)

/-- A write of a SOURCE entry (R24). -/
def writeSource (i : SlotId) (e : SourceEntry) (s : State) : ResultCode × State :=
  putSource i e.mode (writtenBinding e.mode e.binding) (slotClass e.cls) e.trim s

/-- The further effects of a change of a zone's enabled flag (R38). -/
def changeEnabled (z : ZoneId) (old new : Bool) (s : State) : State :=
  if old && !new then disableZone z s
  else if !old && new then enableZone z s
  else s

/-- A management write of a zone record: `master` says that it carries the master code (R37 to R39, R182).
The reports that follow are placed in the order of the master fade, the line and the claims (DESIGN CHOICE, log
entry 12). -/
def putZone (z : ZoneId) (master : Bool) (e : ZoneEntry) (s : State) : State :=
  let old := (tget s.mix.zones z).cfg
  let t := if master then cancelMaster z s else s
  let t := modZone z (fun r => { r with cfg := e }) t
  changeEnabled z old.enabled e.enabled (changeSupervision z old.supervision e.supervision t)

/-- A write of an ALARM-PROGRAM row: refused IN-USE while the program is present (R143). -/
def putProgram (p : ProgramId) (e : ProgramEntry) (s : State) : ResultCode × State :=
  if programPresent s p then (.inUse, s)
  else (.ok, modAlarm (fun a => { a with programs := tset a.programs p e }) s)

/-- A GROUP entry whose peer list is longer than the entry form (R97). -/
def tooManyPeers (l : List PeerRef) : Bool := decide (4 < l.length)

/-- A whole entry is written at a place that can be written. An entry that is not of the table's form is malformed, and
refused OUT-OF-RANGE (R194). -/
def putEntry (t : TableName) (row column : Nat) (e : Entry) (s : State) : ResultCode × State :=
  match t, e with
  | .source, .source e => writeSource (finUpTo 31 row) e s
  | .matrix, .level c =>
    (.ok, modScene (fun x => { x with staged := tmod x.staged (finUpTo 23 row) fun r => tset r (finUpTo 31 column) c }) s)
  | .taper, .gain g => (.ok, modMix (fun m => { m with taper := tset m.taper (finUpTo 255 row) g }) s)
  | .zone, .zone e => (.ok, putZone (finUpTo 23 row) true (clampZone e) s)
  | .group, .group e =>
    if tooManyPeers e.peers then (.outOfRange, s)
    else (.ok, modClaims (fun x => { x with groups := tset x.groups (finUpTo 31 row) (clampGroup e) }) s)
  | .chime, .chime e => (.ok, modClaims (fun x => { x with chimeTable := tset x.chimeTable (finUpTo 3 row) (clampChime e) }) s)
  | .station, .station e => (.ok, modStation (finUpTo 31 row) (fun x => { x with cfg := clampStation e }) s)
  | .keymap, .key k =>
    (.ok, modIntercom (fun x => { x with keymap := tmod x.keymap (finUpTo 31 row) fun r => tset r (finUpTo 7 column) (clampKey k) }) s)
  | .alarmProgram, .program e => putProgram (finUpTo 7 row) (clampProgram e) s
  | .pattern, .pattern e => (.ok, modAlarm (fun a => { a with patterns := tset a.patterns (finUpTo 3 row) (clampPattern e) }) s)
  | .node, .node e => (.ok, modControl (fun c => { c with node := clampNode e }) s)
  | _, _ => (.outOfRange, s)

/-- A whole entry is written at a place, or refused (R194). -/
def writeEntry (t : TableName) (row column : Nat) (e : Entry) (s : State) : ResultCode × State :=
  if readOnlyAt t row then (.readOnly, s) else putEntry t row column e s

/-! ### The writable fields of an entry (R194, R195) -/

/-- A binding as an entry carries it. -/
def rawBinding : Binding → RawBinding
  | .unbound => .none
  | .ring o b c => .ring o b c
  | .station st => .station st.val
  | .internal => .internal

/-- A class as an entry of a ring slot carries it. -/
def ringClass : SlotClass → RingClass
  | .showClass => .showClass
  | _ => .programClass

/-- The writable fields of a ring slot. -/
def sourceEntry (x : Slot) : SourceEntry := ⟨x.mode.getD .static, rawBinding x.binding, ringClass x.cls, x.trim⟩

/-- The writable fields of the entry at a place; `foreign` for a read-only table (R195). -/
def writableEntry (s : State) (t : TableName) (row column : Nat) : Entry :=
  match t with
  | .source => .source (sourceEntry (tget s.slots (finUpTo 31 row)))
  | .matrix => .level (tget (tget s.scene.staged (finUpTo 23 row)) (finUpTo 31 column))
  | .taper => .gain (tget s.mix.taper (finUpTo 255 row))
  | .zone => .zone (tget s.mix.zones (finUpTo 23 row)).cfg
  | .group => .group (tget s.claims.groups (finUpTo 31 row))
  | .chime => .chime (tget s.claims.chimeTable (finUpTo 3 row))
  | .station => .station (stationOf s (finUpTo 31 row)).cfg
  | .keymap => .key (tget (tget s.intercom.keymap (finUpTo 31 row)) (finUpTo 7 column))
  | .alarmProgram => .program (tget s.alarm.programs (finUpTo 7 row))
  | .pattern => .pattern (tget s.alarm.patterns (finUpTo 3 row))
  | .node => .node s.control.node
  | _ => .foreign

/-- An entry has the length of its form: a GROUP entry holds at most 4 peers (R97, R194; log entry 20). -/
def wellLength : Entry → Bool
  | .group e => !tooManyPeers e.peers
  | _ => true

/-- Two entries are of one form. -/
def sameForm : Entry → Entry → Bool
  | .source _, .source _ => true
  | .level _, .level _ => true
  | .gain _, .gain _ => true
  | .zone _, .zone _ => true
  | .group _, .group _ => true
  | .chime _, .chime _ => true
  | .station _, .station _ => true
  | .key _, .key _ => true
  | .program _, .program _ => true
  | .pattern _, .pattern _ => true
  | .node _, .node _ => true
  | _, _ => false

/-- A key map entry with its function, one argument or the behaviour written, clamped as R126 states; `none` when the field
is no argument of the entry's function, and so an unknown field of the entry (R194; log entry 31). -/
def setKeyField (e : KeyFn) (f : Field) : Option KeyFn :=
  match e, f with
  | e, .keyFunction c => some (withFunction e c)
  | .call _, .keyStation n => some (clampKey (.call n))
  | .join _, .keyConference n => some (clampKey (.join n))
  | .page _ p m q c l, .keyGroup n => some (clampKey (.page n p m q c l))
  | .page g _ m q c l, .keyPriority n => some (clampKey (.page g n m q c l))
  | .page g p _ q c l, .keyMode m => some (.page g p m q c l)
  | .page g p m _ c l, .keyPolicy q => some (.page g p m q c l)
  | .page g p m q _ l, .keyChime c => some (.page g p m q c l)
  | .page g p m q c _, .keyLatch l => some (.page g p m q c l)
  | .alarmStart p _, .keyGroup n => some (clampKey (.alarmStart p n))
  | .alarmStart _ g, .keyProgram n => some (clampKey (.alarmStart n g))
  | .alarmStop _, .keyProgram n => some (clampKey (.alarmStop n))
  | _, _ => none

/-- The entry of a table with one named field written, clamped as the table states; `none` when the field is none of the
table's, and so unknown (R194). A GROUP peer list of more than 4 peers counts as such a field, because the manual gives
no record that holds it (R97; log entry 20). -/
def setField (e : Entry) (f : Field) : Option Entry :=
  match e, f with
  | .source e, .sourceMode m => some (.source { e with mode := m })
  | .source e, .sourceBinding b => some (.source { e with binding := b })
  | .source e, .sourceClass c => some (.source { e with cls := c })
  | .source e, .sourceTrim c => some (.source { e with trim := c })
  | .level _, .level c => some (.level c)
  | .gain _, .gain g => some (.gain g)
  | .zone e, .zoneEnabled b => some (.zone { e with enabled := b })
  | .zone e, .zoneMaster c => some (.zone { e with master := c })
  | .zone e, .zoneClaimLevel c => some (.zone { e with claimLevel := c })
  | .zone e, .zoneDuck c => some (.zone { e with duck := c })
  | .zone e, .zoneAlarmLevel c => some (.zone { e with alarmLevel := c })
  | .zone e, .zoneLimiter n => some (.zone { e with limiter := clampRange 1 8388607 n })
  | .zone e, .zoneRelease n => some (.zone { e with release := clampRange 1 4096 n })
  | .zone e, .zoneShow b => some (.zone { e with showZone := b })
  | .zone e, .zoneShowStop n => some (.zone { e with showStop := clampRange 1 7 n })
  | .zone e, .zoneBackup n => some (.zone { e with backup := clampBackup n })
  | .zone e, .zonePilot n => some (.zone { e with pilot := n })
  | .zone e, .zoneOpen n => some (.zone { e with openLimit := min 1023 n })
  | .zone e, .zoneShort n => some (.zone { e with shortLimit := min 1023 n })
  | .zone e, .zoneNominalLow n => some (.zone { e with nominalLow := min 1023 n })
  | .zone e, .zoneNominalHigh n => some (.zone { e with nominalHigh := min 1023 n })
  | .zone e, .zoneSupervision b => some (.zone { e with supervision := b })
  | .group e, .groupZones z => some (.group { e with zones := z })
  | .group e, .groupPeers l =>
    if tooManyPeers l then none else some (.group { e with peers := l.map clampPeer })
  | .chime e, .chimeFreq n => some (.chime { e with freq := clampRange 100 4000 n })
  | .chime e, .chimeAmp c => some (.chime { e with amp := c })
  | .chime e, .chimeDuration n => some (.chime { e with duration := min 1000 n })
  | .station e, .stationHome n => some (.station { e with home := min 23 n })
  | .station e, .stationVolume c => some (.station { e with volume := c })
  | .station e, .stationMaxPriority n => some (.station { e with maxPriority := clampRange 1 6 n })
  | .station e, .stationHold n => some (.station { e with holdSeconds := min 600 n })
  | .station e, .stationAlarm b => some (.station { e with alarmAuthority := b })
  | .station e, .stationStandalone b => some (.station { e with standaloneAuthority := b })
  | .key k, f => (setKeyField k f).map .key
  | .program e, .programRank n => some (.program { e with rank := min 7 n })
  | .program e, .programGroup n => some (.program { e with defaultGroup := min 31 n })
  | .program e, .programSteps l => some (.program { e with steps := (l.take 16).map clampStep })
  | .pattern e, .patternEnabled b => some (.pattern { e with enabled := b })
  | .pattern e, .patternMask m => some (.pattern { e with mask := m })
  | .pattern e, .patternCrc c => some (.pattern { e with crc := c })
  | .pattern e, .patternOrigin n => some (.pattern { e with origin := if n = 255 then 0 else n })
  | .pattern e, .patternAction a => some (.pattern { e with action := clampAction a })
  | .pattern e, .patternChained b => some (.pattern { e with chained := b })
  | .node e, .nodeControllers x y =>
    some (.node { e with controllerA := clampController x, controllerB := clampController y })
  | .node e, .nodeTimeout n => some (.node { e with timeout := clampRange 100 60000 n })
  | .node e, .nodeAnswer n => some (.node { e with answerTimeout := clampRange 2 255 n })
  | .node e, .nodeRing n => some (.node { e with ringLimit := clampRange 125 7500 n })
  | .node e, .nodeInterval n => some (.node { e with reportInterval := clampRange 1 1000 n })
  | _, _ => none

/-- The entry with every named field written, in the list's order (R194). -/
def setFields (e : Entry) : List Field → Option Entry
  | [] => some e
  | f :: fs => match setField e f with
    | some x => setFields x fs
    | none => none

/-- The field is the function of a key map entry. -/
def isFunction : Field → Bool
  | .keyFunction _ => true
  | _ => false

/-- A field list with the functions of a key map entry put first, so that the arguments named beside a function are those of
the function written (R126; log entry 31). -/
def functionFirst (l : List Field) : List Field := l.filter isFunction ++ l.filter (!isFunction ·)

/-- The field list names the master code (R39), or the mode or the binding of a slot (R24). -/
def namesMaster (l : List Field) : Bool := l.any fun f => match f with
  | .zoneMaster _ => true
  | _ => false
def namesBinding (l : List Field) : Bool := l.any fun f => match f with
  | .sourceMode _ => true
  | .sourceBinding _ => true
  | _ => false

/-- The fields of an entry are written back through the table's owner (R194). A SOURCE entry whose list names neither mode
nor binding keeps both as they stand (R24). -/
def putFields (t : TableName) (row column : Nat) (l : List Field) (e : Entry) (s : State) : ResultCode × State :=
  match t, e with
  | .source, .source e =>
    if namesBinding l then writeSource (finUpTo 31 row) e s
    else (.ok, modSlot (finUpTo 31 row) (fun y => { y with cls := slotClass e.cls, trim := e.trim }) s)
  | .zone, .zone e => (.ok, putZone (finUpTo 23 row) (namesMaster l) e s)
  | .group, .group e => (.ok, modClaims (fun x => { x with groups := tset x.groups (finUpTo 31 row) e }) s)
  | .chime, .chime e => (.ok, modClaims (fun x => { x with chimeTable := tset x.chimeTable (finUpTo 3 row) e }) s)
  | .station, .station e => (.ok, modStation (finUpTo 31 row) (fun x => { x with cfg := e }) s)
  | .keymap, .key k =>
    (.ok, modIntercom (fun x => { x with keymap := tmod x.keymap (finUpTo 31 row) fun r => tset r (finUpTo 7 column) k }) s)
  | .alarmProgram, .program e => putProgram (finUpTo 7 row) e s
  | .pattern, .pattern e => (.ok, modAlarm (fun a => { a with patterns := tset a.patterns (finUpTo 3 row) e }) s)
  | .node, .node e => (.ok, modControl (fun c => { c with node := e }) s)
  | t, e => putEntry t row column e s

/-- The named fields of the entry at a place are written, or the list is refused (R194): an unknown field before a
read-only one, and a read-only table or row before the list is looked at (DEDUCED, log entry 20). -/
def writeNamed (t : TableName) (row column : Nat) (l : List Field) (s : State) : ResultCode × State :=
  if readOnlyAt t row then (.readOnly, s)
  else match setFields (writableEntry s t row column) (functionFirst (l.filter (· ≠ .readOnly))) with
    | none => (.outOfRange, s)
    | some e => if l.contains .readOnly then (.readOnly, s) else putFields t row column l e s

/-! ### The access pointer (R193) -/

/-- The pointer advances once (R193). -/
def advancePointer (p : Pointer) : Pointer :=
  match p.advance with
  | .rowFirst =>
    if p.column < p.lastColumn then { p with column := p.column + 1 }
    else if p.row < p.lastRow then { p with column := p.firstColumn, row := p.row + 1 }
    else { p with column := p.firstColumn, row := p.firstRow }
  | .columnFirst =>
    if p.row < p.lastRow then { p with row := p.row + 1 }
    else if p.column < p.lastColumn then { p with row := p.firstRow, column := p.column + 1 }
    else { p with row := p.firstRow, column := p.firstColumn }

/-- The pointer of the part advances. -/
def advance (s : State) : State := modControl (fun c => { c with pointer := advancePointer c.pointer }) s

/-- The pointer that SELECT sets, when it lies in the table (R193). -/
def selectPointer (table : Option TableName) (row column : Nat) : Option Pointer :=
  match table with
  | none => none
  | some t =>
    if row < (tableDims t).1 ∧ column < (tableDims t).2 then
      some ⟨t, row, column, 0, (tableDims t).1 - 1, 0, (tableDims t).2 - 1, .rowFirst⟩
    else none

/-- The pointer that WINDOW sets, when its bounds lie in the table and in order (R193). -/
def windowPointer (table : Option TableName) (r0 r1 c0 c1 : Nat) (a : Advance) : Option Pointer :=
  match table with
  | none => none
  | some t =>
    if r0 ≤ r1 ∧ r1 < (tableDims t).1 ∧ c0 ≤ c1 ∧ c1 < (tableDims t).2 then some ⟨t, r0, c0, r0, r1, c0, c1, a⟩
    else none

end Sys2Proof.Machine
end

