-- ==== Sys2Proof/Machine/Image.lean ====
section
/-! DEFINITION. The configuration image, the load of it and of the clip directory, and the resets (sections 9.1, 11.5,
R164, R198 to R201 and the reset table of each chapter). -/
namespace Sys2Proof.Machine

/-! ### Saving (R199) -/

/-- The tables as they stand, with the ACTIVE bank as the matrix (R199). -/
def savedTables (s : State) : ImageTables where
  node := s.control.node
  sources := Vector.ofFn fun i : Fin 23 => sourceEntry (tget s.slots (finUpTo 31 i.val))
  zones := tmap (fun _ z => z.cfg) s.mix.zones
  taper := s.mix.taper
  bank := s.scene.active
  groups := s.claims.groups
  chime := s.claims.chimeTable
  stations := tmap (fun _ (x : Station) => x.cfg) s.intercom.stations
  keys := s.intercom.keymap
  programs := s.alarm.programs
  patterns := s.alarm.patterns

/-! ### The body of an image (section 11.5) -/

/-- n entries in their form, one after the other. -/
def formsOf (α : Type) (l : List α) : List Byte := l.flatMap fun e => (Config.formOf α e).toList

/-- The body that holds the tables, in the order of section 11.5; the matrix and the key map row by row. -/
def imageBodyBytes (t : ImageTables) : List Byte :=
  formsOf NodeEntry [t.node] ++ formsOf SourceEntry t.sources.toList ++ formsOf ZoneEntry t.zones.toList ++
    formsOf Gain t.taper.toList ++ formsOf Code (t.bank.toList.flatMap (·.toList)) ++ formsOf GroupEntry t.groups.toList ++
    formsOf ChimeEntry t.chime.toList ++ formsOf StationEntry t.stations.toList ++
    formsOf KeyFn (t.keys.toList.flatMap (·.toList)) ++
    t.programs.toList.flatMap (fun e => (Config.programForm e).toList) ++ formsOf PatternEntry t.patterns.toList

/-- The n entries in their form at the front of a run of bytes. -/
def takeForms (α : Type) [Inhabited α] (n : Nat) (l : List Byte) : Vector α n :=
  Vector.ofFn fun i => Config.entryOf α ((l.drop (i.val * Config.formBytes α)).take (Config.formBytes α))

/-- Bytes of n entries in their form. -/
def formsBytes (α : Type) (n : Nat) : Nat := n * Config.formBytes α

/-- The rows of a table whose entries stand row by row. -/
def rowsOf {α : Type} (m n : Nat) (v : Vector α (m * n)) : Vector (Vector α n) m :=
  Vector.ofFn fun i : Fin m => Vector.ofFn fun j : Fin n =>
    tget v ⟨i.val * n + j.val, Nat.lt_of_lt_of_le (Nat.add_lt_add_left j.isLt _) (by
      rw [← Nat.succ_mul]; exact Nat.mul_le_mul_right n i.isLt)⟩

/-- Bytes of the ALARM-PROGRAM entry at the front of a run of bytes (R194). -/
def programLength (l : List Byte) : Nat := Config.programBytes (Config.stepsCarried l)

/-- Where the ALARM-PROGRAM entry of a number begins in a run of them. -/
def programStart (l : List Byte) : Nat → Nat
  | 0 => 0
  | n + 1 => programStart l n + programLength (l.drop (programStart l n))

/-- The ALARM-PROGRAM entries of a run of bytes. -/
def takePrograms (l : List Byte) : Vector ProgramEntry 8 :=
  Vector.ofFn fun i : Fin 8 =>
    let rest := l.drop (programStart l i.val)
    Config.entryOf ProgramEntry (rest.take (programLength rest))

/-- Where each table of a body begins: the lengths of the tables before it, in the order of section 11.5. -/
def atSources : Nat := formsBytes NodeEntry 1
def atZones : Nat := atSources + formsBytes SourceEntry 23
def atTaper : Nat := atZones + formsBytes ZoneEntry 24
def atMatrix : Nat := atTaper + formsBytes Gain 256
def atGroups : Nat := atMatrix + formsBytes Code (24 * 32)
def atChime : Nat := atGroups + formsBytes GroupEntry 32
def atStations : Nat := atChime + formsBytes ChimeEntry 4
def atKeys : Nat := atStations + formsBytes StationEntry 32
def atPrograms : Nat := atKeys + formsBytes KeyFn (32 * 8)
def atPatterns (l : List Byte) : Nat := atPrograms + programStart (l.drop atPrograms) 8

/-- The length that the tables of a body need: every form has one length but ALARM-PROGRAM's, whose length follows from the
steps each entry carries (R194, R198). -/
def neededLength (l : List Byte) : Nat := atPatterns l + formsBytes PatternEntry 4

/-- The tables of a body, `none` when its length is not the one they need (R198, section 11.5). -/
def imageBody (l : List Byte) : Option ImageTables :=
  if l.length = neededLength l then
    some
      { node := tget (takeForms NodeEntry 1 l) 0
        sources := takeForms SourceEntry 23 (l.drop atSources)
        zones := takeForms ZoneEntry 24 (l.drop atZones)
        taper := takeForms Gain 256 (l.drop atTaper)
        bank := rowsOf 24 32 (takeForms Code (24 * 32) (l.drop atMatrix))
        groups := takeForms GroupEntry 32 (l.drop atGroups)
        chime := takeForms ChimeEntry 4 (l.drop atChime)
        stations := takeForms StationEntry 32 (l.drop atStations)
        keys := rowsOf 32 8 (takeForms KeyFn (32 * 8) (l.drop atKeys))
        programs := takePrograms (l.drop atPrograms)
        patterns := takeForms PatternEntry 4 (l.drop (atPatterns l)) }
  else none

/-- The signature of an image (section 11.5). -/
def imageSignature : List Byte := [0xA7#8, 0x24#8, 0xC1#8, 0x5E#8]

/-- The 32,768 bytes of an image: signature, format number 1, body length and CRC-32 of the body, the body, and bytes to the
end whose content the manual does not give (R199, section 11.5). -/
def imageBytes (t : ImageTables) : List Byte :=
  let body := imageBodyBytes t
  imageSignature ++ bytes16 1 ++ bytes16 body.length ++ bytes32 (crc32 body) ++ body ++
    (List.range (32756 - body.length)).map fun i => Config.imageFill (12 + body.length + i)

/-! ### Installing (R198) -/

/-- A ring slot as the load leaves it: its record, and freshly bound when it is bound (R35). -/
def loadedSlot (e : SourceEntry) (x : Slot) : Slot :=
  let b := writtenBinding e.mode e.binding
  let y := { x with mode := some e.mode, cls := slotClass e.cls, trim := e.trim }
  if b = .unbound then unboundSlot y else boundSlot b y

/-- The slots as the load leaves them (R35). -/
def loadSlots (t : ImageTables) (slots : Vector Slot 32) : Vector Slot 32 :=
  tmap (fun i x => if h : i.val < 23 then loadedSlot (tget t.sources ⟨i.val, h⟩) x else x) slots

/-- The zone records as the load leaves them, with the supervision of their lines changed where the image changes it
(R57, R182, R188). -/
def installZones (t : ImageTables) (s : State) : State :=
  forEach (everyFin 24) (fun z u =>
    let e := clampZone (tget t.zones z)
    let old := (tget u.mix.zones z).cfg.supervision
    changeSupervision z old e.supervision (modZone z (fun r => { r with cfg := e }) u)) s

/-- The tables are installed at one moment, clamped as writes are, the matrix into both banks (R198). -/
def installTables (t : ImageTables) (s : State) : State :=
  let u := installZones t s
  let u := modSlots (loadSlots t) u
  let u := modMix (fun m => { m with taper := t.taper }) u
  let u := modScene (fun x => { x with active := t.bank, staged := t.bank }) u
  let u := modClaims (fun x =>
    { x with groups := tmap (fun _ e => clampGroup e) t.groups, chimeTable := tmap (fun _ e => clampChime e) t.chime }) u
  let u := modIntercom (fun x =>
    { x with
      stations := tmap (fun st y => { y with cfg := clampStation (tget t.stations st) }) x.stations
      keymap := tmap (fun _ r => tmap (fun _ k => clampKey k) r) t.keys }) u
  let u := modAlarm (fun a =>
    { a with
      programs := tmap (fun _ e => clampProgram e) t.programs
      patterns := tmap (fun _ e => clampPattern e) t.patterns }) u
  modControl (fun c => { c with node := clampNode t.node }) u

/-- The load ends: the tables are installed, the mode becomes RUN, the controller timer 0 (R186, R198). At the end of a
reload every supervised lane begins its window at once (R188); after power-on it does so at the first boundary alone. -/
def endLoad (reload : Bool) (t : ImageTables) (s : State) : State :=
  let u := installTables t s
  let u := if reload then startWindows u else u
  let u := modLines (fun x => { x with freshStart := true }) u
  count .imageLoads (modControl (fun c => { c with mode := .run, timer := 0, load := none }) u)

/-! ### Judging the image (R198) -/

/-- What the header checks find: the tables of the body, or the value of the first check failed (R198). -/
def judgeImage (l : List Byte) : Except Nat ImageTables :=
  let n := word16At l 6
  let body := (l.drop 12).take n
  if l.take 4 ≠ imageSignature ∨ word16At l 4 ≠ 1 then .error 1
  else if n = 0 ∨ 32756 < n then .error 2
  else match imageBody body with
    | none => .error 2
    | some t => if crc32 body = BitVec.ofNat 32 (word32At l 8) then .ok t else .error 3

/-! ### The clip directory at power-on (R164) -/

/-- The entries of a directory sector, `none` when its check fails (R164). -/
def directorySector (l : List Byte) : Option (List DirEntry) :=
  if Config.directoryCheck l = crc32 (Config.directoryBytes l) then some (Config.directoryEntries l).toList else none

/-- An entry lies in the clip area with the sector count that its samples need (R163, R164). -/
def entryInBounds (e : DirEntry) : Bool :=
  decide (1 ≤ e.sectors) && decide (10 ≤ e.first) && decide (e.first + e.sectors ≤ 8192) &&
    e.sectors == sectorCount e.samples

/-- What becomes of an entry found in the directory, given those taken before it (R164). -/
inductive Loaded
  | asFound (e : DirEntry)
  | bad (e : DirEntry)
  | rejected
  deriving DecidableEq, Repr, Inhabited

/-- The judgment of one entry found (R164). -/
def judgeEntry (taken : List DirEntry) (e : DirEntry) : Loaded :=
  if e.state = .empty then .asFound emptyClip
  else if entryInBounds e = false ∨ (taken.all (clearOf e.first (e.first + e.sectors))) = false then .rejected
  else if e.state = .opened then .bad { e with state := .bad }
  else if e.state = .ready ∧ e.written ≠ e.sectors then .bad { e with state := .bad }
  else .asFound e

/-- The entries found are loaded in ascending clip number (R164). -/
def loadEntries : List (ClipId × DirEntry) → List DirEntry → State → State
  | [], _, s => s
  | (c, e) :: rest, taken, s =>
    match judgeEntry taken e with
    | .asFound x => loadEntries rest (taken ++ [x]) (modClips (fun y => { y with directory := tset y.directory c x }) s)
    | .bad x => loadEntries rest (taken ++ [x]) (setClip c x s)
    | .rejected =>
      loadEntries rest taken (count .directoryRejected (modClips (fun y => { y with directory := tset y.directory c emptyClip }) s))

/-- The entries of a directory sector with their clip numbers (section 9.1). -/
def numbered (base : Nat) (l : List DirEntry) : List (ClipId × DirEntry) :=
  (l.zipIdx base).map fun x => (finUpTo 63 x.2, x.1)

/-- One directory sector of the load: its entries, or the sector rejected (R164). -/
def sectorEntries (base : Nat) (l : List Byte) (s : State) : List (ClipId × DirEntry) × State :=
  match directorySector l with
  | some es => (numbered base es, s)
  | none => (numbered base (List.replicate 32 emptyClip), count .directoryRejected s)

/-- The directory is loaded from the bytes of sectors 8 and 9 (R164). -/
def loadDirectory (a b : List Byte) (s : State) : State :=
  let x := sectorEntries 0 a s
  let y := sectorEntries 32 b x.2
  loadEntries (x.1 ++ y.1) [] y.2

/-! ### The load, sector by sector (R170, R198) -/

/-- The image has been read whole: it is judged, and the directory is read or the load ends (R198). -/
def imageRead (l : Load) (s : State) : State :=
  let r := judgeImage l.image
  let t := match r with
    | .error v => report .imageInvalid 0 v s
    | .ok _ => s
  let tables := match r with
    | .error _ => builtIn
    | .ok x => x
  if l.withDirectory then
    requestRead (.directory 1) 9 (requestRead (.directory 0) 8
      (modControl (fun c => { c with load := some { l with tables := some tables } }) t))
  else endLoad true tables t

/-- A sector of the image has been read (R198). -/
def imageSector (i : Nat) (data : List Byte) (s : State) : State :=
  match s.control.load with
  | none => s
  | some l =>
    let m := { l with image := l.image ++ data }
    if i = 7 then imageRead m s else modControl (fun c => { c with load := some m }) s

/-- A sector of the directory has been read (R164). -/
def dirSector (i : Nat) (data : List Byte) (s : State) : State :=
  match s.control.load with
  | none => s
  | some l =>
    if i = 0 then modControl (fun c => { c with load := some { l with sector8 := data } }) s
    else endLoad false (l.tables.getD builtIn) (loadDirectory l.sector8 data s)

/-- The data of a completed read is handed to its requester (R170). -/
def deliverRead (r : Reader) (data : List Byte) (s : State) : State :=
  match r with
  | .player p sector => fillBuffer p sector data s
  | .image i => imageSector i data s
  | .directory i => dirSector i data s
  | .nobody => s

/-! ### Soft reset (R200) -/

/-- A slot after a soft reset: silence, and the bindings that its claims gave taken away (R35). -/
def softSlot (x : Slot) : Slot :=
  let y := { x with block := silence, fresh := false }
  match x.binding, x.mode with
  | .station _, _ => unboundSlot y
  | .ring _ _ _, some .dynamic => unboundSlot y
  | _, _ => y

/-- A station after a soft reset (R142). -/
def softStation (x : Station) : Station :=
  { x with
    keys := tmap (fun _ (k : KeyState) => ⟨k.down, false⟩) x.keys
    ringer := false
    page := none
    mic := silence
    speaker := silence
    flash := Vector.replicate 8 0 }

/-- Every claim ends RESET, and the peer unit's and the claim unit's state is emptied (R100, R120). -/
def resetClaims (s : State) : State :=
  let t := match s.peer.service with
    | some v => abandonService v s
    | none => s
  let t := forEach (everyFin 48) (endClaim .reset) t
  let t := modPeer (fun _ =>
    { file := Vector.replicate 8 none, tx := Vector.replicate 4 none, inbound := [], service := none }) t
  modClaims (fun x =>
    { x with
      lists := Vector.replicate 24 []
      queue := []
      chimeGen := ⟨none, 0⟩
      reported := Vector.replicate 24 .free }) t

/-- Every call ends RESET, and the stations are put back (R134, R142). -/
def resetIntercom (s : State) : State :=
  modIntercom (fun x => { x with stations := tmap (fun _ y => softStation y) x.stations })
    (forEach (everyFin 16) (endCall .reset) s)

/-- A soft reset of every block (R22, R35, R57, R75, R100, R120, R142, R162, R176, R188, R201, R205). -/
def softResetAll (s : State) : State :=
  let t := resetIntercom (resetClaims s)
  let t := stopPlayer 1 (stopPlayer 0 t)
  let t := modClips (fun c => { c with reads := c.reads.filter (·.reader != .nobody) }) t
  let t := modSlots (tmap fun _ x => softSlot x) t
  let t := modMix (fun m => { m with zones := tmap (fun _ z => { z with gain := 32768 }) m.zones }) t
  let t := modScene (fun x => { x with cues := [], fades := [], held := noZones }) t
  let t := modAlarm (fun a => { a with list := [], channels := Vector.replicate 2 freeChannel }) t
  let t := modLines (fun x => { x with unheard := noZones }) t
  let t := modControl (fun c => { c with pointer := resetPointer, timer := 0 }) t
  modReports (fun _ => ⟨[], false, 0⟩) t

/-- Some entry of the alarm request list is RUNNING (R200). -/
def alarmRunning (s : State) : Bool := s.alarm.list.any (·.channel.isSome)

/-- LOADING begins after a reload: the control input queue is emptied, and the image read (R198, R200). The zone blocks and
lanes of the last boundary stand until the first boundary of LOADING silences them (DESIGN CHOICE, log entry 38). -/
def beginLoading (s : State) : State :=
  let t := countTimes .controlDropped s.control.queue.length s
  let t := modControl (fun c => { c with mode := .loading, queue := [], load := some ⟨false, [], none, []⟩ }) t
  let t := modIntercom (fun x => { x with phase := 7 }) t
  forEach (List.range 8) (fun i => requestRead (.image i) i) t

end Sys2Proof.Machine
end

