-- ==== Sys2Proof/Machine/Interpreter.lean ====
section
/-! DEFINITION. The control interpreter: taking CONTROL frames, the loops of WRITE and READ, and the answers to claim
requests (chapter 11). -/
namespace Sys2Proof.Machine

/-! ### CONTROL frames (R190, R191) -/

/-- The origin may send CONTROL frames: the controller list is empty or names it (R190). -/
def acceptedOrigin (s : State) (origin : Nat) : Bool :=
  (controllers s.control.node).isEmpty || (controllers s.control.node).contains origin

/-- An accepted frame acts on the controller timer, and in STANDALONE returns the mode to RUN (R191). -/
def restartTimer (s : State) : State :=
  let t := modControl (fun c => { c with timer := 0 }) s
  if s.control.mode = .standalone then report .standalone 0 0 (modControl (fun c => { c with mode := .run }) t) else t

/-- A new CONTROL frame is judged by its origin, and joins the control input queue (R190). -/
def takeControlFrame (origin : Nat) (payload : List Byte) (s : State) : State :=
  if acceptedOrigin s origin then
    let t := restartTimer (count .controlFrames s)
    if 4 ≤ t.control.queue.length then count .controlDropped t
    else modControl (fun c => { c with queue := c.queue ++ [⟨origin, payload⟩] }) t
  else count .controlRejected s

/-- A frame is begun: it is taken into service, or answered at once when it has more than 16 operations; a frame with
none gets nothing (R190). -/
def beginFrame (f : ControlFrame) (s : State) : State :=
  let n := byteAt f.payload 1
  let v : ControlService := ⟨f.origin, byteAt f.payload 0, n, min n (Config.decodableOperations f.payload), 0, [], false, false⟩
  if 16 < n then finishFrame (placeResult ⟨255, .outOfRange, .none⟩ v) s else continueFrame v s

/-- The interpreter takes the oldest queued frame when none is in service (R190). -/
def startFrame (s : State) : State :=
  match s.control.service, s.control.queue with
  | none, f :: rest => if running s then beginFrame f (modControl (fun c => { c with queue := rest }) s) else s
  | _, _ => s

/-- An operation is carried out: never in LOADING or UNADDRESSED, and not before the answer that the operation ahead of it
in its frame waits for (R190, R196; log entry 8). -/
def operation (f : State → State) (s : State) : State :=
  if running s then
    match s.control.service with
    | some v => if v.waiting then s else f s
    | none => f s
  else s

/-! ### WRITE and READ (R194, R195) -/

/-- The outcome of a WRITE so far: the number of entries taken, and the code of the first refused one. -/
structure Written where
  taken : Nat
  code : ResultCode
  deriving DecidableEq, Repr, Inhabited

/-- The outcome after one entry. -/
def notedWrite (w : Written) (c : ResultCode) : Written :=
  if c = .ok then { w with taken := w.taken + 1 } else { w with code := if w.code = .ok then c else w.code }

/-- The entries of a WRITE, one after the other; a malformed one and those after it are discarded with the pointer left
at its place (R194). -/
def writeAll : List Entry → Written → State → Written × State
  | [], w, s => (w, s)
  | e :: es, w, s =>
    let p := s.control.pointer
    let r := writeEntry p.table p.row p.column e s
    if r.1 = .outOfRange then (notedWrite w r.1, r.2)
    else writeAll es (notedWrite w r.1) (advance r.2)

/-- A READ of a counter with the clear flag set clears it (R195, R204). -/
def clearRead (p : Pointer) (clear : Bool) (s : State) : State :=
  if clear = true ∧ p.table = .counters then modCounters (fun v => tset v (finUpTo 550 p.row) 0) s else s

/-- The entries of a READ, as many as fit in the room left (R195). -/
def readAll (clear : Bool) : Nat → Nat → List ReadEntry → State → List ReadEntry × State
  | 0, _, acc, s => (acc, s)
  | n + 1, room, acc, s =>
    let p := s.control.pointer
    let e := readEntry s p.table p.row p.column
    if entrySize e ≤ room then readAll clear n (room - entrySize e) (acc ++ [e]) (advance (clearRead p clear s))
    else (acc, s)

/-- The entries that a READ of n returns in the room left by the results placed already (R195, R197). -/
def readEntries (n : Nat) (clear : Bool) (s : State) : List ReadEntry × State :=
  let room := replyRoom (placedResults s)
  if Config.resultHeadBytes ≤ room then readAll clear (min n 32) (room - Config.resultHeadBytes) [] s else ([], s)

/-- The outcome of a WRITE-IF: its code and, for a miss, the entry as it stood (R195). A compare entry that is not of the
table's form, or not of its length, is refused OUT-OF-RANGE with the pointer left at its place, as a malformed entry of a
WRITE is (log entry 20). The steps of a compare ALARM-PROGRAM entry beyond the 16th are compared like the others, so that such
an entry misses (DESIGN CHOICE, log entry 20). -/
def compareWrite (compare new : Entry) (s : State) : ResultCode × ResultData × State :=
  let p := s.control.pointer
  let cur := writableEntry s p.table p.row p.column
  if readOnlyAt p.table p.row then (.readOnly, .none, advance s)
  else if (sameForm compare cur && wellLength compare) = false then (.outOfRange, .none, s)
  else if compare = cur then
    let r := writeEntry p.table p.row p.column new s
    (if r.1 = .ok then .hit else r.1, .none, advance r.2)
  else (.miss, .missed p.table (readEntry s p.table p.row p.column), advance s)

/-! ### Answers to claim requests (R79, R135, R154, R174, R196) -/

/-- The answer to a management start request. A refused playback gives up its reserved player (R174). -/
def answerManagement (r : StartRequest) (o : Started) (s : State) : State :=
  match o with
  | .busy =>
    let t := match r.slot with
      | some i => match playerOfSlot i with
        | some p => stopPlayer p s
        | none => s
      | none => s
    claimAnswer r.framed .busy .none t
  | .created c => claimAnswer r.framed .ok (.claim (some c) none) s
  | .ended c reason _ => claimAnswer r.framed .ok (.claim (some c) (some reason)) s

/-- The answer to a start request goes back to its requester (R79). -/
def answerStart (r : StartRequest) (o : Started) (s : State) : State :=
  match r.owner with
  | .station st => match o with
    | .busy => pageRefused st s
    | _ => s
  | .management => answerManagement r o s
  | .alarm ch => requestAnswered ch (rewriteSlot ch s)
  | .peer _ _ => match s.peer.service with
    | some v => answerReserve v o s
    | none => s

/-- The claim unit takes the request at the head of its queue and carries it out whole (R79 to R84, R94). -/
def takeRequest (s : State) : State :=
  match s.claims.queue with
  | [] => s
  | .start r :: rest =>
    let x := startClaim r (modClaims (fun y => { y with queue := rest }) s)
    answerStart r x.1 x.2
  | .gain ch c zs :: rest => requestAnswered ch (gainZones ch c zs (modClaims (fun y => { y with queue := rest }) s))

/-! ### Management start requests (R174, R196) -/

/-- The start request of CLAIM-START (R196). -/
def managementRequest (slot : SlotId) (g : GroupId) (priority : Nat) (mode : ClaimMode) (policy : Policy) (chime : Bool)
    (hold : Nat) (framed : Bool) : StartRequest where
  owner := .management
  priority := priority
  rank := 0
  mode := mode
  policy := policy
  chime := chime
  slot := some slot
  target := .group g
  hold := hold
  framed := framed

/-- A frame is in service, so that an operation belongs to it. -/
def inFrame (s : State) : Bool := s.control.service.isSome

/-- A management start request is offered; its operation waits for the answer, or is refused BUSY (R79, R190). -/
def offerManagement (q : StartRequest) (s : State) : State :=
  if queueAdmits s (.start q) then
    let t := offerRequest (.start q) s
    if q.framed then awaitAnswer t else t
  else answerManagement q .busy (offerRequest (.start q) s)

end Sys2Proof.Machine
end

