-- ==== Sys2Proof/Machine/Boundary.lean ====
section
/-! DEFINITION. The period boundary: the work each block does at it, the changes it makes due that are rows of the command
table, and its end, when the mix, the lanes, the speaker blocks and the page bundle are formed (log entries 1 and 2). -/
namespace Sys2Proof.Machine

/-! ### Generators (R33, R86, R144, R146) -/

/-- A block of the chime generator's current note (R86). -/
def chimeBlock (row : Fin 4) (played : Nat) (s : State) : State :=
  let e := tget s.claims.chimeTable row
  let b := toneBlock s.mix.taper e.freq e.amp s.claims.chimeGen.phase
  writeGenerator 31 b.1 (modClaims (fun x => { x with chimeGen := ⟨some (row, played + 1), b.2⟩ }) s)

/-- The current note has played its duration, as the table holds it (R86). -/
def noteEnded (s : State) : Bool :=
  match s.claims.chimeGen.note with
  | some (row, played) => decide ((tget s.claims.chimeTable row).duration ≤ played)
  | none => false

/-- The chime generator at a boundary, but for the end of a note, which is the CHIME_NOTE_END row's (R86). -/
def chimeWork (s : State) : State :=
  match s.claims.chimeGen.note with
  | none => writeGenerator 31 silence s
  | some (row, played) => if noteEnded s then s else chimeBlock row played s

/-- The end of a note: the next row that is a note, or idle (R86). The phase of an idle generator is 0 (DESIGN CHOICE, log
entry 29). -/
def nextNote (s : State) : State :=
  match s.claims.chimeGen.note with
  | none => s
  | some (row, _) =>
    let next : Fin 4 := finUpTo 3 (row.val + 1)
    if row.val < 3 ∧ isNote s.claims.chimeTable next = true then
      chimeBlock next 0 (modClaims (fun x => { x with chimeGen := ⟨some (next, 0), 0⟩ }) s)
    else writeGenerator 31 silence (modClaims (fun x => { x with chimeGen := ⟨none, 0⟩ }) s)

/-- A tone generator writes silence (R146). -/
def quietTone (ch : ChanId) (s : State) : State := writeGenerator (toneSlot ch) silence s

/-- A tone block of the channel's step, one on period less (R144, R146). -/
def soundTone (ch : ChanId) (freq : Nat) (a : Code) (s : State) : State :=
  let b := toneBlock s.mix.taper freq a (channelOf s ch).phase
  writeGenerator (toneSlot ch) b.1
    (modChannel ch (fun x => { x with onCount := x.onCount - 1, phase := b.2 }) s)

/-- The channel works its current step at a boundary, but for the end of a step (R144). -/
def workStep (ch : ChanId) (s : State) : State :=
  let c := channelOf s ch
  if c.stalled then quietTone ch s
  else match stepAt s ch c.step with
    | some (.tone freq a _ _) =>
      if 0 < c.onCount then soundTone ch freq a s
      else quietTone ch (modChannel ch (fun x => { x with offCount := x.offCount - 1 }) s)
    | some (.silent _) => quietTone ch (modChannel ch (fun x => { x with silenceCount := x.silenceCount - 1 }) s)
    | _ => quietTone ch s

/-- A channel enters a step at a boundary and works it there; at END the program ends, and the generator is silent. What is
left of the 16 steps that the channel may pass at the boundary goes on to the program it is handed to (R144, R153). -/
def enterAndWork (ch : ChanId) (k : Nat) (s : State) : State :=
  let r := enterStep ch 16 k s
  match r.1 with
  | some left => quietTone ch (programEnd ch left r.2)
  | none => workStep ch r.2

/-- The channel leaves its step at a boundary (R144). -/
def leaveStep (ch : ChanId) (s : State) : State := enterAndWork ch ((channelOf s ch).step + 1) s

/-- Both counts of a channel's TONE step are 0 (R144). -/
def toneEnded (s : State) (ch : ChanId) : Bool :=
  match stepAt s ch (channelOf s ch).step with
  | some (.tone _ _ _ _) =>
    !(channelOf s ch).stalled && (channelOf s ch).onCount == 0 && (channelOf s ch).offCount == 0
  | _ => false

/-- The count of a channel's SILENCE step is 0 (R144). -/
def silenceEnded (s : State) (ch : ChanId) : Bool :=
  match stepAt s ch (channelOf s ch).step with
  | some (.silent _) => !(channelOf s ch).stalled && (channelOf s ch).silenceCount == 0
  | _ => false

/-- A channel's CLIP step whose player has finished and is IDLE (R144). -/
def clipEnded (s : State) (ch : ChanId) : Bool := atClip s ch && (playerOf s ch).owner != .alarm ch

/-- A channel at a boundary, but for the ends of TONE and SILENCE steps, which are rows of their own (R144). -/
def channelWork (ch : ChanId) (s : State) : State :=
  if (channelOf s ch).program = none then quietTone ch s
  else if (channelOf s ch).stalled then enterAndWork ch (channelOf s ch).step s
  else if clipEnded s ch then leaveStep ch s
  else if toneEnded s ch || silenceEnded s ch then s
  else workStep ch s

/-- A clip player at a boundary, but for its completion, which is the PLAY_COMPLETE row's (R171, R172). -/
def playerWork (p : ChanId) (s : State) : State :=
  if (playerOf s p).state = .playing ∧ (playerOf s p).position < (playerOf s p).samples then playBlock p s
  else writeGenerator (playerSlot p) silence s

/-- A player completes its clip (R172). -/
def completePlay (p : ChanId) (channelFirst : Bool) (s : State) : State :=
  let owner := (playerOf s p).owner
  let t := count (.playsCompleted p) (releasePlayer p s)
  match owner with
  | .management (some c) => endClaim .complete c t
  | .alarm ch => if channelFirst || !atClip t ch then t else leaveStep ch t
  | _ => t

/-! ### Counting at a boundary -/

/-- The origin table ages (R11). -/
def ageOrigins (s : State) : State :=
  modRing (fun r =>
    { r with origins := tmap (fun _ e => if e.valid then { e with age := min 250 (e.age + 1) } else e) r.origins }) s

/-- An entry of the origin table has reached age 250 (R11). -/
def agedOut (s : State) (k : OriginIx) : Bool :=
  (tget s.ring.origins k).valid && decide (250 ≤ (tget s.ring.origins k).age)

/-- The hold limit of a claim is reached (R93). -/
def holdReached (c : Claim) : Bool :=
  match c.hold with
  | some h => decide (h ≤ c.elapsed)
  | none => false

/-- A claim whose chime timer is counted (R87). -/
def chimesNow (c : Claim) : Bool := c.state == .reserving && c.chime && !c.waiting

/-- A claim at a boundary: elapsed counted, and the chime timer unless the claim times out there (R87, R93). -/
def countClaim (c : Claim) : Claim :=
  let d := { c with elapsed := min 4294967295 (c.elapsed + 1) }
  if chimesNow d && !holdReached d then { d with timer := d.timer - 1 } else d

/-- The claim ends TIMEOUT at the boundary before which it stood so (R93). -/
def timesOut (c : Claim) : Bool := holdReached (countClaim c)

/-- The claim makes its commit test at the boundary before which it stood so (R87). -/
def expires (c : Claim) : Bool := chimesNow c && !timesOut c && c.timer == 0

/-- The claims for which p holds. -/
def claimsWith (s : State) (p : Claim → Bool) : List ClaimId :=
  (everyFin 48).filter fun c => match claimAt s c with
    | some x => p x
    | none => false

/-- Every claim is counted (R87, R93). -/
def countClaims (s : State) : State :=
  modClaims (fun x => { x with table := tmap (fun _ c => Option.map countClaim c) x.table }) s

/-- The scan phase advances (R121). -/
def advancePhase (s : State) : State :=
  modIntercom (fun x => { x with phase := if 7 ≤ x.phase then 0 else x.phase + 1 }) s

/-- The controller timer counts, stopping at the timeout in STANDALONE (R191). -/
def countTimer (s : State) : State :=
  modControl (fun c =>
    { c with timer := if c.mode = .standalone ∧ c.node.timeout ≤ c.timer then c.timer else c.timer + 1 }) s

/-- The report interval counts (R203). -/
def countInterval (s : State) : State := modReports (fun r => { r with interval := r.interval + 1 }) s

/-! ### The changes a boundary makes due -/

/-- The due changes of the slots, before they are judged (R31). -/
def slotDues (s : State) : List Due := (judgedSlots.filter (losesSource s)).map .sourceLost

/-- The due changes of the scene unit: fades that complete, and cues that are reached (R64, R67). -/
def sceneDues (s : State) : List Due :=
  if suspended s then []
  else (s.scene.fades.filter lastStep).map (fun f => .fadeComplete f.target) ++
    (s.scene.cues.filter (cueReached s)).map fun _ => .cueFire

/-- The due changes of the peer unit (R108). -/
def peerDues (s : State) : List Due :=
  (everyFin 8).filterMap fun t => match entryAt s t with
    | some e =>
      if reached e.deadline s.ring.period then
        match e.state with
        | .reserveSent => some (.reserveDeadline t)
        | .commitSent => some (.commitDeadline t)
        | .releaseSent => some (.releaseDeadline t)
        | _ => none
      else none
    | none => none

/-- A due change when a condition holds. -/
def dueIf (b : Bool) (d : Due) : List Due := if b then [d] else []

/-- The due changes of the alarm channels (R144). -/
def channelDues (s : State) : List Due :=
  (everyFin 2).flatMap fun ch => dueIf (toneEnded s ch) (.toneStepEnd ch) ++ dueIf (silenceEnded s ch) (.silenceStepEnd ch)

/-- The due changes of the clip players (R172). -/
def playerDues (s : State) : List Due := (everyFin 2).flatMap fun p => dueIf (playedOut (playerOf s p)) (.playComplete p)

/-- The mode becomes STANDALONE at this boundary (R191). -/
def timerExpired (s : State) : Bool := s.control.mode == .run && decide (s.control.node.timeout ≤ s.control.timer)

/-- The report unit emits at this boundary (R203). -/
def intervalReached (s : State) : Bool := decide (s.control.node.reportInterval ≤ s.reports.interval)

/-! ### Carrying a due change out -/

/-- The 50th consecutive miss of a slot (R31, R32). -/
def loseSource (i : SlotId) (s : State) : State :=
  if losesSource s i then
    let t := modSlot i (fun x => { x with miss := 50, health := .lost, block := silence }) s
    let t := count (.slotLost (countedSlot i)) (report .sourceLost i.val 0 t)
    if (tget s.slots i).mode = some .dynamic then loseDynamic i t else t
  else s

/-- A fade that reaches its total at this boundary completes (R67). -/
def finishFade (t : FadeTarget) (s : State) : State :=
  match fadeOn s t with
  | some f => if lastStep f && !suspended s then completeFade f s else s
  | none => s

/-- A claim whose hold limit is reached ends TIMEOUT (R93). -/
def timeOut (c : ClaimId) (s : State) : State :=
  match claimAt s c with
  | some x => if holdReached x then count .holdTimeouts (endClaim .timeout c s) else s
  | none => s

/-- A claim whose chime timer is 0 makes its commit test (R87). -/
def expireChime (c : ClaimId) (s : State) : State :=
  match claimAt s c with
  | some x => if chimesNow x && x.timer == 0 then commitDue c s else s
  | none => s

/-- A deadline of an entry in a state (R107 to R110). -/
def deadlineOf (state : OutState) (t : TagId) (s : State) : State :=
  match deadlineReached s t state with
  | some e => if state = .releaseSent then freeEntry t s else peerTimeout t e s
  | none => s

/-- The calls whose ringing ends at this scan start, and the keys whose flash timer does (R130, R139). -/
def ringsOut (s : State) : List Due :=
  (everyFin 16).filterMap fun i => match callAt s i with
    | some c => if !c.connected && c.deadline == 1 then some (.callNoAnswer i) else none
    | none => none
def flashesOut (s : State) : List Due :=
  (everyFin 32).flatMap fun st => (everyFin 8).filterMap fun k =>
    if tget (stationOf s st).flash k = 1 then some (.flashTimer st k) else none

/-- The ring deadlines and the flash timers count a scan; a flash timer of 1 is left to its own row (R130, R139). -/
def countScan (s : State) : State :=
  modIntercom (fun x =>
    { x with
      calls := tmap (fun _ c => Option.map (fun c : Call =>
        if c.connected then c else { c with deadline := c.deadline - 1 }) c) x.calls
      stations := tmap (fun _ y =>
        { y with flash := tmap (fun _ n => if 1 < n then n - 1 else n) y.flash }) x.stations }) s

/-- Changes join the due list. -/
def addDues (l : List Due) (s : State) : State := modBoundary (fun b => { b with due := b.due ++ l }) s

/-- A call whose ring deadline is 0 ends NO-ANSWER (R130). -/
def ringOut (i : CallId) (s : State) : State :=
  match callAt s i with
  | some c => if !c.connected && c.deadline == 0 then count .callsNoAnswer (endCall .noAnswer i s) else s
  | none => s

/-- A key's flash timer reaches 0 (R139). -/
def flashOut (st : StationId) (k : KeyId) (s : State) : State :=
  if tget (stationOf s st).flash k = 1 then modStation st (fun x => { x with flash := tset x.flash k 0 }) s else s

/-- What expires at a scan start: the ring deadline of a call, or the flash timer of a key (R130, R139). -/
def expireAtScan (d : Due) (s : State) : State :=
  match d with
  | .callNoAnswer i => ringOut i s
  | .flashTimer st k => flashOut st k s
  | _ => s

/-- A scan begins: timers count, what expires falls due, and station 0 is polled with the lamps and the ringer that the
expiries leave it (R121, R130, R139). -/
def beginScan (s : State) : State :=
  let l := ringsOut s ++ flashesOut s
  let t := addDues l (countScan s)
  modStation 0 (fun x => { x with poll := pollNow (forEach l expireAtScan t) 0 }) t

/-- A station whose missed-scan count is 3 becomes ABSENT, and the poll of the next one follows (R121, R122, R133). -/
def loseStation (st : StationId) (s : State) : State :=
  if (stationOf s st).present = true ∧ (stationOf s st).missed = 3 then pollNext st (becomeAbsent st s) else s

/-- The part enters STANDALONE (R191). -/
def enterStandalone (s : State) : State :=
  if timerExpired s then
    count .standaloneEntries (report .standalone 0 1 (modControl (fun c => { c with mode := .standalone }) s))
  else s

/-- One REPORT frame for each controller, or one for every node (R203). Of two controllers the one in the first place of the
list gets its frame first (DESIGN CHOICE, log entry 12). -/
def sendReports (records : List Report) (overflow : Bool) (s : State) : State :=
  let dests := if (controllers s.control.node).isEmpty then [255] else controllers s.control.node
  forEach dests (fun d t => count .reportFrames (originate reportKind d (.report records overflow) t)) s

/-- The report unit emits up to 12 records, oldest first (R203). -/
def emitReports (s : State) : State :=
  if intervalReached s then
    let t := modReports (fun r => { r with interval := 0 }) s
    if s.reports.queue.isEmpty then t
    else sendReports (s.reports.queue.take 12) s.reports.overflow
      (modReports (fun r => { r with queue := r.queue.drop 12, overflow := false }) t)
  else s

/-- An origin entry that has reached age 250 becomes invalid (R11). -/
def dropOrigin (k : OriginIx) (s : State) : State :=
  if agedOut s k then modRing (fun r => { r with origins := tmod r.origins k fun e => { e with valid := false } }) s else s

/-- What the readers of the boundary in progress would see at this moment is kept (R43). -/
def see (s : State) : State := modBoundary (fun b => { b with seen := b.seen ++ [mixView s] }) s

/-- A due change leaves the list, at a moment of its own. -/
def dropDue (d : Due) (s : State) : State :=
  modBoundary (fun b => { b with due := b.due.erase d, seen := b.seen ++ [mixView s] }) s

/-- The target of a fade that is due to complete. -/
def fadeDue : Due → Option FadeTarget
  | .fadeComplete t => some t
  | _ => none

/-- The fades that are due to complete at this boundary do so before a cue fires (R63). -/
def settleFades (s : State) : State :=
  forEach (s.boundary.due.filterMap fadeDue) (fun t u => finishFade t (dropDue (.fadeComplete t) u)) s

/-- Stages 1 and 2 of the scene unit, and what they make due at stage 3: show hold, the fades that do not complete, then
the fades that do and the cues that fire (R63, R69). -/
def sceneStages (s : State) : List Due × State :=
  let t := evaluateHold s
  (sceneDues t, stepFades t)

/-- Stages 1 and 2 of the scene unit among the other changes of the boundary: what they make due comes next (R69). -/
def sceneWork (s : State) : State :=
  let r := sceneStages s
  modBoundary (fun b => { b with due := r.1 ++ b.due }) r.2

/-- A change that a boundary has made due is carried out, if what made it due still holds. -/
def act (d : Due) (s : State) : State :=
  match d with
  | .sceneWork => sceneWork s
  | .originAgeOut k => dropOrigin k s
  | .sourceLost i => loseSource i s
  | .fadeComplete t => finishFade t s
  | .cueFire => if suspended s then s else fireCue (settleFades s)
  | .chimeNoteEnd => if noteEnded s then nextNote s else s
  | .holdTimeout c => timeOut c s
  | .chimeExpiry c => expireChime c s
  | .reserveDeadline t => deadlineOf .reserveSent t s
  | .commitDeadline t => deadlineOf .commitSent t s
  | .releaseDeadline t => deadlineOf .releaseSent t s
  | .scanStart => beginScan s
  | .callNoAnswer i => ringOut i s
  | .flashTimer st k => flashOut st k s
  | .stationAbsent st => loseStation st s
  | .toneStepEnd ch => if toneEnded s ch then leaveStep ch s else s
  | .silenceStepEnd ch => if silenceEnded s ch then leaveStep ch s else s
  | .playComplete p => if playedOut (playerOf s p) then completePlay p false s else s
  | .windowClose => if 256 ≤ s.lines.windowCount then closeWindow s else s
  | .standaloneEntry => enterStandalone s
  | .reportEmission => emitReports s

/-! ### The end of a boundary -/

/-- A slot whose block its generator writes at each boundary (R33). -/
def isGenerated (i : SlotId) : Bool := decide (27 ≤ i.val)

/-- What is read at a moment of a boundary: the state of that moment, a ring or station slot with the block that the
judgment of the boundary set, and a generator's slot with the block written for the boundary (R31, R33, R43). -/
def earlyView (early late : MixView) : MixView :=
  { early with
    slots := tmap (fun i x => if isGenerated i then { x with block := (tget late.slots i).block } else x) early.slots }

/-- The moment at which a zone or a station is read, when that is before the end of the boundary. -/
def moment {α : Type} [BEq α] (l : List (α × Nat)) (a : α) : Option Nat := (l.find? fun x => x.1 == a).map (·.2)

/-- What is read at a moment of the boundary, or at its end (R43, R138, R178). -/
def viewAt (b : Boundary) (late : MixView) (m : Option Nat) : MixView :=
  match m with
  | some n => match b.seen[n]? with
    | some v => earlyView v late
    | none => late
  | none => late

/-- What stages 3 to 5 of the line supervisor read at a moment of the boundary, but not before stage 2 has closed a window
that is due, or at its end (R178). -/
def lineViewAt (b : Boundary) (late : MixView) (m : Option Nat) : MixView :=
  match m with
  | some n => ((b.seen.drop n).find? fun v => !v.windowDue).getD late
  | none => late

/-- The later of two moments; `none` is the end of the boundary. -/
def later (m n : Option Nat) : Option Nat :=
  match m, n with
  | some m, some n => some (max m n)
  | _, _ => none

/-- The moment at which a stage that reads each zone at a moment of its own has read them all. -/
def stageEnd (stage : ZoneId → Option Nat) : Option Nat := (everyFin 24).foldl (fun m z => later m (stage z)) (some 0)

/-- The moment at which the mix engine reads a zone and forms its block (R43). -/
def mixMoment (race : Race) (z : ZoneId) : Option Nat := moment race.mixAt z

/-- The moment of stage 3, 4 and 5 of the line supervisor for a zone: no stage comes before the end of the one ahead of it,
and stage 4 sends a zone's block as the mix engine hands it over, so it does not come before the mix engine has read the zone
(R43, R178). -/
def spareMoment (race : Race) (z : ZoneId) : Option Nat := moment race.lineAt z
def laneMoment (race : Race) (z : ZoneId) : Option Nat :=
  later (stageEnd (spareMoment race)) (later (mixMoment race z) (moment race.laneAt z))
def unheardMoment (race : Race) (z : ZoneId) : Option Nat :=
  later (stageEnd (laneMoment race)) (moment race.unheardAt z)

/-- The 24 zone blocks are formed and handed over, each zone read at its own moment (R43). -/
def formZones (b : Boundary) (late : MixView) (s : State) : State :=
  forEach (everyFin 24) (fun z t => deliverZone z (formZone (viewAt b late (mixMoment b.race z)) z) t) s

/-- The speaker block of every station is formed (R138). At a station's own moment it reads the taper, the zone record and
the claim list of its home zone; its call, the microphone blocks, its volume and its home zone are read at the end of the
boundary (DESIGN CHOICE, log entry 2). -/
def formSpeakers (b : Boundary) (late : MixView) (s : State) : State :=
  modIntercom (fun x =>
    { x with stations := tmap (fun st y =>
      { y with speaker := speakerBlock s (viewAt b late (moment b.race.speakerAt st)) st }) x.stations }) s

/-- Stage 5 of the line supervisor, each zone as it is read (R178, R185). -/
def judgeUnheard (read : ZoneId → MixView) (s : State) : State :=
  forEach (everyFin 24) (fun z t => setUnheard z (unheard (read z) t z) t) s

/-- No boundary is in progress. -/
def closedBoundary : Boundary := ⟨false, [], [], ⟨[], [], [], [], [], 0, none, false⟩⟩

/-- The boundary ends: spare lanes, zone blocks, lanes, unheard flags, speaker blocks, page bundle (R43, R104, R138,
R178). What a stage of the line supervisor has read at an earlier moment is acted on here, with its reports (DESIGN CHOICE,
log entry 2). -/
def closeBoundary (s : State) : State :=
  let b := s.boundary
  let t := modBoundary (fun _ => closedBoundary) s
  if running s then
    let late := mixView t
    let read := fun (stage : Race → ZoneId → Option Nat) z => lineViewAt b late (stage b.race z)
    sendBundle (formSpeakers b late (judgeUnheard (read unheardMoment)
      (fillLanes (read laneMoment) (formZones b late (arbitrateSpares (read spareMoment) t)))))
  else t

/-- Stages 1 and 2 of the scene unit come next: as many of the other changes of the boundary have come before them as the
race operand says, or all (R69; log entry 2). -/
def sceneIsNext (s : State) : Bool :=
  s.boundary.due.contains .sceneWork && (s.boundary.race.holdAfter == some 0 || s.boundary.due == [.sceneWork])

/-- One more change of the boundary is to come before stages 1 and 2 of the scene unit (R69). -/
def sceneWaits (s : State) : State :=
  modBoundary (fun b => { b with race := { b.race with holdAfter := b.race.holdAfter.map (· - 1) } }) s

/-- Stages 1 and 2 of the scene unit, where they are due: they are carried out when they come next, and wait for one more
change otherwise. -/
def sceneTurn (s : State) : State :=
  if sceneIsNext s then sceneWork (dropDue .sceneWork s)
  else if s.boundary.due.contains .sceneWork then sceneWaits s
  else s

/-- The scene unit's turn, and the end of a boundary with no change left to carry out and no command to wait for. -/
def closeIfDone (s : State) : State :=
  let t := sceneTurn s
  if t.boundary.isOpen && t.boundary.due.isEmpty && t.boundary.race.meanwhile == 0 then closeBoundary t else t

/-- The command of a due change: it is carried out, and the boundary ends when it was the last. The command of a change
that is not due has no effect (log entries 1 and 4). -/
def takeDue (d : Due) (f : State → State) (s : State) : State :=
  if s.boundary.due.contains d then closeIfDone (f (dropDue d s)) else s

/-- A due change is carried out. -/
def carryDue (d : Due) (s : State) : State := act d (dropDue d s)

/-- A change of stage 3 of the scene unit's turn, or a fade that completes in it. -/
def isSceneDue : Due → Bool
  | .fadeComplete _ => true
  | .cueFire => true
  | _ => false

/-- The scene unit's turn, with what it makes due. -/
def sceneTurnWhole (s : State) : State :=
  let t := sceneTurn s
  if sceneIsNext s then forEach (t.boundary.due.filter isSceneDue) carryDue t else t

/-- A due change is carried out, if it still is due, and the scene unit has its turn. -/
def passDue (d : Due) (s : State) : State :=
  if s.boundary.due.contains d then sceneTurnWhole (carryDue d s) else s

/-- The due changes, carried out in their order. -/
def passDues (s : State) : State := forEach (s.boundary.due.filter (· != .sceneWork)) passDue s

/-- The due changes of the boundary in progress, with those that SCAN_START adds, and its end where it waits for no further
command (log entry 1). -/
def passAll (s : State) : State := closeIfDone (passDues (passDues s))

/-- A boundary that waits for further commands admits one, at a moment of its own (R43; log entry 2). -/
def admitNext (s : State) : State :=
  if s.boundary.isOpen then
    modBoundary (fun b => { b with race := { b.race with meanwhile := b.race.meanwhile - 1 } }) (see s)
  else s

/-- What a boundary still has to do is done before any other command: its due changes, and its end, unless the command is
one that falls before the end (log entries 1 and 2). -/
def settle (s : State) : State :=
  if s.boundary.isOpen || !s.boundary.due.isEmpty then admitNext (passAll s) else s

/-- The boundary in progress waits for no further command. -/
def hasten (s : State) : State := modBoundary (fun b => { b with race := { b.race with meanwhile := 0 } }) s

/-- What a boundary still has to do is done, its end too: before a further boundary, a capture, a soft reset or a reload
(log entry 2). -/
def finish (s : State) : State :=
  if s.boundary.isOpen || !s.boundary.due.isEmpty then passAll (hasten s) else s

/-! ### The beginning of a boundary -/

/-- Every generator writes silence, every zone, lane and speaker is silent, and returns are discarded: a boundary in
LOADING or UNADDRESSED (R54, R98, R140, R161, R175, R186). -/
def idleBlocks (s : State) : State :=
  let t := forEach (everyFin 5) (fun i => writeGenerator ⟨27 + i.val, by omega⟩ silence) s
  let t := modMix (fun m => { m with zoneOut := Vector.replicate 24 silence }) t
  let t := modIntercom (fun x => { x with stations := tmap (fun _ y => { y with speaker := silence }) x.stations }) t
  silenceLanes (discardReturns t)

/-- The claim unit's ends and commits at a boundary, in claim order (R87, R93). -/
def claimDues (s : State) : List Due :=
  (claimsWith s timesOut).map .holdTimeout ++ (claimsWith s expires).map .chimeExpiry

/-- Everything that a running part counts and works at a boundary, with the changes it makes due in the order in which
they are carried out (log entry 1). The readers' first moments are before all of it and before each alarm channel. Stages 1
and 2 of the scene unit come before the other changes, or are due among them (R69; log entry 2). Where the manual names no
order, channel 0 is worked before channel 1, and player 0 before player 1 (DESIGN CHOICE, log entry 12). -/
def runBoundary (race : Race) (first : List Due) (s : State) : State :=
  let t := lineStage1 s
  let start := mixView t
  let scene := if race.holdAfter.isNone then sceneStages t else ([], t)
  let t := scene.2
  let claims := claimDues t
  let t := countClaims t
  let chime := dueIf (noteEnded t) .chimeNoteEnd
  let t := chimeWork t
  let chans := channelDues t
  let seen := [start, mixView t, mixView (channelWork 0 t)]
  let t := forEach (everyFin 2) channelWork t
  let plays := playerDues t
  let t := forEach (everyFin 2) playerWork t
  let t := countInterval (countTimer (advancePhase t))
  modBoundary (fun _ =>
    { isOpen := true
      due := first ++ scene.1 ++ chime ++ claims ++ peerDues t ++ dueIf (t.intercom.phase == 0) .scanStart ++ chans ++
        plays ++ dueIf (decide (256 ≤ t.lines.windowCount)) .windowClose ++ dueIf (timerExpired t) .standaloneEntry ++
        dueIf (intervalReached t) .reportEmission ++ dueIf race.holdAfter.isSome .sceneWork
      seen := seen
      race := race }) t

/-- A period boundary is made: what every block does at it, up to the changes that are rows of their own (R11, R31,
section 0.6). The reports that the blocks make here, such as SOURCE-LIVE, SHOW-HOLD and those of an alarm channel, are
placed before the emission of the same boundary (R202, R203; DESIGN CHOICE, log entry 12). -/
def openBoundary (race : Race) (s : State) : State :=
  let t := ageOrigins s
  let lost := slotDues t
  let t := forEach judgedSlots judgeSlot t
  let first := ((everyFin 254).filter (agedOut t)).map Due.originAgeOut ++ lost
  closeIfDone (if running t then runBoundary race first t
    else modBoundary (fun _ => ⟨true, first, [], { race with meanwhile := 0 }⟩) (idleBlocks t))

end Sys2Proof.Machine
end

