-- ==== Sys2Proof/Machine/Wire.lean ====
section
/-! DEFINITION. The bytes of a frame on the wire: its payload, its length field and its check (R3, R13). The layouts inside
a REPLY and a REPORT payload are constants of Config (log entry 3). -/
namespace Sys2Proof.Machine

/-- An entry as a REPLY carries it (R195). -/
def entryBytes (e : ReadEntry) : List Byte := (Config.entryField (entryForm e).1 (entryForm e).2 e).toList

/-- The data of a result (R197). -/
def dataBytes : ResultData → List Byte
  | .none => []
  | .taken n => (Config.takenField n).toList
  | .entries _ l => l.flatMap entryBytes
  | .missed _ e => entryBytes e
  | .claim id reason => (Config.claimIdField id reason).toList

/-- A result: its index and code, then its data (R197). -/
def resultBytes (r : Result) : List Byte := (Config.resultHead r.index r.code).toList ++ dataBytes r.data

/-- The payload of a frame: the bytes it carries, the frame number, overflow flag and results of a REPLY (R197), or the
records of a REPORT (R203). -/
def payloadBytes : Body → List Byte
  | .bytes b => b
  | .reply r => (Config.replyHead r.frameNumber r.overflow).toList ++ r.results.flatMap resultBytes
  | .report records overflow =>
    (Config.reportHead records.length overflow).toList ++ records.flatMap fun r => (Config.recordField r).toList

/-- The bytes of a frame: header, payload and check (R3, R13). -/
def wireBytes (f : Frame) : List Byte :=
  headerBytes f f.hop (payloadBytes f.body).length ++ payloadBytes f.body ++ bytes32 (frameCheck f (payloadBytes f.body))

end Sys2Proof.Machine
end

