-- ==== Sys2Proof/Machine/Frames.lean ====
section
/-! DEFINITION. The ring ports: link states, reception, classification, duplicate suppression, forwarding and period
timing (chapter 1). -/
namespace Sys2Proof.Machine

/-! ### Link states (R1, R2) -/

/-- A port takes a link state, with its LINK-CHANGE report (R1). -/
def setLink (p : Port) (l : LinkState) (s : State) : State :=
  report .linkChange (portIx p) (linkCode l) (modPort p (fun x => { x with link := l }) s)

/-- A port leaves UP: the frame in reception, the frame in transmission and the queued frames are discarded (R2). -/
def dropTraffic (p : Port) (midFrame : Bool) (s : State) : State :=
  let x := portOf s p
  let t := if midFrame then count (.badCheck p) s else s
  let t := if x.sending.isSome then count (.linkDiscard p) t else t
  countTimes (.linkDiscard p) x.queue.length (modPort p (fun y => { y with queue := [], sending := none }) t)

/-- Signal is lost on a port (R1, R2). -/
def loseSignal (p : Port) (midFrame : Bool) (s : State) : State :=
  match (portOf s p).link with
  | .down => s
  | .training => setLink p .down s
  | .up => setLink p .down (dropTraffic p midFrame s)

/-- A transmission completes, and the arbiter chooses the next frame (R15). -/
def completeTransmission (p : Port) (s : State) : State :=
  if (portOf s p).sending.isSome then
    arbitrate p (count (.framesOut p) (modPort p (fun x => { x with sending := none }) s))
  else s

/-! ### Period timing (R17, R18) -/

/-- The timing state becomes LOCKED or HOLDOVER, with a HOLDOVER report of the recorded master when it changes (R17,
R18). The report is placed before those of the boundary that follows (DESIGN CHOICE, log entry 12). -/
def setTiming (t : Timing) (s : State) : State :=
  if s.ring.timing = t then s
  else report .holdover s.ring.master (if t = .holdover then 1 else 0) (modRing (fun r => { r with timing := t }) s)

/-- A local boundary is made by the period timer (R18). -/
def localBoundary (race : Race) (s : State) : State :=
  let t := modRing (fun r => { r with period := r.period + 1, window := true }) s
  openBoundary race (count .localBoundaries (setTiming .holdover t))

/-- A beacon is adopted: its period number and master are recorded, the timing state is LOCKED and the re-label window
closed (R17). -/
def adoptBeacon (payload : List Byte) (s : State) : State :=
  setTiming .locked (modRing (fun r =>
    { r with period := beaconPeriod payload, master := beaconMaster payload, window := false }) s)

/-- A BEACON is taken: with its timing valid flag it re-labels a local boundary or makes a new one (R5, R17). -/
def takeBeacon (payload : List Byte) (race : Race) (s : State) : State :=
  if beaconValid payload then
    if s.ring.window then count .relabels (adoptBeacon payload s)
    else openBoundary race (adoptBeacon payload s)
  else s

/-! ### Duplicate suppression and hand-over (R10, R12) -/

/-- The place of an origin in the origin table (section 1.5). -/
def originIx (origin : Nat) : OriginIx := finUpTo 253 (origin - 1)

/-- The frame is new by its origin's entry (R10). -/
def isNew (e : OriginEntry) (seq : Word16) : Bool :=
  !e.valid || (decide (1 ≤ (seq - e.last).toNat) && decide ((seq - e.last).toNat ≤ 32767))

/-- A new frame is handed to the block that uses its kind (R12). -/
def handOver (f : Frame) (payload : List Byte) (race : Race) (s : State) : State :=
  match f.kind.toNat with
  | 1 => takeBeacon payload race s
  | 2 => audioCapture f.origin payload s
  | 3 => takeControlFrame f.origin payload s
  | 5 => takeClaimFrame f.origin f.dest payload s
  | 7 => takeAlarmFrame f.origin payload s
  | _ => s

/-- The take path: a new frame updates its origin's entry and is handed over, another is a duplicate (R8, R10, R12). -/
def takeFrame (p : Port) (f : Frame) (payload : List Byte) (race : Race) (s : State) : State :=
  if isNew (tget s.ring.origins (originIx f.origin)) f.seq then
    let t := modRing (fun r => { r with origins := tset r.origins (originIx f.origin) ⟨true, f.seq, 0⟩ }) s
    handOver f payload race (count .framesTaken t)
  else count (.duplicate p) s

/-- The forward path: the hop count falls by 1, and the frame is offered to the other port's queue (R9). -/
def forwardFrame (p : Port) (f : Frame) (s : State) : State :=
  if f.hop = 0 then count (.hopExpired p) s else offer (otherPort p) { f with hop := f.hop - 1 } s

/-! ### Classification (R8, R19, R20) -/

/-- A frame addressed to every node is both taken and forwarded, in either order (R8, row 4). -/
def takeAndForward (p : Port) (f : Frame) (payload : List Byte) (race : Race) (s : State) : State :=
  if race.forwardFirst then takeFrame p f payload race (forwardFrame p f s)
  else forwardFrame p f (takeFrame p f payload race s)

/-- A checked frame in RUN and STANDALONE, by the first row that applies (R8). -/
def classify (p : Port) (f : Frame) (payload : List Byte) (race : Race) (s : State) : State :=
  if f.origin = s.ring.nodeId then count (.stripped p) s
  else if knownKind f.kind = false then forwardFrame p f s
  else if f.dest = s.ring.nodeId then takeFrame p f payload race s
  else if f.dest = 255 then takeAndForward p f payload race s
  else forwardFrame p f s

/-- A checked frame in LOADING (R20). -/
def classifyLoading (p : Port) (f : Frame) (s : State) : State :=
  if f.origin = s.ring.nodeId then count (.stripped p) s
  else if knownKind f.kind = false then forwardFrame p f s
  else if f.dest = s.ring.nodeId then count (.loadingDiscard p) s
  else forwardFrame p f s

/-- A frame that has passed the integrity checks, by the mode of the part (R8, R19, R20). -/
def checkedFrame (p : Port) (f : Frame) (payload : List Byte) (race : Race) (s : State) : State :=
  match s.control.mode with
  | .unaddressed => forwardFrame p f s
  | .loading => classifyLoading p f s
  | .run => classify p f payload race s
  | .standalone => classify p f payload race s

/-- The bytes are those of a BEACON or AUDIO frame, by their kind: a boundary in progress ends before such a frame, which
may make the next one, or capture a block (R17, R29; log entry 2). -/
def isTimed (bytes : List Byte) : Bool := bytes.getD 0 0 == beaconKind || bytes.getD 0 0 == audioKind

/-- A whole frame is received at a port (R7). -/
def receiveFrame (p : Port) (bytes : List Byte) (race : Race) (s : State) : State :=
  match integrity bytes with
  | .oversize => count (.oversize p) s
  | .badCheck => count (.badCheck p) s
  | .runt => count (.runt p) s
  | .badOrigin => count (.badOrigin p) s
  | .passed f payload => checkedFrame p f payload race (count (.framesIn p) s)

end Sys2Proof.Machine
end

