-- ==== Sys2Proof/Machine/AlarmCommands.lean ====
section
/-! DEFINITION. The meanings of the alarm rows of the command table. -/
namespace Sys2Proof.Machine

/-- TONE_STEP_END (R144). -/
def execToneStepEnd (ch : ChanId) (s : State) : Host.Outcome State Fault Refusal :=
  .next (takeDue (.toneStepEnd ch) (act (.toneStepEnd ch)) s)

/-- SILENCE_STEP_END (R144). -/
def execSilenceStepEnd (ch : ChanId) (s : State) : Host.Outcome State Fault Refusal :=
  .next (takeDue (.silenceStepEnd ch) (act (.silenceStepEnd ch)) s)

/-- The program of a number that a command carries, when it is in range (R196). -/
def programOfNumber (n : Nat) : Option ProgramId := if h : n < 8 then some ⟨n, h⟩ else none

/-- The answer of a START or STOP of management (R149). -/
def alarmDone (r : Option AlarmRefusal × State) : State :=
  match r.1 with
  | some x => commandDone (refusalCode x) r.2
  | none => commandDone .ok r.2

/-- ALARM_START (R150). -/
def execAlarmStart (program group : Nat) (s : State) : Host.Outcome State Fault Refusal :=
  .next (operation (fun t => match programOfNumber program with
    | none => commandDone .outOfRange t
    | some p => alarmDone (startAlarm p group t)) (settle s))

/-- ALARM_STOP (R152). -/
def execAlarmStop (program : Nat) (s : State) : Host.Outcome State Fault Refusal :=
  .next (operation (fun t => match programOfNumber program with
    | none => commandDone .outOfRange t
    | some p => alarmDone (stopAlarm p t)) (settle s))

end Sys2Proof.Machine
end

