-- ==== Sys2Proof/Machine/ClaimCommands.lean ====
section
/-! DEFINITION. The meanings of the claim rows of the command table. -/
namespace Sys2Proof.Machine

/-- CLAIM_REQUEST_TAKE (R79, R80). -/
def execClaimRequestTake (s : State) : Host.Outcome State Fault Refusal :=
  .next (let t := settle s; if running t then takeRequest t else t)

/-- CHIME_NOTE_END (R86). -/
def execChimeNoteEnd (s : State) : Host.Outcome State Fault Refusal :=
  .next (takeDue .chimeNoteEnd (act .chimeNoteEnd) s)

/-- CHIME_EXPIRY (R87). -/
def execChimeExpiry (c : ClaimId) (s : State) : Host.Outcome State Fault Refusal :=
  .next (takeDue (.chimeExpiry c) (expireChime c) s)

/-- HOLD_TIMEOUT (R93). -/
def execHoldTimeout (c : ClaimId) (s : State) : Host.Outcome State Fault Refusal :=
  .next (takeDue (.holdTimeout c) (timeOut c) s)

/-- The slot of a CLAIM-START, when it is one that management may name: a ring slot that is not DYNAMIC (R196). -/
def claimStartSlot (s : State) (n : Nat) : Option SlotId :=
  if h : n < 23 then
    if (tget s.slots ⟨n, by omega⟩).mode = some .dynamic then none else some ⟨n, by omega⟩
  else none

/-- CLAIM_START (R196). -/
def execClaimStart (slot group priority : Nat) (mode : ClaimMode) (policy : Policy) (chime : Bool) (hold : Nat)
     (s : State) : Host.Outcome State Fault Refusal :=
  .next (operation (fun t => match claimStartSlot t slot, groupOfNumber group with
    | some i, some g => offerManagement (managementRequest i g priority mode policy chime hold (inFrame t)) t
    | _, _ => commandDone .outOfRange t) (settle s))

/-- The reason with which CLAIM-END ends a claim, or why it is refused (R92). -/
def claimEndReason : Owner → Except ResultCode EndReason
  | .station _ => .ok .released
  | .management => .ok .released
  | .peer _ _ => .ok .preempted
  | .alarm _ => .error .inUse

/-- CLAIM_END (R92). -/
def execClaimEnd (claim : Nat) (s : State) : Host.Outcome State Fault Refusal :=
  .next (operation (fun t =>
    if h : claim < 48 then
      match claimAt t ⟨claim, h⟩ with
      | none => commandDone .notFound t
      | some cl =>
        match claimEndReason cl.owner with
        | .error code => commandDone code t
        | .ok reason => commandDone .ok (endClaim reason ⟨claim, h⟩ t)
    else commandDone .outOfRange t) (settle s))

end Sys2Proof.Machine
end

