-- ==== Sys2Proof/Machine/ClipCommands.lean ====
section
/-! DEFINITION. The meanings of the clip rows of the command table. -/
namespace Sys2Proof.Machine

/-- A read completes: it is counted, and its data handed over (R170). -/
def readDone (r : ReadRequest) (data : List Byte) (s : State) : State :=
  arbitrateFlash (deliverRead r.reader data (count .flashReads (modClips (fun c => { c with inFlight := none }) s)))

/-- A sector of the head request of the write queue completes: the request goes on, or leaves the queue (R169). -/
def advanceWrite (w : WriteRequest) (rest : List WriteRequest) (s : State) : State :=
  let v := { w with finished := w.finished + 1 }
  if (writeTargets v).isEmpty then
    let t := modClips (fun c => { c with writes := rest }) s
    match w.kind with
    | .image _ => count .imageSaves (modControl (fun c => { c with saving := false }) t)
    | _ => t
  else modClips (fun c => { c with writes := v :: rest }) s

/-- A write completes (R170). -/
def writeDone (s : State) : State :=
  let t := count .flashWrites (modClips (fun c => { c with inFlight := none }) s)
  match t.clips.writes with
  | w :: rest => arbitrateFlash (advanceWrite w rest t)
  | [] => arbitrateFlash t

/-- FLASH_READ_COMPLETE (R170), of the read in flight. -/
def execFlashReadComplete (data : List Byte) (s : State) : Host.Outcome State Fault Refusal :=
  .next (let t := settle s
    match t.clips.inFlight with
    | some (.read r) => readDone r data t
    | _ => t)

/-- FLASH_WRITE_COMPLETE (R170), of the write in flight. -/
def execFlashWriteComplete (s : State) : Host.Outcome State Fault Refusal :=
  .next (let t := settle s
    match t.clips.inFlight with
    | some (.write _ _) => writeDone t
    | _ => t)

/-- PLAY_COMPLETE (R172). -/
def execPlayComplete (p : ChanId) (channelFirst : Bool) (s : State) : Host.Outcome State Fault Refusal :=
  .next (takeDue (.playComplete p)
    (fun t => if playedOut (playerOf t p) then completePlay p channelFirst t else t) s)

/-- A player is reserved for a playback, and its claim requested (R174). -/
def reservePlayer (p : ChanId) (c : ClipId) (g : GroupId) (priority : Nat) (mode : ClaimMode) (policy : Policy) (chime : Bool)
    (s : State) : State :=
  offerManagement (managementRequest (playerSlot p) g priority mode policy chime 0 (inFrame s))
    (modPlayer p (fun x => { x with owner := .management none, clip := c }) s)

/-- PLAY_CLIP (R174). -/
def execPlayClip (clip group priority : Nat) (mode : ClaimMode) (policy : Policy) (chime : Bool)
     (s : State) : Host.Outcome State Fault Refusal :=
  .next (operation (fun t => match clipOfNumber clip, groupOfNumber group with
    | some c, some g =>
      if (clipAt t c).state ≠ .ready then commandDone .notReady t
      else match freePlayer t with
        | none => commandDone .busy t
        | some p => reservePlayer p c g priority mode policy chime t
    | _, _ => commandDone .outOfRange t) (settle s))

/-- CLIP_OPEN (R165). -/
def execClipOpen (clip samples : Nat) (s : State) : Host.Outcome State Fault Refusal :=
  .next (operation (fun t => match clipOfNumber clip with
    | none => commandDone .outOfRange t
    | some c =>
      if samples = 0 then commandDone .outOfRange t
      else if (clipAt t c).state ≠ .empty then commandDone .exists t
      else if anyOpen t then commandDone .busy t
      else match allocate t (sectorCount samples) with
        | none => commandDone .noSpace t
        | some first =>
          commandDone .ok (modClips (fun x => { x with writtenSet := [] })
            (setClip c ⟨.opened, first, sectorCount samples, samples, 0⟩ t))) (settle s))

/-- A clip sector write is queued, and its index joins the written set (R166). -/
def queueSector (c : ClipId) (e : DirEntry) (index : Nat) (data : List Byte) (s : State) : State :=
  let w := if s.clips.writtenSet.contains index then s.clips.writtenSet else s.clips.writtenSet ++ [index]
  let t := modClips (fun x =>
    { x with writtenSet := w, directory := tset x.directory c { e with written := w.length } }) s
  count .clipWritesQueued (queueWrite (.clip (e.first + index) data) t)

/-- CLIP_WRITE (R166). -/
def execClipWrite (clip index : Nat) (data : List Byte) (s : State) : Host.Outcome State Fault Refusal :=
  .next (operation (fun t => match clipOfNumber clip with
    | none => commandDone .notFound t
    | some c =>
      let e := clipAt t c
      if e.state ≠ .opened then commandDone .notFound t
      else if e.sectors ≤ index ∨ data.length ≠ 4096 then commandDone .outOfRange t
      else if t.control.saving = true ∨ 4 ≤ t.clips.writes.length then commandDone .busy t
      else commandDone .ok (queueSector c e index data t)) (settle s))

/-- CLIP_CLOSE (R167). -/
def execClipClose (clip : Nat) (s : State) : Host.Outcome State Fault Refusal :=
  .next (operation (fun t => match clipOfNumber clip with
    | none => commandDone .notFound t
    | some c =>
      let e := clipAt t c
      if e.state ≠ .opened then commandDone .notFound t
      else if canQueueDirectory t.clips.writes then
        commandDone .ok (queueDirectory (modClips (fun x => { x with writtenSet := [] })
          (setClip c { e with state := if e.written = e.sectors then .ready else .bad } t)))
      else commandDone .busy t) (settle s))

/-- A clip's entry becomes EMPTY, and what waits to be written of it is removed (R168). -/
def deleteClip (c : ClipId) (e : DirEntry) (s : State) : State :=
  let t := if e.state = .opened then
      modClips (fun x => { x with writtenSet := [], writes := x.writes.filter fun w => !writesClip e w }) s
    else s
  queueDirectory (setClip c emptyClip t)

/-- CLIP_DELETE (R168). -/
def execClipDelete (clip : Nat) (s : State) : Host.Outcome State Fault Refusal :=
  .next (operation (fun t => match clipOfNumber clip with
    | none => commandDone .outOfRange t
    | some c =>
      let e := clipAt t c
      if e.state = .empty then commandDone .notFound t
      else if playerHolds t c then commandDone .inUse t
      else if canQueueDirectory t.clips.writes then commandDone .ok (deleteClip c e t)
      else commandDone .busy t) (settle s))

end Sys2Proof.Machine
end

