-- ==== Sys2Proof/Machine/ControlCommands.lean ====
section
/-! DEFINITION. The meanings of the control rows of the command table, and of the report row. -/
namespace Sys2Proof.Machine

/-- CONTROL_FRAME_START (R190). -/
def execControlFrameStart (s : State) : Host.Outcome State Fault Refusal :=
  .next (startFrame (settle s))

/-- STANDALONE_ENTRY (R191). -/
def execStandaloneEntry (s : State) : Host.Outcome State Fault Refusal :=
  .next (takeDue .standaloneEntry enterStandalone s)

/-- A SELECT or WINDOW whose pointer is none is refused OUT-OF-RANGE (R193). -/
def setPointer (p : Option Pointer) (s : State) : State :=
  match p with
  | some p => commandDone .ok (modControl (fun c => { c with pointer := p }) s)
  | none => commandDone .outOfRange s

/-- SELECT (R193). -/
def execSelect (table : Option TableName) (row column : Nat) (s : State) : Host.Outcome State Fault Refusal :=
  .next (operation (setPointer (selectPointer table row column)) (settle s))

/-- WINDOW (R193). -/
def execWindow (table : Option TableName) (r0 r1 c0 c1 : Nat) (a : Advance)
     (s : State) : Host.Outcome State Fault Refusal :=
  .next (operation (setPointer (windowPointer table r0 r1 c0 c1 a)) (settle s))

/-- WRITE (R194): OK when every entry was taken, else the code of the first refused one with the number taken. -/
def execWrite (entries : List Entry) (s : State) : Host.Outcome State Fault Refusal :=
  .next (operation (fun t =>
    let r := writeAll entries ⟨0, .ok⟩ t
    finishOperation false r.1.code (if r.1.code = .ok then .none else .taken r.1.taken) r.2) (settle s))

/-- WRITE_FIELDS (R194). -/
def execWriteFields (fields : List Field) (s : State) : Host.Outcome State Fault Refusal :=
  .next (operation (fun t =>
    let r := writeNamed t.control.pointer.table t.control.pointer.row t.control.pointer.column fields t
    commandDone r.1 (advance r.2)) (settle s))

/-- WRITE_IF (R195). -/
def execWriteIf (compare new : Entry) (s : State) : Host.Outcome State Fault Refusal :=
  .next (operation (fun t =>
    let r := compareWrite compare new t
    finishOperation true r.1 r.2.1 r.2.2) (settle s))

/-- READ (R195). -/
def execRead (n : Nat) (clear : Bool) (s : State) : Host.Outcome State Fault Refusal :=
  .next (operation (fun t =>
    let r := readEntries n clear t
    finishOperation true .ok (.entries t.control.pointer.table r.1) r.2) (settle s))

/-- SAVE_IMAGE (R199): the image is prepared whole at the command. -/
def execSaveImage (s : State) : Host.Outcome State Fault Refusal :=
  .next (operation (fun t =>
    if t.control.saving = true ∨ 4 ≤ t.clips.writes.length then commandDone .busy t
    else commandDone .ok (queueWrite (.image (imageBytes (savedTables t))) (modControl (fun c => { c with saving := true }) t)))
    (settle s))

/-- SOFT_RESET (R200). -/
def execSoftReset (s : State) : Host.Outcome State Fault Refusal :=
  .next (operation (fun t =>
    if alarmRunning t then commandDone .alarmActive t else commandDone .ok (softResetAll t)) (finish s))

/-- The frame in service ends at a RELOAD: its REPLY is originated, and the operations after it are discarded (R200). -/
def endFrame (s : State) : State :=
  match s.control.service with
  | some v => finishFrame v s
  | none => s

/-- A RELOAD that is taken: a soft reset, the REPLY of its frame, and LOADING (R200). -/
def reloadAll (s : State) : State :=
  let t := softResetAll s
  beginLoading (endFrame (modControl (fun c => { c with answer := ⟨operationIndex t, .ok, .none⟩ }) t))

/-- RELOAD (R200). -/
def execReload (s : State) : Host.Outcome State Fault Refusal :=
  .next (operation (fun t =>
    if alarmRunning t then commandDone .alarmActive t else reloadAll t) (finish s))

/-- REPORT_EMISSION (R203). -/
def execReportEmission (s : State) : Host.Outcome State Fault Refusal :=
  .next (takeDue .reportEmission emitReports s)

end Sys2Proof.Machine
end

