-- ==== Sys2Proof/Machine/LineCommands.lean ====
section
/-! DEFINITION. The meanings of the line rows of the command table. -/
namespace Sys2Proof.Machine

/-- AMP_RETURN (R180): the return of a lane in the period now running; a second one replaces the first. -/
def execAmpReturn (l : LaneId) (load : Fin 1024) (state : AmpState) (s : State) : Host.Outcome State Fault Refusal :=
  .next (modLane l (fun x => { x with back := some (load, state) }) (settle s))

/-- WINDOW_CLOSE (R181). -/
def execWindowClose (s : State) : Host.Outcome State Fault Refusal :=
  .next (takeDue .windowClose (act .windowClose) s)

end Sys2Proof.Machine
end

