-- ==== Sys2Proof/Machine/PeerCommands.lean ====
section
/-! DEFINITION. The meanings of the peer rows of the command table. -/
namespace Sys2Proof.Machine

/-- RESERVE_DEADLINE (R107). -/
def execReserveDeadline (t : TagId) (s : State) : Host.Outcome State Fault Refusal :=
  .next (takeDue (.reserveDeadline t) (deadlineOf .reserveSent t) s)

/-- COMMIT_DEADLINE (R109). -/
def execCommitDeadline (t : TagId) (s : State) : Host.Outcome State Fault Refusal :=
  .next (takeDue (.commitDeadline t) (deadlineOf .commitSent t) s)

/-- RELEASE_DEADLINE (R110). -/
def execReleaseDeadline (t : TagId) (s : State) : Host.Outcome State Fault Refusal :=
  .next (takeDue (.releaseDeadline t) (deadlineOf .releaseSent t) s)

/-- RESERVE_SERVICE (R112, R113). -/
def execReserveService (s : State) : Host.Outcome State Fault Refusal :=
  .next (serveNext (settle s))

end Sys2Proof.Machine
end

