-- ==== Sys2Proof/Machine/RingCommands.lean ====
section
/-! DEFINITION. The meanings of the ring rows of the command table. -/
namespace Sys2Proof.Machine

/-- POWER_ON_RESET (R22): every block restarts, and the straps are read (R19). The queue of commands is no state of the part,
and stays. -/
def execPowerOnReset (straps : Byte) (s : State) : Host.Outcome State Fault Refusal :=
  .next { State.powerOn straps.toNat with pending := s.pending }

/-- SIGNAL_DETECTED (R1): a DOWN port enters TRAINING. -/
def execSignalDetected (p : Port) (s : State) : Host.Outcome State Fault Refusal :=
  .next (let t := settle s; if (portOf t p).link = .down then setLink p .training t else t)

/-- TRAINING_COMPLETE (R1): a port in TRAINING becomes UP. -/
def execTrainingComplete (p : Port) (s : State) : Host.Outcome State Fault Refusal :=
  .next (let t := settle s; if (portOf t p).link = .training then setLink p .up t else t)

/-- TRAINING_TIMEOUT (R1): the training of a port restarts, which changes no state but the count. -/
def execTrainingTimeout (p : Port) (s : State) : Host.Outcome State Fault Refusal :=
  .next (let t := settle s; if (portOf t p).link = .training then count (.trainingRetry p) t else t)

/-- SIGNAL_LOST (R1, R2). -/
def execSignalLost (p : Port) (midFrame : Bool) (s : State) : Host.Outcome State Fault Refusal :=
  .next (loseSignal p midFrame (settle s))

/-- FRAME_RECEIVED (R7): a port that is not UP receives nothing (section 1.2). -/
def execFrameReceived (p : Port) (bytes : List Byte) (race : Race) (s : State) : Host.Outcome State Fault Refusal :=
  .next (let t := if isTimed bytes then finish s else settle s
    if (portOf t p).link = .up then receiveFrame p bytes race t else t)

/-- FRAME_TRANSMIT_COMPLETE (R15). -/
def execFrameTransmitComplete (p : Port) (s : State) : Host.Outcome State Fault Refusal :=
  .next (completeTransmission p (settle s))

/-- LOCAL_BOUNDARY (R18). -/
def execLocalBoundary (race : Race) (s : State) : Host.Outcome State Fault Refusal :=
  .next (localBoundary race (finish s))

/-- RELABEL_WINDOW_CLOSE (R17). -/
def execRelabelWindowClose (s : State) : Host.Outcome State Fault Refusal :=
  .next (modRing (fun r => { r with window := false }) (settle s))

/-- ORIGIN_ENTRY_AGE_OUT (R11). -/
def execOriginEntryAgeOut (k : OriginIx) (s : State) : Host.Outcome State Fault Refusal :=
  .next (takeDue (.originAgeOut k) (dropOrigin k) s)

end Sys2Proof.Machine
end

