-- ==== Sys2Proof/Machine/SceneCommands.lean ====
section
/-! DEFINITION. The meanings of the scene rows of the command table. -/
namespace Sys2Proof.Machine

/-- FADE_COMPLETE (R67). -/
def execFadeComplete (t : FadeTarget) (s : State) : Host.Outcome State Fault Refusal :=
  .next (takeDue (.fadeComplete t) (finishFade t) s)

/-- CUE_FIRE (R64): the first due cue of the list fires, after the fades of the boundary (R63). -/
def execCueFire (s : State) : Host.Outcome State Fault Refusal :=
  .next (takeDue .cueFire (act .cueFire) s)

/-- BANK_SWAP (R59). -/
def execBankSwap (s : State) : Host.Outcome State Fault Refusal :=
  .next (operation (fun t => commandDone .ok (exchangeBanks t)) (settle s))

/-- CUE_ADD (R61): OUT-OF-RANGE before BUSY (DEDUCED, log entry 20). -/
def execCueAdd (number : Fin 256) (due : Word32) (action : CueAction) (s : State) : Host.Outcome State Fault Refusal :=
  .next (operation (fun t => match cueEffect action with
    | none => commandDone .outOfRange t
    | some e =>
      if 16 ≤ t.scene.cues.length then commandDone .busy t
      else commandDone .ok (modScene (fun x => { x with cues := insertCue ⟨number, due, e⟩ x.cues }) t)) (settle s))

/-- CUE_CLEAR (R62). -/
def execCueClear (number : Option (Fin 256)) (s : State) : Host.Outcome State Fault Refusal :=
  .next (operation (fun t => match number with
    | none => commandDone .ok (modScene (fun x => { x with cues := [] }) t)
    | some n =>
      if t.scene.cues.any (fun c => c.number == n) then
        commandDone .ok (modScene (fun x => { x with cues := x.cues.filter fun c => c.number != n }) t)
      else commandDone .notFound t) (settle s))

end Sys2Proof.Machine
end

