-- ==== Sys2Proof/Machine/SourceCommands.lean ====
section
/-! DEFINITION. The meanings of the source rows of the command table. -/
namespace Sys2Proof.Machine

/-- MIC_BLOCK_ARRIVAL (R30, R123): the block of a PRESENT station, in RUN and STANDALONE (R140). -/
def execMicBlockArrival (st : StationId) (b : Block) (s : State) : Host.Outcome State Fault Refusal :=
  .next (let t := finish s
    if running t && (stationOf t st).present then stationCapture st b (modStation st (fun x => { x with mic := b }) t)
    else t)

/-- SOURCE_LOST (R32). -/
def execSourceLost (i : SlotId) (s : State) : Host.Outcome State Fault Refusal :=
  .next (takeDue (.sourceLost i) (loseSource i) s)

end Sys2Proof.Machine
end

