-- ==== Sys2Proof/Machine/StationCommands.lean ====
section
/-! DEFINITION. The meanings of the station rows of the command table. -/
namespace Sys2Proof.Machine

/-- SCAN_START (R121, R130, R139). -/
def execScanStart (s : State) : Host.Outcome State Fault Refusal :=
  .next (takeDue .scanStart beginScan s)

/-- POLL_ANSWER (R121, R122, R124). -/
def execPollAnswer (st : StationId) (keys : Vector Bool 8) (s : State) : Host.Outcome State Fault Refusal :=
  .next (let t := settle s; if running t then pollNext st (takeAnswerOfPoll st keys t) else t)

/-- MISSED_SCAN (R121, R122): the third miss of a PRESENT station makes its absence due, and the next poll follows it. -/
def execMissedScan (st : StationId) (s : State) : Host.Outcome State Fault Refusal :=
  .next (let t := settle s
    if running t then
      let u := takeMiss st t
      if (stationOf u st).present && (stationOf u st).missed == 3 then addDues [.stationAbsent st] u else pollNext st u
    else t)

/-- STATION_ABSENT (R133). -/
def execStationAbsent (st : StationId) (s : State) : Host.Outcome State Fault Refusal :=
  .next (takeDue (.stationAbsent st) (loseStation st) s)

/-- CALL_NO_ANSWER (R130). -/
def execCallNoAnswer (i : CallId) (s : State) : Host.Outcome State Fault Refusal :=
  .next (takeDue (.callNoAnswer i) (ringOut i) s)

/-- FLASH_TIMER_EXPIRY (R139). -/
def execFlashTimerExpiry (st : StationId) (k : KeyId) (s : State) : Host.Outcome State Fault Refusal :=
  .next (takeDue (.flashTimer st k) (flashOut st k) s)

end Sys2Proof.Machine
end

