-- ==== Sys2Proof/Machine/Dispatch.lean ====
section
/-! DEFINITION. The meaning of each command: one arm for each constructor of `Instr`, in the table's order. -/
namespace Sys2Proof.Machine

def exec (i : Instr) (s : State) : Host.Outcome State Fault Refusal :=
  match i with
  | .powerOnReset straps => Sys2Proof.Machine.execPowerOnReset straps s
  | .signalDetected port => Sys2Proof.Machine.execSignalDetected port s
  | .trainingComplete port => Sys2Proof.Machine.execTrainingComplete port s
  | .trainingTimeout port => Sys2Proof.Machine.execTrainingTimeout port s
  | .signalLost port midFrame => Sys2Proof.Machine.execSignalLost port midFrame s
  | .frameReceived port bytes race => Sys2Proof.Machine.execFrameReceived port bytes race s
  | .frameTransmitComplete port => Sys2Proof.Machine.execFrameTransmitComplete port s
  | .localBoundary race => Sys2Proof.Machine.execLocalBoundary race s
  | .relabelWindowClose => Sys2Proof.Machine.execRelabelWindowClose s
  | .originEntryAgeOut entry => Sys2Proof.Machine.execOriginEntryAgeOut entry s
  | .micBlockArrival station block => Sys2Proof.Machine.execMicBlockArrival station block s
  | .sourceLost slot => Sys2Proof.Machine.execSourceLost slot s
  | .fadeComplete target => Sys2Proof.Machine.execFadeComplete target s
  | .cueFire => Sys2Proof.Machine.execCueFire s
  | .claimRequestTake => Sys2Proof.Machine.execClaimRequestTake s
  | .chimeNoteEnd => Sys2Proof.Machine.execChimeNoteEnd s
  | .chimeExpiry claim => Sys2Proof.Machine.execChimeExpiry claim s
  | .holdTimeout claim => Sys2Proof.Machine.execHoldTimeout claim s
  | .reserveDeadline tag => Sys2Proof.Machine.execReserveDeadline tag s
  | .commitDeadline tag => Sys2Proof.Machine.execCommitDeadline tag s
  | .releaseDeadline tag => Sys2Proof.Machine.execReleaseDeadline tag s
  | .reserveService => Sys2Proof.Machine.execReserveService s
  | .scanStart => Sys2Proof.Machine.execScanStart s
  | .pollAnswer station keys => Sys2Proof.Machine.execPollAnswer station keys s
  | .missedScan station => Sys2Proof.Machine.execMissedScan station s
  | .stationAbsent station => Sys2Proof.Machine.execStationAbsent station s
  | .callNoAnswer call => Sys2Proof.Machine.execCallNoAnswer call s
  | .flashTimerExpiry station key => Sys2Proof.Machine.execFlashTimerExpiry station key s
  | .toneStepEnd channel => Sys2Proof.Machine.execToneStepEnd channel s
  | .silenceStepEnd channel => Sys2Proof.Machine.execSilenceStepEnd channel s
  | .flashReadComplete data => Sys2Proof.Machine.execFlashReadComplete data s
  | .flashWriteComplete => Sys2Proof.Machine.execFlashWriteComplete s
  | .playComplete player channelFirst => Sys2Proof.Machine.execPlayComplete player channelFirst s
  | .ampReturn lane load state => Sys2Proof.Machine.execAmpReturn lane load state s
  | .windowClose => Sys2Proof.Machine.execWindowClose s
  | .controlFrameStart => Sys2Proof.Machine.execControlFrameStart s
  | .standaloneEntry => Sys2Proof.Machine.execStandaloneEntry s
  | .select table row column => Sys2Proof.Machine.execSelect table row column s
  | .window table firstRow lastRow firstColumn lastColumn advance => Sys2Proof.Machine.execWindow table firstRow lastRow firstColumn lastColumn advance s
  | .write entries => Sys2Proof.Machine.execWrite entries s
  | .writeFields fields => Sys2Proof.Machine.execWriteFields fields s
  | .writeIf compare new => Sys2Proof.Machine.execWriteIf compare new s
  | .read n clear => Sys2Proof.Machine.execRead n clear s
  | .claimStart slot group priority mode policy chime hold => Sys2Proof.Machine.execClaimStart slot group priority mode policy chime hold s
  | .claimEnd claim => Sys2Proof.Machine.execClaimEnd claim s
  | .playClip clip group priority mode policy chime => Sys2Proof.Machine.execPlayClip clip group priority mode policy chime s
  | .alarmStart program group => Sys2Proof.Machine.execAlarmStart program group s
  | .alarmStop program => Sys2Proof.Machine.execAlarmStop program s
  | .bankSwap => Sys2Proof.Machine.execBankSwap s
  | .cueAdd number due action => Sys2Proof.Machine.execCueAdd number due action s
  | .cueClear number => Sys2Proof.Machine.execCueClear number s
  | .clipOpen clip samples => Sys2Proof.Machine.execClipOpen clip samples s
  | .clipWrite clip index data => Sys2Proof.Machine.execClipWrite clip index data s
  | .clipClose clip => Sys2Proof.Machine.execClipClose clip s
  | .clipDelete clip => Sys2Proof.Machine.execClipDelete clip s
  | .saveImage => Sys2Proof.Machine.execSaveImage s
  | .softReset => Sys2Proof.Machine.execSoftReset s
  | .reload => Sys2Proof.Machine.execReload s
  | .reportEmission => Sys2Proof.Machine.execReportEmission s

end Sys2Proof.Machine
end

