-- ==== Sys2Proof/Machine/Step.lean ====
section
/-! DEFINITION. One step: the command at the front of the queue is taken. -/
namespace Sys2Proof.Machine

/-- The state with the queue of waiting commands given. -/
def withQueue (q : List Instr) (s : State) : State := modPending (fun _ => q) s

/-- The command at the front of the queue is carried out on the state with the rest of the queue; on an empty queue the
part idles (log entry 9). -/
def step (s : State) : Host.Outcome State Fault Refusal :=
  match s.pending with
  | [] => .next s
  | c :: rest => exec c (withQueue rest s)

/-- The command that a word spells, put at the front of the queue; the state unchanged where the word spells none. -/
def State.withFetchWord (s : State) (nbits w : Nat) : State :=
  match decodeTableWord nbits w with
  | some c => withQueue (c :: s.pending) s
  | none => s

end Sys2Proof.Machine
end

