-- ==== Sys2Proof/Safety.lean ====
section
/-! DEFINITION. The terms in which claims speak of states: when a command is taken as it stands, what a command leaves as
it was, and the bounds that a safe run keeps. -/
namespace Sys2Proof.Machine

/-! ### When a command is taken as it stands -/

/-- No boundary is in progress and no change is due: every command acts on the state as it stands. -/
abbrev quiet (s : State) : Prop := s.boundary.isOpen = false ∧ s.boundary.due = []

/-- The frame in service waits for the answer of another block (R190). -/
def frameWaits (s : State) : Bool :=
  match s.control.service with
  | some v => v.waiting
  | none => false

/-- The interpreter can carry an operation out: RUN or STANDALONE, nothing due, and no answer awaited (R190). -/
abbrev ready (s : State) : Prop := quiet s ∧ running s = true ∧ frameWaits s = false

/-- The change d is due at the boundary in progress. -/
abbrev isDue (d : Due) (s : State) : Prop := d ∈ s.boundary.due

/-- The bytes of a whole frame make a runt: the payload is below the minimum of its kind, or an AUDIO payload has no channel,
more than 8, or fewer samples than its channels need (R4). -/
def runtBytes (l : List Byte) : Prop :=
  word16At l 6 < minPayload (l.getD 0 0) ∨
    (l.getD 0 0 = audioKind ∧ (byteAt l 9 = 0 ∨ 8 < byteAt l 9 ∨ word16At l 6 < 6 + 144 * byteAt l 9))

/-! ### What a command leaves as it was -/

/-- The parts of the state, one for each block, with the counters, the boundary in progress and the queue of commands. -/
inductive Part
  | ring | slots | mix | scene | claims | peer | intercom | alarm | clips | lines | control | reports | counters | boundary
  | pending
  deriving DecidableEq, Repr

/-- Two states hold the same in one part. -/
def agree (s t : State) : Part → Prop
  | .ring => t.ring = s.ring
  | .slots => t.slots = s.slots
  | .mix => t.mix = s.mix
  | .scene => t.scene = s.scene
  | .claims => t.claims = s.claims
  | .peer => t.peer = s.peer
  | .intercom => t.intercom = s.intercom
  | .alarm => t.alarm = s.alarm
  | .clips => t.clips = s.clips
  | .lines => t.lines = s.lines
  | .control => t.control = s.control
  | .reports => t.reports = s.reports
  | .counters => t.counters = s.counters
  | .boundary => t.boundary = s.boundary
  | .pending => t.pending = s.pending

/-- Every part but those listed is as it was. -/
def keepsBut (l : List Part) (s t : State) : Prop := ∀ p, p ∉ l → agree s t p

/-- Every row of the COUNTERS table but those of the counters listed is as it was (R204). -/
def countsBut (l : List Counter) (s t : State) : Prop :=
  ∀ r : Fin 551, (∀ c ∈ l, r ≠ counterIx c) → tget t.counters r = tget s.counters r

/-- One counter has been counted once, and no other (R204). -/
def countsOne (c : Counter) (s t : State) : Prop :=
  counterOf t c = saturatingSucc (counterOf s c) ∧ countsBut [c] s t

/-- The operation has been answered with a code, as the answer of its place in the frame in service (R197). -/
def answered (code : ResultCode) (s t : State) : Prop := t.control.answer = ⟨operationIndex s, code, .none⟩

/-- What the answer to an operation may touch beside the operation's own effect: the interpreter, the ring when the REPLY
of the frame is originated, and the counters of both. -/
abbrev answerParts : List Part := [.control, .ring, .counters]

/-- The answer to an operation leaves the interpreter's record as it was: the mode, the NODE record, the controller timer,
the control input queue, the save and the load (R190, R197). -/
def controlKept (s t : State) : Prop :=
  t.control.mode = s.control.mode ∧ t.control.node = s.control.node ∧ t.control.timer = s.control.timer ∧
    t.control.queue = s.control.queue ∧ t.control.saving = s.control.saving ∧ t.control.load = s.control.load

/-- The answer to an operation leaves the ring as it was, but for the REPLY that ends the frame in service (R190, R197). -/
def ringKept (s t : State) : Prop :=
  t.ring = s.ring ∨ ∃ v results overflow, s.control.service = some v ∧
    t.ring = (originate replyKind v.origin (.reply ⟨v.frameNumber, results, overflow⟩) s).ring

/-- The REPLY carries a result of this code and data whether or not it is a refusal: that of a READ, of a WRITE-IF and of a
command that returns a claim id (R197). -/
def owes : ResultCode → ResultData → Bool
  | .hit, _ => true
  | .miss, _ => true
  | _, .entries _ _ => true
  | _, .claim _ _ => true
  | _, _ => false

/-- What the answer to an operation leaves as it was of the parts that it may touch: its result goes on to the frame in
service and its REPLY as every result does; outside a frame it leaves the ring and the frame in service too (R190, R197; log
entry 8). -/
def answerKept (s t : State) : Prop :=
  controlKept s t ∧ ringKept s t ∧
    t.ring = (finishOperation (owes t.control.answer.code t.control.answer.data) t.control.answer.code
      t.control.answer.data s).ring ∧
    t.control.service = (finishOperation (owes t.control.answer.code t.control.answer.data) t.control.answer.code
      t.control.answer.data s).control.service ∧
    (s.control.service = none → t.ring = s.ring ∧ t.control.service = none)

/-- An operation has been refused with a code: that is all that it does (R196). -/
def refusedWith (code : ResultCode) (s t : State) : Prop :=
  answered code s t ∧ keepsBut answerParts s t ∧ answerKept s t

/-- The answer to a management start request: it ends the operation of the frame in service that waits for it, and outside a
frame it is recorded alone (R190, R196; log entry 8). -/
def claimAnswered (r : StartRequest) (code : ResultCode) (data : ResultData) (s t : State) : Prop :=
  t.control = (claimAnswer r.framed code data s).control ∧ t.ring = (claimAnswer r.framed code data s).ring ∧
    t.control.answer = ⟨if r.framed then operationIndex s else 0, code, data⟩ ∧
    (r.framed = false → t.control = { s.control with answer := ⟨0, code, data⟩ } ∧ t.ring = s.ring)

/-- The counters that the end of the frame in service may count: the next operation refused, and the REPLY lost at a port
(R2, R14, R190). -/
def replyCounts (s : State) : List Counter :=
  if s.control.service.isSome then
    [.operationsRefused, .linkDiscard .a, .linkDiscard .b, .queueFull .a, .queueFull .b]
  else []

/-- The part has been told: a report of the kind, subject and value given was placed, on the queue as it stood (R202). -/
def reportedOnce (kind : ReportKind) (subject value : Nat) (s t : State) : Prop :=
  t.reports = (report kind subject value s).reports

/-- Every crosspoint fade has been cancelled: counted, and reported with its subject and the code that its target holds, in
the order of the fade table (R68; log entry 12). -/
def fadesCancelled (s t : State) : Prop :=
  t.reports = (forEach (s.scene.fades.filter fun f => isCrosspoint f.target)
    (fun f => report .fadeCancelled (fadeSubject f.target) (targetCode s f.target).val) s).reports ∧
  counterOf t .fadesCancelled =
    iterate saturatingSucc (s.scene.fades.filter fun f => isCrosspoint f.target).length (counterOf s .fadesCancelled)

/-- The command carries out a change that is due, up to the end of the boundary that may follow it: the change leaves the
list of those due, the state that it found is kept for the readers of that moment, and nothing else of the boundary in
progress changes. -/
def carriesOut (i : Instr) (d : Due) (s u : State) : Prop :=
  exec i s = .next (closeIfDone u) ∧
    u.boundary = { s.boundary with due := s.boundary.due.erase d, seen := s.boundary.seen ++ [mixView s] }

/-- A boundary leaves an alarm channel at its step: the channel is free, or neither stopped by the limit of steps nor at a
CLIP step that has ended (R144). -/
def steady (s : State) (ch : ChanId) : Prop :=
  (channelOf s ch).program = none ∨ ((channelOf s ch).stalled = false ∧ clipEnded s ch = false)

/-- A PRESS has been refused: its KEY-REFUSED report, its count and the key's flash timer are all that it does (R127). -/
def pressRefused (st : StationId) (k : KeyId) (value : Nat) (s t : State) : Prop :=
  stationOf t st = { stationOf s st with flash := tset (stationOf s st).flash k 250 } ∧
    (∀ x, x ≠ st → stationOf t x = stationOf s x) ∧ (∀ i, callAt t i = callAt s i) ∧
    reportedOnce .keyRefused (st.val * 8 + k.val) value s t ∧
    counterOf t .keysRefused = saturatingSucc (counterOf s .keysRefused) ∧
    countsBut [.keysRefused, .reportsCoalesced, .reportsDropped] s t ∧ keepsBut [.intercom, .reports, .counters] s t

/-- The tables of an image have been installed, clamped as writes are, the matrix into both banks (R35, R198). -/
def installed (x : ImageTables) (s t : State) : Prop :=
  t.control.node = clampNode x.node ∧ t.mix.taper = x.taper ∧ t.scene.active = x.bank ∧ t.scene.staged = x.bank ∧
    (∀ i : SlotId, ∀ h : i.val < 23, tget t.slots i = loadedSlot (tget x.sources ⟨i.val, h⟩) (tget s.slots i)) ∧
    (∀ i : SlotId, 23 ≤ i.val → tget t.slots i = tget s.slots i) ∧
    (∀ z, (tget t.mix.zones z).cfg = clampZone (tget x.zones z) ∧ (tget t.mix.zones z).gain = (tget s.mix.zones z).gain) ∧
    (∀ g, tget t.claims.groups g = clampGroup (tget x.groups g)) ∧
    (∀ i, tget t.claims.chimeTable i = clampChime (tget x.chime i)) ∧
    (∀ st, stationOf t st = { stationOf s st with cfg := clampStation (tget x.stations st) }) ∧
    (∀ st k, tget (tget t.intercom.keymap st) k = clampKey (tget (tget x.keys st) k)) ∧
    (∀ p, programOf t p = clampProgram (tget x.programs p)) ∧
    (∀ p, tget t.alarm.patterns p = clampPattern (tget x.patterns p))

/-- A claim is gone: its place of the table is free, every list is without it, and every other claim is as it was (R91). -/
def claimGone (c : ClaimId) (s t : State) : Prop :=
  claimAt t c = none ∧ (∀ d, d ≠ c → claimAt t d = claimAt s d) ∧
    ∀ z : ZoneId, listOf t z = (listOf s z).filter (fun e => e.claim ≠ c)

/-- The origin of an inbound claim has been told of its end by an unsolicited PREEMPTED, which is counted, when the end is one
it is told of and the answer to the RESERVE in service does not tell it; the REPLY of the operation that ended the claim, if
one did, comes after it (R117, R197). -/
def originTold (told : Bool) (cl : Claim) (reply : State → State) (s t : State) : Prop :=
  ∀ node tag, cl.owner = .peer node tag →
    (told = true → inServiceFor s node tag = false →
      t.ring = (reply (sendAnswer node tag 0 .preempted 0 (zonesOf cl.target).length s)).ring ∧
      counterOf t .inboundPreempted = saturatingSucc (counterOf s .inboundPreempted)) ∧
    (told = false ∨ inServiceFor s node tag = true →
      t.ring = (reply s).ring ∧ counterOf t .inboundPreempted = counterOf s .inboundPreempted)

/-- The clip store was to be as given, and a directory write asked for: it is merged with the last request where that is a
directory write that has not begun, and joins the end of the write queue otherwise (R169). -/
def directoryQueued (x : Clips) (t : State) : Prop :=
  (∀ before w, x.writes = before ++ [w] → w.kind = .directory → w.begun = false → t.clips = x) ∧
  ((∀ before w, x.writes = before ++ [w] → w.kind ≠ .directory ∨ w.begun = true) →
    t.clips = { x with writes := x.writes ++ [⟨.directory, 0, false, x.stamp⟩], stamp := x.stamp + 1 })

/-- The report queue holds a record of the kind, subject and value given, with the period number of now (R202). -/
def recorded (kind : ReportKind) (subject value : Nat) (s t : State) : Prop :=
  (⟨kind, subject, value, s.ring.period⟩ : Report) ∈ t.reports.queue

/-- A waiting read is held back: a write requested before it is still to write its sector (R170, 1). -/
def heldBack (writes : List WriteRequest) (r : ReadRequest) : Prop :=
  ∃ w ∈ writes, w.stamp < r.stamp ∧ match w.kind with
    | .clip sector _ => w.finished = 0 ∧ r.sector = sector
    | .directory => w.finished = 0 ∧ r.sector = 8 ∨ w.finished ≤ 1 ∧ r.sector = 9
    | .image _ => w.finished ≤ r.sector ∧ r.sector < 8

/-- The next sector of a write request, and its bytes as they stand now (R169). -/
def nextSector (s : State) (w : WriteRequest) (sector : Nat) (content : List Byte) : Prop :=
  match w.kind with
  | .clip x data => w.finished = 0 ∧ sector = x ∧ content = data
  | .directory => w.finished ≤ 1 ∧ sector = 8 + w.finished ∧
    content = directoryBytes ((s.clips.directory.toList.drop (32 * w.finished)).take 32)
  | .image x => w.finished ≤ 7 ∧ sector = w.finished ∧ content = (x.drop (4096 * w.finished)).take 4096

/-- An outstanding entry with the state and the deadline that the sending of a COMMIT or a RELEASE gives it (R109, R110). -/
def sentEntry (s : State) (state : OutState) (e : OutEntry) : OutEntry :=
  { e with state := state, deadline := s.ring.period + BitVec.ofNat 32 s.control.node.answerTimeout }

/-- A station as it was, but for the poll sent to it last (R121). -/
def sameButPoll (x y : Station) : Prop := { y with poll := x.poll } = x

/-- The pointer lies in its window (R193). -/
def inWindow (p : Pointer) : Prop :=
  p.firstRow ≤ p.row ∧ p.row ≤ p.lastRow ∧ p.firstColumn ≤ p.column ∧ p.column ≤ p.lastColumn

/-- An entry may stand before another: the other's claim does not outrank its own (R78). -/
def standsBefore (s : State) (a b : ListEntry) : Prop :=
  ∀ x y, claimAt s a.claim = some x → claimAt s b.claim = some y → outranks y x = false

/-! ### The bounds of a safe run -/

/-- The report queue holds at most 32 records, no two of one kind and subject (R202). -/
def reportsOk (s : State) : Prop :=
  s.reports.queue.length ≤ 32 ∧ s.reports.queue.Pairwise fun a b => ¬(a.kind = b.kind ∧ a.subject = b.subject)

/-- A port that is not UP holds no frame, and an output queue holds at most 32 frames (R2, R14). -/
def portsOk (s : State) : Prop :=
  ∀ p, (portOf s p).queue.length ≤ 32 ∧
    ((portOf s p).link ≠ .up → (portOf s p).queue = [] ∧ (portOf s p).sending = none)

/-- Limiter gains, thresholds and release steps lie in their ranges (R36, R51). -/
def zonesOk (zones : Vector Zone 24) : Prop :=
  ∀ z : ZoneId, 1 ≤ (tget zones z).gain ∧ (tget zones z).gain ≤ 32768 ∧
    1 ≤ (tget zones z).cfg.limiter ∧ (tget zones z).cfg.limiter ≤ 8388607 ∧
    1 ≤ (tget zones z).cfg.release ∧ (tget zones z).cfg.release ≤ 4096

/-- The zone table, and the copies of it that a boundary in progress keeps for the readers of its moments. -/
def limitersOk (s : State) : Prop := zonesOk s.mix.zones ∧ ∀ v ∈ s.boundary.seen, zonesOk v.zones

/-- No claim list holds more than four entries (R78). -/
def listsOk (s : State) : Prop := ∀ z : ZoneId, (listOf s z).length ≤ 4

/-- Every claim list is in order of priority and rank, and holds no two entries of one claim (R78). -/
def listsOrdered (s : State) : Prop :=
  ∀ z : ZoneId, (listOf s z).Pairwise (standsBefore s) ∧ ((listOf s z).map (·.claim)).Nodup

/-- Every entry of a claim list names a claim of the table (section 5.2, R91). -/
def entriesHeld (s : State) : Prop := ∀ z : ZoneId, ∀ e ∈ listOf s z, (claimAt s e.claim).isSome = true

/-- An UNADDRESSED part has no image load in progress (R198). -/
def unaddressedOk (s : State) : Prop := s.control.mode = .unaddressed → s.control.load = none

/-- What a safe run keeps. -/
def Safe (s : State) : Prop := reportsOk s ∧ portsOk s ∧ limitersOk s ∧ listsOk s ∧ unaddressedOk s

end Sys2Proof.Machine
end

