-- ==== Sys2Proof/Certificates/Slice0/Obligations.lean ====
section
/-! DEFINITION. The statements about the model, for the provers: the queue of commands, the rules of each chapter, and what
every step keeps. -/

section Statements
open Sys2Proof Sys2Proof.Machine

/-! ### The queue of commands, and the state after a power-on reset -/

/-- A step carries out the command at the front of the queue on the state with the rest of the queue. The queue, and the
step that takes its head, are the model's interface (log entries 9 and 27); the manual has each operation and event whole
and indivisible. -/
def Obligations.StepTakesFront : Prop :=
  ∀ (c : Instr) (rest : List Instr) (s : State), step (withQueue (c :: rest) s) = exec c (withQueue rest s)

/-- The node id, the mode, the ring, the counters, the claims and the report queue after a power-on reset (R19, R22, R100,
R198, R201, R204, R205). The last sequence of an origin entry at 0 is the model's (log entry 11), and that the queue of
commands stays is too (log entry 27). -/
def Obligations.PowerOnReset : Prop :=
  ∀ (straps : Byte) (s : State), ∃ t, exec (.powerOnReset straps) s = .next t ∧
    t.ring.nodeId = straps.toNat ∧
    ((straps = 0 ∨ straps = 255) → t.control.mode = .unaddressed) ∧
    (straps ≠ 0 → straps ≠ 255 → t.control.mode = .loading) ∧
    (∀ p, portOf t p = ⟨.down, [], none⟩) ∧
    (∀ k : OriginIx, tget t.ring.origins k = ⟨false, 0, 0⟩) ∧
    t.ring.seq = 0 ∧ t.ring.period = 0 ∧ t.ring.timing = .holdover ∧ t.ring.master = 0 ∧ t.ring.window = false ∧
    (∀ c, counterOf t c = 0) ∧
    (∀ c, claimAt t c = none) ∧ (∀ z, listOf t z = []) ∧ t.claims.queue = [] ∧
    t.reports = ⟨[], false, 0⟩ ∧ t.pending = s.pending

/-- The tables and blocks at State.reset, where the manual gives their value: limiter gains at unity, every slot silent,
every lane UNKNOWN, every station ABSENT, every call and player free, no cue, fade or alarm (R35, R57, R75, R142, R162,
R176, R188). That State.reset has the straps read as 1 is the model's (log entry 5), and so is the default taper before the
load ends (log entry 11). -/
def Obligations.ResetBlocks : Prop :=
  (∀ z : ZoneId, (tget State.reset.mix.zones z).gain = 32768) ∧
  (∀ i : SlotId, (tget State.reset.slots i).block = silence ∧ (tget State.reset.slots i).fresh = false) ∧
  (∀ l : LaneId, (recordOf State.reset l).state = none ∧ (recordOf State.reset l).served = none) ∧
  (∀ st : StationId, (stationOf State.reset st).present = false ∧ (stationOf State.reset st).missed = 0) ∧
  (∀ i : CallId, callAt State.reset i = none) ∧
  (∀ p : ChanId, (playerOf State.reset p).state = .idle ∧ (playerOf State.reset p).owner = .none) ∧
  State.reset.mix.taper = defaultTaper ∧ State.reset.scene.cues = [] ∧ State.reset.scene.fades = [] ∧
  State.reset.alarm.list = [] ∧ State.reset.intercom.phase = 7

/-! ### The ring ports (chapter 1) -/

/-- Signal, training and the restart of training move the link state of one port, with a LINK-CHANGE report of the new
state; a restart changes no state and makes no report. A port that leaves UP loses its frame in transmission and its queue,
each frame counted LINK-DISCARD, and a frame cut off in reception is counted BAD-CHECK; the other port is as it was (R1,
R2). -/
def Obligations.LinkStates : Prop :=
  ∀ (p : Port) (s : State), quiet s →
    ((portOf s p).link = .down → ∃ t, exec (.signalDetected p) s = .next t ∧
      t.ring = (modPort p (fun x => { x with link := .training }) s).ring ∧
      reportedOnce .linkChange (portIx p) 1 s t ∧ countsBut [.reportsCoalesced, .reportsDropped] s t ∧
      keepsBut [.ring, .reports, .counters] s t) ∧
    ((portOf s p).link = .training → ∃ t, exec (.trainingComplete p) s = .next t ∧
      t.ring = (modPort p (fun x => { x with link := .up }) s).ring ∧
      reportedOnce .linkChange (portIx p) 2 s t ∧ countsBut [.reportsCoalesced, .reportsDropped] s t ∧
      keepsBut [.ring, .reports, .counters] s t) ∧
    ((portOf s p).link = .training → ∃ t, exec (.trainingTimeout p) s = .next t ∧
      countsOne (.trainingRetry p) s t ∧ keepsBut [.counters] s t) ∧
    ((portOf s p).link = .training → ∀ cut, ∃ t, exec (.signalLost p cut) s = .next t ∧
      t.ring = (modPort p (fun x => { x with link := .down }) s).ring ∧
      reportedOnce .linkChange (portIx p) 0 s t ∧ countsBut [.reportsCoalesced, .reportsDropped] s t ∧
      keepsBut [.ring, .reports, .counters] s t) ∧
    ((portOf s p).link = .up → ∀ cut, ∃ t, exec (.signalLost p cut) s = .next t ∧
      t.ring = (modPort p (fun _ => ⟨.down, [], none⟩) s).ring ∧
      reportedOnce .linkChange (portIx p) 0 s t ∧
      counterOf t (.linkDiscard p) = iterate saturatingSucc
        ((portOf s p).queue.length + if (portOf s p).sending.isSome then 1 else 0) (counterOf s (.linkDiscard p)) ∧
      counterOf t (.badCheck p) = (if cut then saturatingSucc (counterOf s (.badCheck p)) else counterOf s (.badCheck p)) ∧
      countsBut [.linkDiscard p, .badCheck p, .reportsCoalesced, .reportsDropped] s t ∧
      keepsBut [.ring, .reports, .counters] s t)

/-- The integrity checks in their order, by the bytes of the frame: the first that fails decides the one counter counted,
and nothing else changes; a frame that fails none has passed; a port that is not UP receives nothing (R4, R7, section 1.2).
That a byte which a frame is too short to hold counts as 0 is the model's (log entry 33). -/
def Obligations.IntegrityChecks : Prop :=
  ∀ (p : Port) (l : List Byte) (race : Race) (s : State), quiet s →
    ((portOf s p).link ≠ .up → exec (.frameReceived p l race) s = .next s) ∧
    ((portOf s p).link = .up →
      (4160 < word16At l 6 → ∃ t, exec (.frameReceived p l race) s = .next t ∧
        countsOne (.oversize p) s t ∧ keepsBut [.counters] s t) ∧
      (word16At l 6 ≤ 4160 → l.length ≠ 12 + word16At l 6 → ∃ t, exec (.frameReceived p l race) s = .next t ∧
        countsOne (.badCheck p) s t ∧ keepsBut [.counters] s t) ∧
      (word16At l 6 ≤ 4160 → l.length = 12 + word16At l 6 →
        BitVec.ofNat 32 (word32At l (8 + word16At l 6)) ≠ frameCheck (frameOf l) ((l.drop 8).take (word16At l 6)) →
        ∃ t, exec (.frameReceived p l race) s = .next t ∧ countsOne (.badCheck p) s t ∧ keepsBut [.counters] s t) ∧
      (word16At l 6 ≤ 4160 → l.length = 12 + word16At l 6 →
        BitVec.ofNat 32 (word32At l (8 + word16At l 6)) = frameCheck (frameOf l) ((l.drop 8).take (word16At l 6)) →
        (runtBytes l → ∃ t, exec (.frameReceived p l race) s = .next t ∧
          countsOne (.runt p) s t ∧ keepsBut [.counters] s t) ∧
        (¬runtBytes l → byteAt l 1 = 0 ∨ byteAt l 1 = 255 → ∃ t, exec (.frameReceived p l race) s = .next t ∧
          countsOne (.badOrigin p) s t ∧ keepsBut [.counters] s t) ∧
        (¬runtBytes l → byteAt l 1 ≠ 0 → byteAt l 1 ≠ 255 →
          integrity l = .passed (frameOf l) ((l.drop 8).take (word16At l 6)))))

/-- What the part does with a frame that passes the checks, row by row. In RUN and STANDALONE it is stripped, forwarded,
taken, or both; in LOADING it is stripped, forwarded or discarded; in UNADDRESSED it is forwarded. A frame that is taken is
handed over by its kind (R8, R12, R19, R20). A frame both taken and forwarded is so in the order of the race operand, which
is the model's (log entry 2), and so is it that a frame of unknown kind for the own id is forwarded in LOADING (log entry
15). -/
def Obligations.FrameClasses : Prop :=
  (∀ (p : Port) (l : List Byte) (race : Race) (f : Frame) (payload : List Byte) (s : State),
    quiet s → (portOf s p).link = .up → integrity l = .passed f payload →
    (running s = true →
      (f.origin = s.ring.nodeId →
        exec (.frameReceived p l race) s = .next (count (.stripped p) (count (.framesIn p) s))) ∧
      (f.origin ≠ s.ring.nodeId → knownKind f.kind = false →
        exec (.frameReceived p l race) s = .next (forwardFrame p f (count (.framesIn p) s))) ∧
      (f.origin ≠ s.ring.nodeId → knownKind f.kind = true → f.dest = s.ring.nodeId →
        exec (.frameReceived p l race) s = .next (takeFrame p f payload race (count (.framesIn p) s))) ∧
      (f.origin ≠ s.ring.nodeId → knownKind f.kind = true → f.dest ≠ s.ring.nodeId → f.dest = 255 →
        exec (.frameReceived p l race) s = .next
          (if race.forwardFirst then takeFrame p f payload race (forwardFrame p f (count (.framesIn p) s))
          else forwardFrame p f (takeFrame p f payload race (count (.framesIn p) s)))) ∧
      (f.origin ≠ s.ring.nodeId → knownKind f.kind = true → f.dest ≠ s.ring.nodeId → f.dest ≠ 255 →
        exec (.frameReceived p l race) s = .next (forwardFrame p f (count (.framesIn p) s)))) ∧
    (s.control.mode = .loading →
      (f.origin = s.ring.nodeId →
        exec (.frameReceived p l race) s = .next (count (.stripped p) (count (.framesIn p) s))) ∧
      (f.origin ≠ s.ring.nodeId → knownKind f.kind = true → f.dest = s.ring.nodeId →
        exec (.frameReceived p l race) s = .next (count (.loadingDiscard p) (count (.framesIn p) s))) ∧
      (f.origin ≠ s.ring.nodeId → knownKind f.kind = false ∨ f.dest ≠ s.ring.nodeId →
        exec (.frameReceived p l race) s = .next (forwardFrame p f (count (.framesIn p) s)))) ∧
    (s.control.mode = .unaddressed →
      exec (.frameReceived p l race) s = .next (forwardFrame p f (count (.framesIn p) s)))) ∧
  (∀ (f : Frame) (payload : List Byte) (race : Race) (s : State),
    (f.kind = beaconKind → handOver f payload race s = takeBeacon payload race s) ∧
    (f.kind = audioKind → handOver f payload race s = audioCapture f.origin payload s) ∧
    (f.kind = controlKind → handOver f payload race s = takeControlFrame f.origin payload s) ∧
    (f.kind = claimKind → handOver f payload race s = takeClaimFrame f.origin f.dest payload s) ∧
    (f.kind = alarmKind → handOver f payload race s = takeAlarmFrame f.origin payload s) ∧
    (f.kind = replyKind ∨ f.kind = reportKind → handOver f payload race s = s))

/-- A frame is new when its origin's entry is invalid or its sequence is 1 to 32,767 ahead; a new one makes the entry valid
with its sequence and age 0 and is handed over, another leaves every block as it was and is counted DUPLICATE (R10, R12). -/
def Obligations.DuplicateSuppression : Prop :=
  ∀ (p : Port) (f : Frame) (payload : List Byte) (race : Race) (s : State),
    (((tget s.ring.origins (originIx f.origin)).valid = false ∨
        (1 ≤ (f.seq - (tget s.ring.origins (originIx f.origin)).last).toNat ∧
          (f.seq - (tget s.ring.origins (originIx f.origin)).last).toNat ≤ 32767)) →
      ∃ u, takeFrame p f payload race s = handOver f payload race u ∧
        u.ring = { s.ring with origins := tset s.ring.origins (originIx f.origin) ⟨true, f.seq, 0⟩ } ∧
        countsOne .framesTaken s u ∧ keepsBut [.ring, .counters] s u) ∧
    ((tget s.ring.origins (originIx f.origin)).valid = true →
      ¬(1 ≤ (f.seq - (tget s.ring.origins (originIx f.origin)).last).toNat ∧
        (f.seq - (tget s.ring.origins (originIx f.origin)).last).toNat ≤ 32767) →
      countsOne (.duplicate p) s (takeFrame p f payload race s) ∧
        keepsBut [.counters] s (takeFrame p f payload race s))

/-- The bytes of a frame whose header fields fit and that is no runt pass the integrity checks, and the fields read back are
those it was laid out from, with its payload as bytes: for a frame that carries bytes the frame itself. The check that a
frame carries is the one computed over its header and payload, for the four kinds that the part originates as for every
other (section 1.3, R3, R4, R7, R13). The layouts inside a REPLY and a REPORT payload are constants (log entry 3). -/
def Obligations.WireRoundTrip : Prop :=
  ∀ f : Frame, (payloadBytes f.body).length ≤ 4160 → 1 ≤ f.origin → f.origin ≤ 254 → f.dest ≤ 255 → f.hop ≤ 63 →
    isRunt f.kind (payloadBytes f.body) = false →
    integrity (wireBytes f) = .passed { f with body := .bytes (payloadBytes f.body) } (payloadBytes f.body) ∧
    (wireBytes f).length = 12 + (payloadBytes f.body).length ∧
    (∀ payload, f.body = .bytes payload → integrity (wireBytes f) = .passed f payload)

/-- The forward path, and the rows of admission to an output queue. A frame at hop count 0 is not forwarded, and another is
offered to the other port with its hop count one less; an admitted frame stands last in the queue, or goes at once to an
idle transmitter when nothing was queued (R9, R14, R15). -/
def Obligations.ForwardAndAdmit : Prop :=
  (∀ (p : Port) (f : Frame) (s : State),
    (f.hop = 0 → countsOne (.hopExpired p) s (forwardFrame p f s) ∧ keepsBut [.counters] s (forwardFrame p f s)) ∧
    (∀ h, f.hop = h + 1 → forwardFrame p f s = offer (otherPort p) { f with hop := h } s)) ∧
  (∀ (p : Port) (f : Frame) (s : State),
    ((portOf s p).link ≠ .up → countsOne (.linkDiscard p) s (offer p f s) ∧ keepsBut [.counters] s (offer p f s)) ∧
    ((portOf s p).link = .up → 32 ≤ (portOf s p).queue.length →
      countsOne (.queueFull p) s (offer p f s) ∧ keepsBut [.counters] s (offer p f s)) ∧
    ((portOf s p).link = .up → (portOf s p).queue.length < 32 → 28 ≤ (portOf s p).queue.length → f.kind = audioKind →
      countsOne (.audioShed p) s (offer p f s) ∧ keepsBut [.counters] s (offer p f s)) ∧
    ((portOf s p).link = .up → (portOf s p).queue.length < 32 →
      (f.kind ≠ audioKind ∨ (portOf s p).queue.length < 28) →
      ((portOf s p).sending ≠ none → portOf (offer p f s) p = { portOf s p with queue := (portOf s p).queue ++ [f] }) ∧
      ((portOf s p).sending = none → (portOf s p).queue = [] →
        portOf (offer p f s) p = { portOf s p with sending := some f }) ∧
      portOf (offer p f s) (otherPort p) = portOf s (otherPort p) ∧ keepsBut [.ring] s (offer p f s)))

/-- The arbiter takes the earliest BEACON or ALARM frame of a queue, and the earliest frame when there is none; the others
keep their order. A transmission of a port that is UP completes: FRAMES-OUT is counted, and the frame that the arbiter
chooses is sent next (R15). -/
def Obligations.TransmitComplete : Prop :=
  (∀ (a b : List Frame) (f : Frame), (∀ x ∈ a, urgent x = false) → urgent f = true →
    chooseFrame (a ++ f :: b) = some (f, a ++ b)) ∧
  (∀ (f : Frame) (b : List Frame), (∀ x ∈ f :: b, urgent x = false) → chooseFrame (f :: b) = some (f, b)) ∧
  (∀ (p : Port) (g : Frame) (s : State), quiet s → (portOf s p).link = .up → (portOf s p).sending = some g →
    ∃ t, exec (.frameTransmitComplete p) s = .next t ∧
      t.ring = (modPort p (fun x => match chooseFrame x.queue with
        | some c => { x with queue := c.2, sending := some c.1 }
        | none => { x with sending := none }) s).ring ∧
      countsOne (.framesOut p) s t ∧ keepsBut [.ring, .counters] s t)

/-- The serial order of period numbers: what is reached, what is later, a number exactly 2^31 away, and what a jump forward
or backward does (R16). -/
def Obligations.SerialOrder : Prop :=
  (∀ a c : Word32, reached a c = true ↔ (c - a).toNat < 2 ^ 31) ∧
  (∀ a b : Word32, laterThan a b = true ↔ 1 ≤ (a - b).toNat ∧ (a - b).toNat ≤ 2 ^ 31 - 1) ∧
  (∀ c : Word32, reached (c + BitVec.ofNat 32 (2 ^ 31)) c = false) ∧
  (∀ (c : Word32) (d j : Nat), 1 ≤ d → d ≤ j → j < 2 ^ 31 →
    reached (c + BitVec.ofNat 32 d) c = false ∧ reached (c + BitVec.ofNat 32 d) (c + BitVec.ofNat 32 j) = true) ∧
  (∀ (c : Word32) (d j : Nat), d < j → j ≤ 2 ^ 31 →
    reached (c - BitVec.ofNat 32 d) c = true ∧ reached (c - BitVec.ofNat 32 d) (c - BitVec.ofNat 32 j) = false)

/-- A taken beacon with its timing valid flag re-labels the local boundary while the window is open, and makes a new
boundary otherwise; without the flag it does nothing (R5, R17). That the HOLDOVER report is placed before those of the
boundary is the model's (log entry 12). -/
def Obligations.BeaconActs : Prop :=
  ∀ (payload : List Byte) (race : Race) (s : State),
    (beaconValid payload = false → takeBeacon payload race s = s) ∧
    (beaconValid payload = true → ∃ u,
      u.ring = { s.ring with
        period := beaconPeriod payload
        master := beaconMaster payload
        window := false
        timing := .locked } ∧
      (s.ring.timing = .locked → u.reports = s.reports) ∧
      (s.ring.timing = .holdover →
        u.reports = (report .holdover (beaconMaster payload) 0 { s with ring := u.ring }).reports) ∧
      keepsBut [.ring, .reports, .counters] s u ∧
      (s.ring.window = true → takeBeacon payload race s = count .relabels u) ∧
      (s.ring.window = false → takeBeacon payload race s = openBoundary race u))

/-- The period timer's local boundary: the period number rises by 1, the timing state is HOLDOVER with a report when it was
LOCKED, the re-label window opens, and the blocks' boundary follows. That boundary in RUN and STANDALONE, where the race
operand has the scene unit come first and no alarm channel leaves a step at once: origins age, every slot is judged, every
claim is counted, every lane accumulates its return and the window count rises, or the windows begin after a load, show hold
is evaluated and the fades step, the chime, the tones and the players write their blocks, the scan phase, the controller
timer and the report interval are counted; each further change is due exactly when its condition holds; and the readers that
come first see the claims, lists, banks and zones as they were, with the blocks that the judgment set. The close of the
re-label window changes the window alone (R11, R17, R18, R31, R33, R43, R69, R87, R93, R144, R172, R180). How the changes
that are due come about, and what the race operand says, is the model's (log entries 1 and 2), and so are the HOLDOVER
report's place before those of the boundary (log entry 12) and the returns that the first boundary after a load discards
(log entry 37). -/
def Obligations.LocalBoundary : Prop :=
  (∀ (race : Race) (s : State), quiet s → ∃ u,
    exec (.localBoundary race) s = .next (openBoundary race u) ∧
    u.ring = { s.ring with period := s.ring.period + 1, timing := .holdover, window := true } ∧
    (s.ring.timing = .holdover → u.reports = s.reports) ∧
    (s.ring.timing = .locked →
      u.reports = (report .holdover s.ring.master 1 { s with ring := u.ring }).reports) ∧
    counterOf u .localBoundaries = saturatingSucc (counterOf s .localBoundaries) ∧
    countsBut [.localBoundaries, .reportsCoalesced, .reportsDropped] s u ∧
    keepsBut [.ring, .reports, .counters] s u) ∧
  (∀ (race : Race) (s : State), running s = true → race.holdAfter = none → (∀ ch, steady s ch) →
    ∃ u, openBoundary race s = closeIfDone u ∧ u.boundary.isOpen = true ∧ u.boundary.race = race ∧
      (∃ v rest, u.boundary.seen = v :: rest ∧
        v = { mixView s with slots := v.slots, windowDue := decide (256 ≤ u.lines.windowCount) } ∧
        (∀ i : SlotId, i.val < 27 → tget v.slots i = tget (judgeSlot i s).slots i) ∧
        (∀ i : SlotId, 27 ≤ i.val → tget v.slots i = tget s.slots i)) ∧
      u.ring = { s.ring with origins := u.ring.origins } ∧
      (∀ k : OriginIx, tget u.ring.origins k = if (tget s.ring.origins k).valid
        then { tget s.ring.origins k with age := min 250 ((tget s.ring.origins k).age + 1) } else tget s.ring.origins k) ∧
      (∀ i : SlotId, i.val < 27 → tget u.slots i = tget (judgeSlot i s).slots i) ∧
      tget u.slots 31 = tget (chimeWork s).slots 31 ∧
      (∀ ch, tget u.slots (toneSlot ch) = tget (channelWork ch s).slots (toneSlot ch) ∧
        channelOf u ch = channelOf (channelWork ch s) ch) ∧
      (∀ p, tget u.slots (playerSlot p) = tget (playerWork p s).slots (playerSlot p) ∧
        playerOf u p = playerOf (playerWork p s) p) ∧
      u.claims = { s.claims with
        table := tmap (fun _ c => c.map countClaim) s.claims.table
        chimeGen := (chimeWork s).claims.chimeGen } ∧
      u.scene = (stepFades (evaluateHold s)).scene ∧ u.mix = (stepFades (evaluateHold s)).mix ∧
      (s.lines.freshStart = false → u.lines.windowCount = s.lines.windowCount + 1 ∧
        ∀ l, tget u.lines.lanes l = tget (accumulateLane l s).lines.lanes l) ∧
      (s.lines.freshStart = true → u.lines.windowCount = 0 ∧ ∀ l, tget u.lines.lanes l =
        ⟨{ clearAccumulators (recordOf s l) with whole := isSupervised s l }, none⟩) ∧
      u.lines.freshStart = false ∧ u.lines.unheard = s.lines.unheard ∧ u.lines.laneOut = s.lines.laneOut ∧
      u.intercom = { s.intercom with phase := if 7 ≤ s.intercom.phase then 0 else s.intercom.phase + 1 } ∧
      u.alarm = { s.alarm with channels := u.alarm.channels } ∧ u.clips.directory = s.clips.directory ∧
      u.control = { s.control with
        timer := if s.control.mode = .standalone ∧ s.control.node.timeout ≤ s.control.timer then s.control.timer
          else s.control.timer + 1 } ∧
      u.reports.interval = s.reports.interval + 1 ∧
      (∀ d : Due, isDue d u ↔ match d with
        | .originAgeOut k => (tget s.ring.origins k).valid = true ∧ 249 ≤ (tget s.ring.origins k).age
        | .sourceLost i => losesSource s i = true
        | .fadeComplete t => suspended (evaluateHold s) = false ∧ ∃ f ∈ s.scene.fades, f.target = t ∧ lastStep f = true
        | .cueFire => suspended (evaluateHold s) = false ∧ ∃ c ∈ s.scene.cues, cueReached s c = true
        | .chimeNoteEnd => noteEnded s = true
        | .holdTimeout c => ∃ cl, claimAt s c = some cl ∧ timesOut cl = true
        | .chimeExpiry c => ∃ cl, claimAt s c = some cl ∧ expires cl = true
        | .reserveDeadline t => ∃ e, entryAt s t = some e ∧ e.state = .reserveSent ∧ reached e.deadline s.ring.period = true
        | .commitDeadline t => ∃ e, entryAt s t = some e ∧ e.state = .commitSent ∧ reached e.deadline s.ring.period = true
        | .releaseDeadline t => ∃ e, entryAt s t = some e ∧ e.state = .releaseSent ∧ reached e.deadline s.ring.period = true
        | .scanStart => 7 ≤ s.intercom.phase
        | .toneStepEnd ch => toneEnded s ch = true
        | .silenceStepEnd ch => silenceEnded s ch = true
        | .playComplete p => playedOut (playerOf s p) = true
        | .windowClose => 256 ≤ u.lines.windowCount
        | .standaloneEntry => s.control.mode = .run ∧ s.control.node.timeout ≤ s.control.timer + 1
        | .reportEmission => s.control.node.reportInterval ≤ s.reports.interval + 1
        | .sceneWork => False
        | .callNoAnswer _ => False
        | .flashTimer _ _ => False
        | .stationAbsent _ => False) ∧
      keepsBut [.ring, .slots, .mix, .scene, .claims, .alarm, .clips, .lines, .intercom, .control, .reports, .counters,
        .boundary] s u) ∧
  (∀ s : State, quiet s → ∃ t, exec .relabelWindowClose s = .next t ∧ t.ring = { s.ring with window := false } ∧
    keepsBut [.ring] s t)

/-- A boundary of a part in LOADING or UNADDRESSED, where no slot reaches its 50th miss and no origin entry its age 250: the
period number and the ages rise by 1, every zone block, lane and speaker is silent, and no other block does anything (R11,
R18, R20, R54, R73, R98, R118, R140, R161, R186). That such a boundary ends at once is log entry 1's. -/
def Obligations.IdleBoundary : Prop :=
  ∀ (race : Race) (s : State), quiet s → running s = false → (∀ i, losesSource s i = false) →
    (∀ k : OriginIx, (tget s.ring.origins k).valid = true → (tget s.ring.origins k).age < 249) →
    ∃ t, exec (.localBoundary race) s = .next t ∧ quiet t ∧ t.ring.period = s.ring.period + 1 ∧
      (∀ k : OriginIx, (tget s.ring.origins k).valid = true →
        (tget t.ring.origins k).age = (tget s.ring.origins k).age + 1) ∧
      (∀ z : ZoneId, tget t.mix.zoneOut z = silence) ∧ t.mix.zones = s.mix.zones ∧ t.mix.taper = s.mix.taper ∧
      (∀ l : LaneId, tget t.lines.laneOut l = silence) ∧ (∀ l, recordOf t l = recordOf s l) ∧
      t.lines.windowCount = s.lines.windowCount ∧
      (∀ st, (stationOf t st).speaker = silence ∧ (stationOf t st).present = (stationOf s st).present) ∧
      t.intercom.phase = s.intercom.phase ∧
      keepsBut [.ring, .slots, .mix, .intercom, .lines, .reports, .counters, .boundary] s t

/-- An origin entry that has reached age 250 becomes invalid, and nothing else of the ring changes (R11). A change is due at
the boundary in progress as log entry 1 has it. -/
def Obligations.OriginAgesOut : Prop :=
  ∀ (k : OriginIx) (s : State), isDue (.originAgeOut k) s → (tget s.ring.origins k).valid = true →
    250 ≤ (tget s.ring.origins k).age → ∃ u, carriesOut (.originEntryAgeOut k) (.originAgeOut k) s u ∧
      u.ring = { s.ring with origins := tset s.ring.origins k { tget s.ring.origins k with valid := false } } ∧
      keepsBut [.ring, .boundary] s u

/-! ### Source slots (chapter 2) -/

/-- A new AUDIO frame is captured by every ring slot bound to its origin, bundle and a channel below its channel count, and
by no other slot; captured by none, it is counted AUDIO-UNMATCHED. A station's microphone block becomes its block and is
captured by the station slots bound to it, in RUN and STANDALONE while the station is PRESENT. A capture by a slot that is
fresh already is counted SLOT-OVERRUN of that slot, and no other capture is counted (R29, R30, R123). -/
def Obligations.Captures : Prop :=
  (∀ (origin : Nat) (payload : List Byte) (s : State),
    (∀ (i : SlotId) (c : Nat), i.val < 23 → (tget s.slots i).binding = .ring origin (byteAt payload 0) c →
      c < byteAt payload 1 → tget (audioCapture origin payload s).slots i =
        { tget s.slots i with block := blockAt payload (6 + 144 * c), fresh := true }) ∧
    (∀ i : SlotId, (∀ c, (tget s.slots i).binding = .ring origin (byteAt payload 0) c →
        23 ≤ i.val ∨ byteAt payload 1 ≤ c) → tget (audioCapture origin payload s).slots i = tget s.slots i) ∧
    ((∀ (i : SlotId) (c : Nat), i.val < 23 → (tget s.slots i).binding = .ring origin (byteAt payload 0) c →
        byteAt payload 1 ≤ c) → countsOne .audioUnmatched s (audioCapture origin payload s)) ∧
    (∀ (i : SlotId) (c : Nat), i.val < 23 → (tget s.slots i).binding = .ring origin (byteAt payload 0) c →
      c < byteAt payload 1 →
      counterOf (audioCapture origin payload s) (.slotOverrun (countedSlot i)) = (if (tget s.slots i).fresh
        then saturatingSucc (counterOf s (.slotOverrun (countedSlot i))) else counterOf s (.slotOverrun (countedSlot i))) ∧
      countsBut ((everyFin 27).map .slotOverrun) s (audioCapture origin payload s)) ∧
    (∀ i : SlotId, i.val < 27 → (∀ c, (tget s.slots i).binding = .ring origin (byteAt payload 0) c →
        23 ≤ i.val ∨ byteAt payload 1 ≤ c) →
      counterOf (audioCapture origin payload s) (.slotOverrun (countedSlot i)) =
        counterOf s (.slotOverrun (countedSlot i))) ∧
    keepsBut [.slots, .counters] s (audioCapture origin payload s)) ∧
  (∀ (st : StationId) (b : Block) (s : State), quiet s → running s = true → (stationOf s st).present = true →
    ∃ t, exec (.micBlockArrival st b) s = .next t ∧ stationOf t st = { stationOf s st with mic := b } ∧
      (∀ x, x ≠ st → stationOf t x = stationOf s x) ∧
      (∀ i : SlotId, (tget t.slots i) =
        if 23 ≤ i.val ∧ i.val ≤ 26 ∧ (tget s.slots i).binding = .station st
        then { tget s.slots i with block := b, fresh := true } else tget s.slots i) ∧
      (∀ i : SlotId, i.val < 27 → counterOf t (.slotOverrun (countedSlot i)) =
        if 23 ≤ i.val ∧ (tget s.slots i).binding = .station st ∧ (tget s.slots i).fresh = true
        then saturatingSucc (counterOf s (.slotOverrun (countedSlot i))) else counterOf s (.slotOverrun (countedSlot i))) ∧
      countsBut ((everyFin 27).map .slotOverrun) s t ∧
      t.intercom = { s.intercom with stations := t.intercom.stations } ∧
      keepsBut [.slots, .intercom, .counters] s t)

/-- The judgment of a bound ring or station slot at a boundary, by the fresh flag and the miss count. The 50th miss is left
to the loss of the source, which SourceLost states, and a slot that has missed 50 stays as it is (R31). -/
def Obligations.SlotJudgment : Prop :=
  ∀ (i : SlotId) (s : State), i.val < 27 →
    ((tget s.slots i).binding = .unbound → judgeSlot i s = s) ∧
    ((tget s.slots i).binding ≠ .unbound →
      ((tget s.slots i).fresh = true →
        tget (judgeSlot i s).slots i = { tget s.slots i with fresh := false, miss := 0, health := .live } ∧
        ((tget s.slots i).health = .lost → reportedOnce .sourceLive i.val 0 s (judgeSlot i s)) ∧
        ((tget s.slots i).health ≠ .lost → (judgeSlot i s).reports = s.reports)) ∧
      ((tget s.slots i).fresh = false → (tget s.slots i).miss = 0 →
        tget (judgeSlot i s).slots i = { tget s.slots i with miss := 1, health := .late } ∧
        countsOne (.slotLate (countedSlot i)) s (judgeSlot i s)) ∧
      ((tget s.slots i).fresh = false → 1 ≤ (tget s.slots i).miss → (tget s.slots i).miss ≤ 48 →
        tget (judgeSlot i s).slots i =
          { tget s.slots i with miss := (tget s.slots i).miss + 1, health := .muted, block := silence } ∧
        countsOne (.slotMuted (countedSlot i)) s (judgeSlot i s)) ∧
      ((tget s.slots i).fresh = false → (tget s.slots i).miss = 49 → judgeSlot i s = s ∧ losesSource s i = true) ∧
      ((tget s.slots i).fresh = false → 50 ≤ (tget s.slots i).miss → judgeSlot i s = s ∧ losesSource s i = false)) ∧
    (∀ j, j ≠ i → tget (judgeSlot i s).slots j = tget s.slots j) ∧
    keepsBut [.slots, .reports, .counters] s (judgeSlot i s)

/-- A slot reaches its 50th consecutive miss: it is LOST with a silent block, reported and counted. For a STATIC ring slot
or a station slot nothing else follows: its binding stays, and so do the claims that use it. For a DYNAMIC slot the inbound
claim that uses it ends SOURCE-LOST, its origin told by an unsolicited PREEMPTED that is counted INBOUND-PREEMPTED, and the
slot is unbound; no other claim and no other slot changes. For a DYNAMIC slot bound for the RESERVE in service, the service
ends, its start request is withdrawn, the slot is unbound and the RESERVE is answered REFUSED (R31, R32, R117). The report
of the loss is still in the queue where that has room for the reports of the claim's end. A change is due at the boundary in
progress as log entry 1 has it. -/
def Obligations.SourceLost : Prop :=
  (∀ (i : SlotId) (s : State), isDue (.sourceLost i) s → losesSource s i = true →
    (tget s.slots i).mode ≠ some .dynamic → ∃ u, carriesOut (.sourceLost i) (.sourceLost i) s u ∧
      tget u.slots i = { tget s.slots i with miss := 50, health := .lost, block := silence } ∧
      (∀ j, j ≠ i → tget u.slots j = tget s.slots j) ∧ reportedOnce .sourceLost i.val 0 s u ∧
      counterOf u (.slotLost (countedSlot i)) = saturatingSucc (counterOf s (.slotLost (countedSlot i))) ∧
      countsBut [.slotLost (countedSlot i), .reportsCoalesced, .reportsDropped] s u ∧
      keepsBut [.slots, .reports, .counters, .boundary] s u) ∧
  (∀ (i : SlotId) (c : ClaimId) (cl : Claim) (node tag : Nat) (s : State), isDue (.sourceLost i) s →
    losesSource s i = true → (tget s.slots i).mode = some .dynamic →
    (∀ v, s.peer.service = some v → v.slot ≠ i ∧ (v.reserve.origin ≠ node ∨ v.reserve.tag ≠ tag)) →
    claimAt s c = some cl → cl.owner = .peer node tag → cl.slot = i →
    (∀ d x n m, claimAt s d = some x → x.owner = .peer n m → x.slot = i → d = c) → ∃ u,
      carriesOut (.sourceLost i) (.sourceLost i) s u ∧ claimGone c s u ∧ tget u.slots i = unboundSlot (tget s.slots i) ∧
      (∀ j, j ≠ i → tget u.slots j = tget s.slots j) ∧
      u.claims = { s.claims with table := u.claims.table, lists := u.claims.lists, reported := u.claims.reported } ∧
      (s.control.mode ≠ .unaddressed → recorded .claimEnd c.val 4 s u ∧
        (s.reports.queue.length ≤ 6 → recorded .sourceLost i.val 0 s u)) ∧
      u.ring = (sendAnswer node tag 0 .preempted 0 (zonesOf cl.target).length s).ring ∧
      counterOf u (.slotLost (countedSlot i)) = saturatingSucc (counterOf s (.slotLost (countedSlot i))) ∧
      counterOf u .inboundPreempted = saturatingSucc (counterOf s .inboundPreempted) ∧
      countsBut [.slotLost (countedSlot i), .inboundPreempted, .linkDiscard .a, .linkDiscard .b, .queueFull .a, .queueFull .b,
        .reportsCoalesced, .reportsDropped] s u ∧
      keepsBut [.ring, .slots, .claims, .reports, .counters, .boundary] s u) ∧
  (∀ (i : SlotId) (v : InService) (s : State), isDue (.sourceLost i) s → losesSource s i = true →
    (tget s.slots i).mode = some .dynamic → s.peer.service = some v → v.slot = i → ∃ u,
      carriesOut (.sourceLost i) (.sourceLost i) s u ∧ u.peer = { s.peer with service := none } ∧
      u.claims = { s.claims with
        queue := s.claims.queue.eraseP (requestOf (.peer v.reserve.origin v.reserve.tag)) } ∧
      tget u.slots i = unboundSlot (tget s.slots i) ∧ (∀ j, j ≠ i → tget u.slots j = tget s.slots j) ∧
      u.ring = (sendAnswer v.reserve.origin v.reserve.tag 1 .refused 0 0 s).ring ∧ reportedOnce .sourceLost i.val 0 s u ∧
      counterOf u (.slotLost (countedSlot i)) = saturatingSucc (counterOf s (.slotLost (countedSlot i))) ∧
      keepsBut [.ring, .slots, .claims, .peer, .reports, .counters, .boundary] s u)

/-! ### The zone mix (chapter 3) -/

/-- The default taper: entry c is floor((c × 32,768 + 127) / 255), it rises in steps of 128 or 129 from 0 at code 0 to
32,768 at code 255, never exceeds unity, and is the taper of the built-in defaults, which a load without a valid image
installs (R41). -/
def Obligations.DefaultTaper : Prop :=
  (∀ c : Fin 256, (tget defaultTaper c).val = (c.val * 32768 + 127) / 255) ∧
  (∀ c : Fin 256, ∀ h : c.val + 1 < 256,
    (tget defaultTaper ⟨c.val + 1, h⟩).val = (tget defaultTaper c).val + 128 ∨
    (tget defaultTaper ⟨c.val + 1, h⟩).val = (tget defaultTaper c).val + 129) ∧
  (tget defaultTaper 0).val = 0 ∧ (tget defaultTaper 255).val = 32768 ∧
  (∀ c : Fin 256, (tget defaultTaper c).val ≤ 32768) ∧
  ([1, 64, 128, 192, 200] : List (Fin 256)).map (fun c => (tget defaultTaper c).val) = [129, 8224, 16448, 24672, 25700] ∧
  builtIn.taper = defaultTaper

/-- The combine function: min(65,535, floor((a × b + 16,384) / 32,768)); unity is neutral, zero absorbs, and the result is a
gain (R42). -/
def Obligations.Combine : Prop :=
  (∀ a b : Nat, combine a b = min 65535 ((a * b + 16384) / 32768)) ∧
  (∀ a : Nat, a ≤ 65535 → combine a 32768 = a) ∧ (∀ a : Nat, combine a 0 = 0) ∧
  (∀ a b : Nat, combine a b ≤ 65535) ∧ combine 65535 65535 = 65535 ∧
  (∀ (v : MixView) (z : ZoneId) (i : SlotId), programmeGain v z i ≤ 65535 ∧ claimGain v z i ≤ 65535)

/-- Programme sources: none of them contributes while the on-air priority is 7 or the on-air claim is EXCLUSIVE; under a
ducking claim of lower priority a SHOW source is muted in show hold, and every other one is ducked by the duck code; with no
on-air entry crosspoint and trim alone decide. The claim source has the gain of claim level and trim. The sum goes over the
programme sources and the claim source, is scaled back with halves rounded upward, and then scaled by the master gain, which
is the alarm level code's while the on-air priority is 7; a code of 0 gives gain 0 whatever the taper holds (R40, R44, R46,
R47, R48, R49). -/
def Obligations.Gains : Prop :=
  ∀ (v : MixView) (z : ZoneId) (i : SlotId),
    (∀ taper : Vector Gain 256, taperGain taper 0 = 0) ∧
    (viewPriority v z = 7 → masterGain v z = taperGain v.taper (tget v.zones z).cfg.alarmLevel) ∧
    (viewPriority v z ≠ 7 → masterGain v z = taperGain v.taper (tget v.zones z).cfg.master) ∧
    (onAir v z = none → programmeGain v z i = combine (combine (taperGain v.taper (tget (tget v.active z) i))
      (taperGain v.taper (tget v.slots i).trim)) 32768) ∧
    (∀ e c, onAir v z = some (e, c) →
      (c.priority = 7 ∨ c.mode = .exclusive → programmeGain v z i = 0) ∧
      (c.priority ≠ 7 → c.mode = .duck → (tget v.slots i).cls = .showClass →
        (tget v.zones z).cfg.showZone = true → (tget v.zones z).cfg.showStop ≤ c.priority → programmeGain v z i = 0) ∧
      (c.priority ≠ 7 → c.mode = .duck →
        ((tget v.slots i).cls ≠ .showClass ∨ (tget v.zones z).cfg.showZone = false ∨
          c.priority < (tget v.zones z).cfg.showStop) →
        programmeGain v z i = combine (combine (taperGain v.taper (tget (tget v.active z) i))
          (taperGain v.taper (tget v.slots i).trim)) (taperGain v.taper (tget v.zones z).cfg.duck))) ∧
    claimGain v z i = combine (taperGain v.taper (tget v.zones z).cfg.claimLevel) (taperGain v.taper (tget v.slots i).trim) ∧
    (onAir v z = none → onAirSlot v z = none ∧ (isProgramme v z i = true ↔ tget (tget v.active z) i ≠ 0)) ∧
    (∀ e c, onAir v z = some (e, c) → onAirSlot v z = some (if e.live then c.slot else 31) ∧
      (isProgramme v z i = true ↔ tget (tget v.active z) i ≠ 0 ∧ i ≠ c.slot ∧ (e.live = false → i ≠ 31))) ∧
    (∀ g, (i, g) ∈ contributors v z ↔
      (isProgramme v z i = true ∧ g = programmeGain v z i) ∨ (onAirSlot v z = some i ∧ g = claimGain v z i)) ∧
    ((contributors v z).map (·.1)).Nodup ∧
    (∀ n : Fin 48, tget (masterBlock v z) n =
      ((((contributors v z).map fun x => tget (tget v.slots x.1).block n * (x.2 : Int)).sum + 16384) / 32768 *
        (masterGain v z : Int) + 16384) / 32768)

/-- Every sample of an enabled zone's block is the master block's sample scaled by the limiter gain before the block and
clamped to the limiter threshold, and the block is clipped when the clamp changes a sample; a disabled zone's block is
silence that counts no clip and releases its limiter. The limiter gain after a block of an enabled zone attacks to the
target gain of the block's peak at once, or releases toward it by the release step. The block that is handed over sets the
zone's output and limiter gain, and counts ZONE-CLIP and LIMITER-ATTACK where it was clipped and where it attacked (R50,
R51, R53). -/
def Obligations.Limiter : Prop :=
  ∀ (v : MixView) (z : ZoneId),
    ((tget v.zones z).cfg.enabled = true → ∀ n : Fin 48,
      tget (formZone v z).block n = max (-((tget v.zones z).cfg.limiter : Int)) (min ((tget v.zones z).cfg.limiter : Int)
        ((tget (masterBlock v z) n * ((tget v.zones z).gain : Int) + 16384) / 32768)) ∧
      -((tget v.zones z).cfg.limiter : Int) ≤ tget (formZone v z).block n ∧
        tget (formZone v z).block n ≤ ((tget v.zones z).cfg.limiter : Int)) ∧
    ((tget v.zones z).cfg.enabled = true → ((formZone v z).clipped = true ↔ ∃ n : Fin 48, tget (formZone v z).block n ≠
      (tget (masterBlock v z) n * ((tget v.zones z).gain : Int) + 16384) / 32768)) ∧
    (∀ (x : Formed) (s : State),
      (deliverZone z x s).mix = { s.mix with
        zoneOut := tset s.mix.zoneOut z x.block
        zones := tset s.mix.zones z { tget s.mix.zones z with gain := x.gain } } ∧
      counterOf (deliverZone z x s) (.zoneClip z) =
        (if x.clipped then saturatingSucc (counterOf s (.zoneClip z)) else counterOf s (.zoneClip z)) ∧
      counterOf (deliverZone z x s) (.limiterAttack z) =
        (if x.attack then saturatingSucc (counterOf s (.limiterAttack z)) else counterOf s (.limiterAttack z)) ∧
      countsBut [.zoneClip z, .limiterAttack z] s (deliverZone z x s) ∧ keepsBut [.mix, .counters] s (deliverZone z x s)) ∧
    ((tget v.zones z).cfg.enabled = false → (formZone v z).block = silence ∧ (formZone v z).clipped = false ∧
      ((tget v.zones z).gain ≤ 32768 →
        (formZone v z).gain = min 32768 ((tget v.zones z).gain + (tget v.zones z).cfg.release))) ∧
    (∀ g : Nat, (tget v.zones z).cfg.enabled = true →
      ((∀ n : Fin 48, (tget (masterBlock v z) n).natAbs ≤ (tget v.zones z).cfg.limiter) → g = 32768) →
      (∀ n : Fin 48, (tget v.zones z).cfg.limiter < (tget (masterBlock v z) n).natAbs →
        (∀ m : Fin 48, (tget (masterBlock v z) m).natAbs ≤ (tget (masterBlock v z) n).natAbs) →
        g = max 1 ((tget v.zones z).cfg.limiter * 32768 / (tget (masterBlock v z) n).natAbs)) →
      (g < (tget v.zones z).gain → (formZone v z).gain = g ∧ (formZone v z).attack = true) ∧
      ((tget v.zones z).gain ≤ g →
        (formZone v z).gain = min g ((tget v.zones z).gain + (tget v.zones z).cfg.release) ∧
          (formZone v z).attack = false))

/-- The end of a boundary in RUN or STANDALONE: the block of every zone that is read there is formed from the state as the
boundary leaves it, with its limiter gain, and the block of a zone read at an earlier moment from the state of that moment,
with the blocks that the judgment and the generators set for the boundary; each spare lane serves the zone that the arbiter
chooses, by what it reads of each zone at that zone's moment of stage 3; each lane carries its zone's block, or silence
where a spare serves the zone or a spare serves none, with its pilot, by what stage 4 reads of each zone, which is not
before stage 3 has read them all and the mix engine has read the zone; the unheard flags follow their condition, by what
stage 5 reads of each zone, which is not before stage 4 has read them all; each station's speaker block is formed, the sum
of the microphones of the other members of its call that are IN, scaled by its volume and ducked under an alarm in its home
zone; and one page bundle is sent while a transmit channel is allocated (R43, R104, R138, R178, R179, R183, R185). A
boundary that waits for a further command stays open for it, and keeps what a reader of that moment sees. At which moment
each reader reads and how many commands fall before the end is the race operand's, and when the boundary ends is the model's
(log entries 1 and 2), as it is that a station's call, microphones and volume are read there, and that what a stage of the
line supervisor has read is acted on there (log entry 2). -/
def Obligations.BoundaryFormsZones : Prop :=
  (∀ (n : Nat) (s : State), s.boundary.isOpen = true → s.boundary.due = [] →
    (s.boundary.race.meanwhile = 0 → settle s = closeIfDone s) ∧
    (s.boundary.race.meanwhile = n + 1 → closeIfDone s = s ∧
      (settle s).boundary = { s.boundary with
        seen := s.boundary.seen ++ [mixView s]
        race := { s.boundary.race with meanwhile := n } } ∧
      keepsBut [.boundary] s (settle s))) ∧
  (∀ s : State, s.boundary.isOpen = true → s.boundary.due = [] → s.boundary.race.meanwhile = 0 → running s = true →
    (∀ (z : ZoneId) (n : Nat) (v : MixView), moment s.boundary.race.mixAt z = some n → s.boundary.seen[n]? = some v →
      tget (closeIfDone s).mix.zoneOut z = (formZone { v with slots := Vector.ofFn fun i : SlotId =>
        if 27 ≤ i.val then { tget v.slots i with block := (tget s.slots i).block } else tget v.slots i } z).block) ∧
    (∀ z : ZoneId, moment s.boundary.race.mixAt z = none →
      tget (closeIfDone s).mix.zoneOut z = (formZone (mixView s) z).block ∧
      (tget (closeIfDone s).mix.zones z).gain = (formZone (mixView s) z).gain ∧
      counterOf (closeIfDone s) (.zoneClip z) = (if (formZone (mixView s) z).clipped
        then saturatingSucc (counterOf s (.zoneClip z)) else counterOf s (.zoneClip z)) ∧
      counterOf (closeIfDone s) (.limiterAttack z) = (if (formZone (mixView s) z).attack
        then saturatingSucc (counterOf s (.limiterAttack z)) else counterOf s (.limiterAttack z)) ∧
      (tget (closeIfDone s).mix.zones z).cfg = (tget s.mix.zones z).cfg) ∧
    quiet (closeIfDone s) ∧
    (∀ read : ZoneId → MixView, (∀ z, moment s.boundary.race.lineAt z = none ∧ read z = mixView s ∨
        ∃ n, moment s.boundary.race.lineAt z = some n ∧ s.boundary.seen[n]? = some (read z) ∧ (read z).windowDue = false) →
      ∀ l, l ∈ spareLanes → (recordOf (closeIfDone s) l).served = servedChoice read s l) ∧
    (∀ l, (recordOf (closeIfDone s) l).state = (recordOf s l).state) ∧
    (∀ z : ZoneId, moment s.boundary.race.mixAt z = none ∨ moment s.boundary.race.laneAt z = none →
      ((tget s.mix.zones z).cfg.supervision = false → tget (closeIfDone s).lines.laneOut (laneOfZone z) =
        if (servingSpare (closeIfDone s) z).isSome then silence else tget (closeIfDone s).mix.zoneOut z) ∧
      ((tget s.mix.zones z).cfg.supervision = true →
        tget (closeIfDone s).lines.laneOut (laneOfZone z) = withPilot (tget s.mix.zones z).cfg.pilot.val
          (if (servingSpare (closeIfDone s) z).isSome then silence else tget (closeIfDone s).mix.zoneOut z))) ∧
    (∀ l, l ∈ spareLanes → tget (closeIfDone s).lines.laneOut l = withPilot 4096
      (match (recordOf (closeIfDone s) l).served with
        | some z => tget (closeIfDone s).mix.zoneOut z
        | none => silence)) ∧
    ((∃ y : ZoneId, moment s.boundary.race.mixAt y = none ∨ moment s.boundary.race.laneAt y = none) →
      ∀ z : ZoneId, tget (closeIfDone s).lines.unheard z =
        (viewPriority (mixView s) z == 7 && inFault (recordOf s (carrierLane (closeIfDone s) z)).state)) ∧
    (∀ (a c : Nat) (m b : ZoneId → Nat) (v : ZoneId → MixView) (w : MixView),
      (∀ z : ZoneId, moment s.boundary.race.lineAt z = some a ∧ moment s.boundary.race.mixAt z = some (m z) ∧
        moment s.boundary.race.laneAt z = some (b z) ∧ moment s.boundary.race.unheardAt z = some c ∧
        max a (max (m z) (b z)) ≤ c ∧ s.boundary.seen[max a (max (m z) (b z))]? = some (v z) ∧
        (v z).windowDue = false) →
      s.boundary.seen[c]? = some w → w.windowDue = false →
      (∀ z : ZoneId, tget (closeIfDone s).lines.unheard z =
        (viewPriority w z == 7 && inFault (tget w.lineStates (carrierLane (closeIfDone s) z)))) ∧
      (∀ z : ZoneId, (tget (v z).zones z).cfg.supervision = true →
        tget (closeIfDone s).lines.laneOut (laneOfZone z) = withPilot (tget (v z).zones z).cfg.pilot.val
          (if (servingSpare (closeIfDone s) z).isSome then silence else tget (closeIfDone s).mix.zoneOut z)) ∧
      (∀ z : ZoneId, (tget (v z).zones z).cfg.supervision = false →
        tget (closeIfDone s).lines.laneOut (laneOfZone z) =
          if (servingSpare (closeIfDone s) z).isSome then silence else tget (closeIfDone s).mix.zoneOut z)) ∧
    (∀ st : StationId, moment s.boundary.race.speakerAt st = none →
      stationOf (closeIfDone s) st = { stationOf s st with speaker := speakerBlock s (mixView s) st }) ∧
    (bundleChannels s = 0 → (closeIfDone s).ring = s.ring) ∧
    (bundleChannels s ≠ 0 →
      (closeIfDone s).ring = (originate audioKind 255 (.bytes (bundlePayload s)) s).ring) ∧
    keepsBut [.ring, .mix, .intercom, .lines, .reports, .counters, .boundary] s (closeIfDone s)) ∧
  (∀ (v : MixView) (st : StationId) (s : State),
    ((∀ i c, callOf s st ≠ some (i, c, .within)) → speakerBlock s v st = silence) ∧
    (∀ i c, callOf s st = some (i, c, .within) →
      ((∀ m ∈ c.members, m.1 = st ∨ m.2 ≠ .within) → speakerBlock s v st = silence) ∧
      ((∃ m ∈ c.members, m.1 ≠ st ∧ m.2 = .within) → ∀ n : Fin 48, tget (speakerBlock s v st) n =
        max (-8388608) (min 8388607 ((((c.members.filter fun m => m.1 != st && m.2 == .within).map fun m =>
          tget (stationOf s m.1).mic n).sum * (speakerGain v (stationOf s st) : Int) + 16384) / 32768)))) ∧
    (∀ home : ZoneId, home.val = (stationOf s st).cfg.home →
      speakerGain v (stationOf s st) = combine (taperGain v.taper (stationOf s st).cfg.volume)
        (if viewPriority v home = 7 then taperGain v.taper (tget v.zones home).cfg.duck else 32768)))

/-! ### Scenes, cues and fades (chapter 4) -/

/-- The code of a fade lies between its two ends, moves in one direction and reaches its goal at its total; one step that
does not complete a fade writes that code and counts one period. The last writes the goal: the fade leaves the table and
FADES-COMPLETED is counted. Every other target and fade stays. The evaluation of show hold makes the held-zone set the zones
now in show hold and reports each change of a zone, and of the suspension; while suspended no fade steps and no cue fires,
and at the local boundary of a part with no alarm program at work the set is evaluated, where the race operand puts that
first (R67, R69, R70, R71). A change is due at the boundary in progress as log entry 1 has it; the race operand is log entry
2's. -/
def Obligations.Fades : Prop :=
  (∀ (start goal : Code) (total e : Nat), 1 ≤ total → e ≤ total →
    fadeCode start goal total total = goal ∧ fadeCode start goal total 0 = start ∧
    (start ≤ goal → start ≤ fadeCode start goal total e ∧ fadeCode start goal total e ≤ goal ∧
      ∀ d ≤ e, fadeCode start goal total d ≤ fadeCode start goal total e) ∧
    (goal ≤ start → goal ≤ fadeCode start goal total e ∧ fadeCode start goal total e ≤ start ∧
      ∀ d ≤ e, fadeCode start goal total e ≤ fadeCode start goal total d)) ∧
  (∀ (f : Fade) (s : State), fadeOn s f.target = some f → f.elapsed + 1 < f.total →
    targetCode (stepFade f s) f.target = fadeCode f.start f.goal f.total (f.elapsed + 1) ∧
    fadeOn (stepFade f s) f.target = some { f with elapsed := f.elapsed + 1 } ∧
    (∀ x, x ≠ f.target → targetCode (stepFade f s) x = targetCode s x ∧ fadeOn (stepFade f s) x = fadeOn s x) ∧
    keepsBut [.scene, .mix] s (stepFade f s)) ∧
  (∀ (t : FadeTarget) (f : Fade) (s : State), isDue (.fadeComplete t) s → fadeOn s t = some f → lastStep f = true →
    suspended s = false → ∃ u, carriesOut (.fadeComplete t) (.fadeComplete t) s u ∧ targetCode u t = f.goal ∧
      fadeOn u t = none ∧ (∀ x, x ≠ t → targetCode u x = targetCode s x ∧ fadeOn u x = fadeOn s x) ∧
      u.mix = (setTarget t f.goal s).mix ∧ u.scene = { (setTarget t f.goal s).scene with fades := u.scene.fades } ∧
      countsOne .fadesCompleted s u ∧ keepsBut [.scene, .mix, .counters, .boundary] s u) ∧
  (∀ s : State, (∀ z, showHold s z = ((tget s.mix.zones z).cfg.showZone &&
      decide ((tget s.mix.zones z).cfg.showStop ≤ onAirPriority s z))) ∧
    (evaluateHold s).scene = { s.scene with held := Vector.ofFn (showHold s) } ∧
    ((∀ z, showHold s z = tget s.scene.held z) → (evaluateHold s).reports = s.reports) ∧
    (s.control.mode ≠ .unaddressed → s.reports.queue.length ≤ 7 →
      (∀ z, showHold s z ≠ tget s.scene.held z →
        recorded .showHold z.val (if showHold s z then 1 else 0) s (evaluateHold s)) ∧
      (suspended s = false → suspended (evaluateHold s) = true → recorded .showHold 255 1 s (evaluateHold s)) ∧
      (suspended s = true → suspended (evaluateHold s) = false → recorded .showHold 255 0 s (evaluateHold s))) ∧
    keepsBut [.scene, .reports, .counters] s (evaluateHold s) ∧
    (suspended s = true ↔ ∃ z, tget s.scene.held z = true) ∧
    (suspended s = true → stepFades s = s ∧ sceneDues s = [] ∧
      (isDue .cueFire s → ∃ u, carriesOut .cueFire .cueFire s u ∧ keepsBut [.boundary] s u)) ∧
    (suspended s = false → stepFades s = forEach s.scene.fades stepFade s)) ∧
  (∀ (race : Race) (s : State), quiet s → running s = true → race.holdAfter = none →
    (∀ ch, (channelOf s ch).program = none) → ∃ t, exec (.localBoundary race) s = .next t ∧
      t.scene.held = Vector.ofFn (showHold s))

/-- A due cue fires where no fade completes at the same boundary: it leaves the list and is counted. A SWAP exchanges the
banks and cancels the crosspoint fades, each counted and reported FADE-CANCELLED with its subject and the code held. A LEVEL
or MASTER over 0 periods, or whose target is at its code already, sets the target at once and ends a fade on it, counted
FADE-REPLACED. Any other begins a fade from the code held: in place of the fade on its target, counted FADE-REPLACED; else
in a new place of the table; and where the table is full the target is set at once and FADE-DEGRADED counted (R59, R64, R65,
R66, R68). The order of the FADE-CANCELLED reports, that of the fade table, is the model's (log entry 12). A change is due
at the boundary in progress as log entry 1 has it. -/
def Obligations.CueFires : Prop :=
  ∀ (c : Cue) (rest : List Cue) (s : State), isDue .cueFire s → suspended s = false →
    (∀ t, ¬isDue (.fadeComplete t) s) → takeCue s s.scene.cues = some (c, rest) →
    ∃ u, carriesOut .cueFire .cueFire s u ∧ u.scene.cues = rest ∧ u.scene.held = s.scene.held ∧
      counterOf u .cuesFired = saturatingSucc (counterOf s .cuesFired) ∧
      (c.action = .swap → u.scene.active = s.scene.staged ∧ u.scene.staged = s.scene.active ∧
        u.scene.fades = (s.scene.fades.filter fun f => !isCrosspoint f.target) ∧
        counterOf u .bankSwaps = saturatingSucc (counterOf s .bankSwaps) ∧ fadesCancelled s u ∧
        countsBut [.cuesFired, .bankSwaps, .fadesCancelled, .reportsCoalesced, .reportsDropped] s u ∧
        keepsBut [.scene, .reports, .counters, .boundary] s u) ∧
      (∀ (x : FadeTarget) (goal : Code) (n : Nat), (∃ z i, x = .crosspoint z i ∧ c.action = .level z i goal n) ∨
          (∃ z, x = .master z ∧ c.action = .master z goal n) →
        u.scene.staged = s.scene.staged ∧ (∀ z i, x = .crosspoint z i → u.mix = s.mix) ∧
        (∀ z, x = .master z → u.scene.active = s.scene.active) ∧
        (∀ y, y ≠ x → targetCode u y = targetCode s y ∧ fadeOn u y = fadeOn s y) ∧
        (n = 0 ∨ targetCode s x = goal → targetCode u x = goal ∧ fadeOn u x = none ∧ u.mix = (setTarget x goal s).mix ∧
          counterOf u .fadeReplaced = (if (fadeOn s x).isSome
            then saturatingSucc (counterOf s .fadeReplaced) else counterOf s .fadeReplaced) ∧
          countsBut [.cuesFired, .fadeReplaced] s u) ∧
        (0 < n → targetCode s x ≠ goal →
          ((fadeOn s x).isSome = true →
            u.scene = { s.scene with
              cues := rest
              fades := s.scene.fades.map fun f => if f.target = x then ⟨x, targetCode s x, goal, n, 0⟩ else f } ∧
            u.mix = s.mix ∧ counterOf u .fadeReplaced = saturatingSucc (counterOf s .fadeReplaced) ∧
            counterOf u .fadesStarted = saturatingSucc (counterOf s .fadesStarted) ∧
            countsBut [.cuesFired, .fadeReplaced, .fadesStarted] s u) ∧
          (fadeOn s x = none → s.scene.fades.length < 16 →
            u.scene = { s.scene with
              cues := rest
              fades := s.scene.fades ++ [⟨x, targetCode s x, goal, n, 0⟩] } ∧
            u.mix = s.mix ∧ counterOf u .fadesStarted = saturatingSucc (counterOf s .fadesStarted) ∧
            countsBut [.cuesFired, .fadesStarted] s u) ∧
          (fadeOn s x = none → 16 ≤ s.scene.fades.length →
            targetCode u x = goal ∧ u.scene.fades = s.scene.fades ∧ u.mix = (setTarget x goal s).mix ∧
            counterOf u .fadeDegraded = saturatingSucc (counterOf s .fadeDegraded) ∧
            countsBut [.cuesFired, .fadeDegraded] s u)) ∧
        keepsBut [.scene, .mix, .counters, .boundary] s u)

/-- BANK-SWAP, CUE-ADD and CUE-CLEAR as operations. A swap exchanges the banks and cancels the crosspoint fades, each
counted and reported FADE-CANCELLED, in the order of the fade table, which is the model's (log entry 12); a cue is refused
OUT-OF-RANGE or BUSY with nothing changed, or stands immediately before the first cue that is due later; a clear removes
every cue, or every cue of the number, or is refused NOT-FOUND (R59, R61, R62, R68). That OUT-OF-RANGE comes before BUSY is
the model's reading (log entry 20). -/
def Obligations.SceneOperations : Prop :=
  ∀ s : State, ready s →
    (∃ t, exec .bankSwap s = .next t ∧ answered .ok s t ∧ t.scene.active = s.scene.staged ∧
      t.scene.staged = s.scene.active ∧ t.scene.fades = (s.scene.fades.filter fun f => !isCrosspoint f.target) ∧
      t.scene.cues = s.scene.cues ∧ t.scene.held = s.scene.held ∧
      counterOf t .bankSwaps = saturatingSucc (counterOf s .bankSwaps) ∧ fadesCancelled s t ∧
      keepsBut (.scene :: .reports :: answerParts) s t ∧ answerKept s t) ∧
    (∀ (n : Fin 256) (due : Word32) (a : CueAction),
      (cueEffect a = none → ∃ t, exec (.cueAdd n due a) s = .next t ∧ refusedWith .outOfRange s t) ∧
      (cueEffect a ≠ none → 16 ≤ s.scene.cues.length →
        ∃ t, exec (.cueAdd n due a) s = .next t ∧ refusedWith .busy s t) ∧
      (∀ e, cueEffect a = some e → s.scene.cues.length < 16 → ∃ t before after,
        exec (.cueAdd n due a) s = .next t ∧ answered .ok s t ∧ s.scene.cues = before ++ after ∧
        t.scene = { s.scene with cues := before ++ ⟨n, due, e⟩ :: after } ∧
        (∀ x ∈ before, laterThan x.due due = false) ∧ (∀ x ∈ after.head?, laterThan x.due due = true) ∧
        keepsBut (.scene :: answerParts) s t ∧ answerKept s t)) ∧
    (∃ t, exec (.cueClear none) s = .next t ∧ answered .ok s t ∧ t.scene = { s.scene with cues := [] } ∧
      keepsBut (.scene :: answerParts) s t ∧ answerKept s t) ∧
    (∀ n : Fin 256,
      ((∃ x ∈ s.scene.cues, x.number = n) → ∃ t, exec (.cueClear (some n)) s = .next t ∧ answered .ok s t ∧
        t.scene = { s.scene with cues := s.scene.cues.filter fun x => x.number ≠ n } ∧
        keepsBut (.scene :: answerParts) s t ∧ answerKept s t) ∧
      ((∀ x ∈ s.scene.cues, x.number ≠ n) →
        ∃ t, exec (.cueClear (some n)) s = .next t ∧ refusedWith .notFound s t))

/-! ### Zone claims (chapter 5) -/

/-- An entry of a claim enters a list: the list keeps its order, its entries and its length grow by the new one alone, and
the new entry stands after every entry that its claim does not outrank and before every other. The new entry is intact in
first place and not intact behind it, and a RESERVED entry that it pushes from first place loses its intact flag. With a
place free in the zone's list the entry enters it. Into a full list it enters in place of the last entry when its claim
outranks that entry's, which is counted ENTRIES-EVICTED: the evicted claim loses the zone, or ends PREEMPTED where it holds
no other, the origin of an inbound one told of it. Otherwise the claim loses the zone, which is counted ZONES-LOST, and the
list stays (R78, R82, R83, R84, R117). That zones lost goes on past 24 is the model's (log entry 28). -/
def Obligations.InsertionKeepsOrder : Prop :=
  (∀ (s : State) (c : ClaimId) (cl : Claim) (live : Bool) (l : List ListEntry), claimAt s c = some cl →
    (∀ e ∈ l, (claimAt s e.claim).isSome = true) → l.Pairwise (standsBefore s) →
    (inserted s.claims.table c cl live l).Pairwise (standsBefore s) ∧
    ∃ before after, l = before ++ after ∧
      (inserted s.claims.table c cl live l).map (·.claim) = before.map (·.claim) ++ c :: after.map (·.claim) ∧
      (before ≠ [] → inserted s.claims.table c cl live l = before ++ ⟨c, live, false⟩ :: after) ∧
      (before = [] → inserted s.claims.table c cl live l = ⟨c, live, true⟩ :: match after with
        | [] => []
        | e :: es => (if e.live then e else { e with intact := false }) :: es) ∧
      (∀ e ∈ before, ∀ x, claimAt s e.claim = some x → outranks cl x = false) ∧
      (∀ e ∈ after, ∀ x, claimAt s e.claim = some x → outranks cl x = true)) ∧
  (∀ (s : State) (c : ClaimId) (cl : Claim) (live : Bool) (z : ZoneId), claimAt s c = some cl →
    ((listOf s z).length < 4 →
      (insertEntry c live z s).claims = { s.claims with
        lists := tset s.claims.lists z (inserted s.claims.table c cl live (listOf s z))
        reported := (insertEntry c live z s).claims.reported } ∧
      countsBut [.reportsCoalesced, .reportsDropped] s (insertEntry c live z s) ∧
      keepsBut [.claims, .reports, .counters] s (insertEntry c live z s)) ∧
    (∀ (e : ListEntry) (x : Claim), 4 ≤ (listOf s z).length → (listOf s z).getLast? = some e →
      claimAt s e.claim = some x →
      (outranks cl x = false →
        (insertEntry c live z s).claims = { s.claims with
          table := tset s.claims.table c (some { cl with lost := cl.lost + 1 }) } ∧
        countsOne (.zonesLost z) s (insertEntry c live z s) ∧ keepsBut [.claims, .counters] s (insertEntry c live z s)) ∧
      (outranks cl x = true → e.claim ∉ (listOf s z).dropLast.map (·.claim) →
        listOf (insertEntry c live z s) z = inserted s.claims.table c cl live (listOf s z).dropLast ∧
        (∀ y, y ≠ z → listOf (insertEntry c live z s) y = listOf s y) ∧
        (∀ d, d ≠ e.claim → claimAt (insertEntry c live z s) d = claimAt s d) ∧
        counterOf (insertEntry c live z s) (.entriesEvicted z) = saturatingSucc (counterOf s (.entriesEvicted z)) ∧
        ((∃ y, y ≠ z ∧ entryIn (listOf s y) e.claim ≠ none) →
          claimAt (insertEntry c live z s) e.claim = some { x with lost := x.lost + 1 } ∧
          countsBut [.entriesEvicted z, .reportsCoalesced, .reportsDropped] s (insertEntry c live z s) ∧
          keepsBut [.claims, .reports, .counters] s (insertEntry c live z s)) ∧
        ((∀ y, y ≠ z → entryIn (listOf s y) e.claim = none) →
          claimAt (insertEntry c live z s) e.claim = none ∧
          (s.control.mode ≠ .unaddressed → recorded .claimEnd e.claim.val 2 s (insertEntry c live z s)) ∧
          originTold true x id s (insertEntry c live z s) ∧
          keepsBut [.ring, .slots, .claims, .peer, .intercom, .alarm, .clips, .reports, .counters] s
            (insertEntry c live z s)))))

/-- The claim unit takes the head of the claim request queue; with an empty queue nothing happens. A management start
without peers is refused BUSY when no place is free; ended REFUSED when none of its zones is enabled; with a chime,
RESERVING with RESERVED entries, the chime timer at the chime length and the generator at its first note; without one, LIVE
at once with LIVE entries. With peers, and too few FREE entries or no transmit channel for it, PEER-SHORTAGE is counted, and
a policy ALL request is refused BUSY while a policy BEST claim is created without them. With enough, the peers take the
lowest FREE entries in the order of their list, RESERVE-SENT with their deadline; the claim takes the lowest free transmit
channel unless its slot is bound to the ring; and a RESERVE goes to each peer with the audio reference, counted
RESERVES-SENT. It then waits for its chime, or under policy ALL for its peers. A station page takes the lowest free station
slot, bound to the station; the page in progress takes the claim's id and the station's IN memberships become HELD; refused
BUSY, it ends PAGE-BUSY, and with no zone enabled REFUSED. The START of an alarm channel gives a claim LIVE at once, in its
place of every list, whose id the channel takes. The START of the RESERVE in service ends the service with an answer: BUSY,
with its slot unbound; REFUSED, with the claim ended and its slot unbound; and otherwise GRANTED or PARTIAL with the number
of zones in which the entry is intact, counted INBOUND-SERVED, the claim waiting for its COMMIT when it has a chime. A GAIN
whose claim its channel still holds gives it the enabled zones of the set that it lacks, each with a LIVE entry; any other
is discarded. The answer ends the operation of the frame in service, or outside a frame stands alone, the model's choice
(log entry 8). Every entry of a claim list names a claim of the table: a premise that every step keeps (R77, R80, R81, R87,
R90, R94, R101, R102, R103, R113, R135, R154). -/
def Obligations.ClaimStarts : Prop :=
  (∀ s : State, quiet s → s.claims.queue = [] → exec .claimRequestTake s = .next s) ∧
  (∀ (r : StartRequest) (rest : List Request) (i : SlotId) (s : State), quiet s → running s = true → entriesHeld s →
    s.claims.queue = .start r :: rest → r.owner = .management → r.slot = some i → playerOfSlot i = none →
    requestPeers s r = [] →
    (freeClaim s = none → ∃ t, exec .claimRequestTake s = .next t ∧
      t.claims = { s.claims with queue := rest } ∧ claimAnswered r .busy .none s t ∧
      counterOf t .requestsBusy = saturatingSucc (counterOf s .requestsBusy) ∧
      (r.framed = false → countsBut [.requestsBusy, .operationsRefused] s t) ∧
      keepsBut [.ring, .claims, .control, .counters] s t) ∧
    (∀ c, freeClaim s = some c → isNoZones (enabledZones s (requestZones s r)) = true →
      entriesOf s c (fun _ => true) = [] →
      ∃ t, exec .claimRequestTake s = .next t ∧ claimAt t c = none ∧ (∀ d, claimAt t d = claimAt s d) ∧
        (∀ z, listOf t z = listOf s z) ∧ t.claims.queue = rest ∧
        claimAnswered r .ok (.claim (some c) (some .refused)) s t ∧ recorded .claimEnd c.val 3 s t ∧
        keepsBut [.ring, .claims, .peer, .control, .reports, .counters] s t) ∧
    (∀ c, freeClaim s = some c → isNoZones (enabledZones s (requestZones s r)) = false →
      (∀ z, tget (enabledZones s (requestZones s r)) z = true → listOf s z = []) →
      entriesOf s c (fun _ => true) = [] →
      (r.chime = true → 0 < chimeLength s.claims.chimeTable → ∃ t, exec .claimRequestTake s = .next t ∧
        claimAt t c = some (createdClaim s r i) ∧ (createdClaim s r i).state = .reserving ∧
        (createdClaim s r i).timer = chimeLength s.claims.chimeTable ∧
        (∀ d, d ≠ c → claimAt t d = claimAt s d) ∧
        (∀ z, listOf t z = if tget (enabledZones s (requestZones s r)) z = true then [⟨c, false, true⟩] else listOf s z) ∧
        t.claims.queue = rest ∧ t.claims.chimeGen = ⟨some (0, 0), 0⟩ ∧
        claimAnswered r .ok (.claim (some c) none) s t ∧
        counterOf t .claimsStarted = saturatingSucc (counterOf s .claimsStarted) ∧
        (r.framed = false → countsBut [.claimsStarted, .reportsCoalesced, .reportsDropped] s t) ∧
        keepsBut [.ring, .claims, .control, .reports, .counters] s t) ∧
      (r.chime = false → ∃ t, exec .claimRequestTake s = .next t ∧
        claimAt t c = some { createdClaim s r i with state := .live } ∧ (∀ d, d ≠ c → claimAt t d = claimAt s d) ∧
        (∀ z, listOf t z = if tget (enabledZones s (requestZones s r)) z = true then [⟨c, true, true⟩] else listOf s z) ∧
        t.claims.queue = rest ∧ t.claims.chimeGen = s.claims.chimeGen ∧
        claimAnswered r .ok (.claim (some c) none) s t ∧
        counterOf t .commitsDone = saturatingSucc (counterOf s .commitsDone) ∧
        (r.framed = false → countsBut [.claimsStarted, .commitsDone, .reportsCoalesced, .reportsDropped] s t) ∧
        keepsBut [.ring, .claims, .control, .reports, .counters] s t))) ∧
  (∀ (i : SlotId) (n : Nat) (s : State),
    (enoughPeers s n (some i) = true ↔ n ≤ ((everyFin 8).filter fun x => (entryAt s x).isNone).length ∧
      ((∃ o b q, (tget s.slots i).binding = .ring o b q) ∨ ∃ k, tget s.peer.tx k = none)) ∧
    (∀ o b q, (tget s.slots i).binding = .ring o b q → audioReference s i = (o, b, q) ∧ handOnChannel s i = none) ∧
    ((∀ o b q, (tget s.slots i).binding ≠ .ring o b q) → ∀ k : TxId, tget s.peer.tx k = none →
      (∀ j : TxId, j.val < k.val → tget s.peer.tx j ≠ none) →
      audioReference s i = (s.ring.nodeId, 0, k.val) ∧ handOnChannel s i = some k)) ∧
  (∀ (r : StartRequest) (rest : List Request) (i : SlotId) (c : ClaimId) (s : State), quiet s → running s = true →
    entriesHeld s → s.claims.queue = .start r :: rest → r.owner = .management → r.slot = some i → playerOfSlot i = none →
    freeClaim s = some c → requestPeers s r ≠ [] →
    (enoughPeers s (requestPeers s r).length (some i) = false → r.policy = .all →
      ∃ t, exec .claimRequestTake s = .next t ∧ t.claims = { s.claims with queue := rest } ∧
        claimAnswered r .busy .none s t ∧
        counterOf t .peerShortage = saturatingSucc (counterOf s .peerShortage) ∧
        counterOf t .requestsBusy = saturatingSucc (counterOf s .requestsBusy) ∧
        keepsBut [.ring, .claims, .control, .counters] s t) ∧
    (isNoZones (enabledZones s (requestZones s r)) = false →
      (∀ z, tget (enabledZones s (requestZones s r)) z = true → listOf s z = []) →
      entriesOf s c (fun _ => true) = [] →
      (enoughPeers s (requestPeers s r).length (some i) = false → r.policy = .best → r.chime = true →
        0 < chimeLength s.claims.chimeTable → ∃ t, exec .claimRequestTake s = .next t ∧
          claimAt t c = some (createdClaim s r i) ∧ (createdClaim s r i).noPeers = true ∧
          (createdClaim s r i).handed = 0 ∧
          (∀ z, listOf t z = if tget (enabledZones s (requestZones s r)) z = true then [⟨c, false, true⟩]
            else listOf s z) ∧
          claimAnswered r .ok (.claim (some c) none) s t ∧
          counterOf t .peerShortage = saturatingSucc (counterOf s .peerShortage) ∧
          keepsBut [.ring, .claims, .control, .reports, .counters] s t) ∧
      (enoughPeers s (requestPeers s r).length (some i) = true →
        (r.chime = true ∧ 0 < chimeLength s.claims.chimeTable ∨ r.chime = false ∧ r.policy = .all) →
        ∃ t, exec .claimRequestTake s = .next t ∧
          claimAt t c = some { createdClaim s r i with handed := (requestPeers s r).length, waiting := !r.chime } ∧
          (createdClaim s r i).noPeers = false ∧ (∀ d, d ≠ c → claimAt t d = claimAt s d) ∧
          (∀ z, listOf t z = if tget (enabledZones s (requestZones s r)) z = true then [⟨c, !r.chime, true⟩]
            else listOf s z) ∧ t.claims.queue = rest ∧
          (∀ (j : Nat) (p : PeerRef) (x : TagId), (requestPeers s r)[j]? = some p →
            ((everyFin 8).filter fun x => (entryAt s x).isNone)[j]? = some x →
            entryAt t x = some ⟨.reserveSent, c, p.node, p.group, handOnChannel s i,
              s.ring.period + BitVec.ofNat 32 s.control.node.answerTimeout⟩) ∧
          (∀ x : TagId, x ∉ ((everyFin 8).filter fun x => (entryAt s x).isNone).take (requestPeers s r).length →
            entryAt t x = entryAt s x) ∧
          t.peer = { s.peer with file := t.peer.file, tx := (match handOnChannel s i with
            | some k => tset s.peer.tx k (some ⟨c, i, true, (requestPeers s r).length⟩)
            | none => s.peer.tx) } ∧
          (∃ u, u.control = s.control ∧ u.ring = (forEach
              (((everyFin 8).filter fun x => (entryAt s x).isNone).zip (requestPeers s r))
              (fun x v => sendClaim x.2.node (reservePayload x.1 x.2.group (createdClaim s r i) (audioReference s i).1
                (audioReference s i).2.1 (audioReference s i).2.2) v) s).ring ∧
            t.ring = (claimAnswer r.framed .ok (.claim (some c) none) u).ring ∧
            t.control = (claimAnswer r.framed .ok (.claim (some c) none) u).control) ∧
          counterOf t .reservesSent =
            iterate saturatingSucc (requestPeers s r).length (counterOf s .reservesSent) ∧
          keepsBut [.ring, .claims, .peer, .control, .reports, .counters] s t))) ∧
  (∀ (r : StartRequest) (rest : List Request) (st : StationId) (k : KeyId) (latch : Bool) (s : State), quiet s →
    running s = true → entriesHeld s → s.claims.queue = .start r :: rest → r.owner = .station st → r.slot = none →
    (stationOf s st).page = some ⟨k, latch, none⟩ → requestPeers s r = [] →
    (freeClaim s = none ∨ freeStationSlot s = none → ∃ t, exec .claimRequestTake s = .next t ∧
      t.claims = { s.claims with queue := rest } ∧
      stationOf t st = { stationOf s st with page := none, flash := tset (stationOf s st).flash k 250 } ∧
      (∀ x, x ≠ st → stationOf t x = stationOf s x) ∧ (∀ j, callAt t j = callAt s j) ∧
      reportedOnce .keyRefused (st.val * 8 + k.val) 5 s t ∧
      counterOf t .requestsBusy = saturatingSucc (counterOf s .requestsBusy) ∧
      counterOf t .keysRefused = saturatingSucc (counterOf s .keysRefused) ∧
      countsBut [.requestsBusy, .keysRefused, .reportsCoalesced, .reportsDropped] s t ∧
      keepsBut [.claims, .intercom, .reports, .counters] s t) ∧
    (∀ c i, freeClaim s = some c → freeStationSlot s = some i → entriesOf s c (fun _ => true) = [] →
      (isNoZones (enabledZones s (requestZones s r)) = true → ∃ t, exec .claimRequestTake s = .next t ∧
        (∀ d, claimAt t d = claimAt s d) ∧ (∀ z, listOf t z = listOf s z) ∧ t.claims.queue = rest ∧
        tget t.slots i = unboundSlot (tget s.slots i) ∧ (∀ j, j ≠ i → tget t.slots j = tget s.slots j) ∧
        stationOf t st = { stationOf s st with page := none, flash := tset (stationOf s st).flash k 250 } ∧
        (∀ x, x ≠ st → stationOf t x = stationOf s x) ∧ recorded .claimEnd c.val 3 s t ∧
        keepsBut [.ring, .slots, .claims, .peer, .intercom, .reports, .counters] s t) ∧
      (isNoZones (enabledZones s (requestZones s r)) = false →
        (∀ z, tget (enabledZones s (requestZones s r)) z = true → listOf s z = []) →
        ∃ t, exec .claimRequestTake s = .next t ∧ (∀ d, d ≠ c → claimAt t d = claimAt s d) ∧ t.claims.queue = rest ∧
          tget t.slots i = boundSlot (.station st) (tget s.slots i) ∧ (∀ j, j ≠ i → tget t.slots j = tget s.slots j) ∧
          stationOf t st = { stationOf s st with page := some ⟨k, latch, some c⟩ } ∧
          (∀ x, x ≠ st → stationOf t x = stationOf s x) ∧
          (∀ j, callAt t j = (callAt s j).map fun x => { x with
            members := x.members.map fun m => if m.1 = st ∧ m.2 = .within then (m.1, .held) else m }) ∧
          (r.chime = true → 0 < chimeLength s.claims.chimeTable → claimAt t c = some (createdClaim s r i) ∧
            (∀ z, listOf t z = if tget (enabledZones s (requestZones s r)) z = true then [⟨c, false, true⟩]
              else listOf s z) ∧ t.claims.chimeGen = ⟨some (0, 0), 0⟩ ∧
            countsBut [.claimsStarted, .reportsCoalesced, .reportsDropped] s t ∧
            keepsBut [.slots, .claims, .intercom, .reports, .counters] s t) ∧
          (r.chime = false ∨ chimeLength s.claims.chimeTable = 0 →
            claimAt t c = some { createdClaim s r i with state := .live } ∧
            (∀ z, listOf t z = if tget (enabledZones s (requestZones s r)) z = true then [⟨c, true, true⟩]
              else listOf s z) ∧ t.claims.chimeGen = s.claims.chimeGen ∧
            counterOf t .commitsDone = saturatingSucc (counterOf s .commitsDone) ∧
            countsBut [.claimsStarted, .commitsDone, .reportsCoalesced, .reportsDropped] s t) ∧
          counterOf t .claimsStarted = saturatingSucc (counterOf s .claimsStarted) ∧
          keepsBut [.slots, .claims, .intercom, .reports, .counters] s t))) ∧
  (∀ (r : StartRequest) (rest : List Request) (ch : ChanId) (i : SlotId) (s : State), quiet s → running s = true →
    entriesHeld s → s.claims.queue = .start r :: rest → r.owner = .alarm ch → r.slot = some i →
    (channelOf s ch).claim = none → (channelOf s ch).owed = noZones →
    (freeClaim s = none → ∃ t, exec .claimRequestTake s = .next t ∧ t.claims = { s.claims with queue := rest } ∧
      channelOf t ch = { channelOf s ch with request := .none } ∧ (∀ x, x ≠ ch → channelOf t x = channelOf s x) ∧
      countsOne .requestsBusy s t ∧ keepsBut [.claims, .alarm, .counters] s t) ∧
    (∀ c, freeClaim s = some c →
      (isNoZones (enabledZones s (requestZones s r)) = true → ∃ t, exec .claimRequestTake s = .next t ∧
        (∀ d, claimAt t d = claimAt s d) ∧ (∀ z, listOf t z = listOf s z) ∧ t.claims.queue = rest ∧
        channelOf t ch = { channelOf s ch with request := .none } ∧ (∀ x, x ≠ ch → channelOf t x = channelOf s x) ∧
        recorded .claimEnd c.val 3 s t ∧ keepsBut [.claims, .alarm, .reports, .counters] s t) ∧
      (isNoZones (enabledZones s (requestZones s r)) = false →
        (∀ z, tget (enabledZones s (requestZones s r)) z = true → (listOf s z).length < 4) →
        ∃ t, exec .claimRequestTake s = .next t ∧
          claimAt t c = some { createdClaim s r i with slot := channelSlot s ch } ∧
          (createdClaim s r i).state = .live ∧ (createdClaim s r i).priority = 7 ∧
          (∀ d, d ≠ c → claimAt t d = claimAt s d) ∧
          (∀ z, listOf t z = if tget (enabledZones s (requestZones s r)) z = true
            then inserted s.claims.table c (createdClaim s r i) true (listOf s z) else listOf s z) ∧
          t.claims.queue = rest ∧ channelOf t ch = { channelOf s ch with claim := some c, request := .none } ∧
          (∀ x, x ≠ ch → channelOf t x = channelOf s x) ∧
          counterOf t .claimsStarted = saturatingSucc (counterOf s .claimsStarted) ∧
          countsBut [.claimsStarted, .reportsCoalesced, .reportsDropped] s t ∧
          keepsBut [.claims, .alarm, .reports, .counters] s t))) ∧
  (∀ (r : StartRequest) (rest : List Request) (v : InService) (g : GroupId) (s : State), quiet s → running s = true →
    entriesHeld s → s.peer.service = some v → r = inboundRequest v.reserve g v.slot →
    s.claims.queue = .start r :: rest →
    (freeClaim s = none → ∃ t, exec .claimRequestTake s = .next t ∧ t.claims = { s.claims with queue := rest } ∧
      t.peer = { s.peer with service := none } ∧ tget t.slots v.slot = unboundSlot (tget s.slots v.slot) ∧
      (∀ j, j ≠ v.slot → tget t.slots j = tget s.slots j) ∧
      t.ring = (sendAnswer v.reserve.origin v.reserve.tag 1 .busy 0 0 s).ring ∧
      counterOf t .requestsBusy = saturatingSucc (counterOf s .requestsBusy) ∧
      keepsBut [.ring, .slots, .claims, .peer, .counters] s t) ∧
    (∀ c, freeClaim s = some c →
      (isNoZones (enabledZones s (requestZones s r)) = true → ∃ t, exec .claimRequestTake s = .next t ∧
        (∀ d, claimAt t d = claimAt s d) ∧ (∀ z, listOf t z = listOf s z) ∧ t.claims.queue = rest ∧
        t.peer = { s.peer with service := none } ∧ tget t.slots v.slot = unboundSlot (tget s.slots v.slot) ∧
        (∀ j, j ≠ v.slot → tget t.slots j = tget s.slots j) ∧
        t.ring = (sendAnswer v.reserve.origin v.reserve.tag 1 .refused 0 0 s).ring ∧ recorded .claimEnd c.val 3 s t ∧
        keepsBut [.ring, .slots, .claims, .peer, .reports, .counters] s t) ∧
      (∀ (target : List ZoneId) (intact : Nat), target = zonesOf (enabledZones s (requestZones s r)) → target ≠ [] →
        (target.filter fun z => takesFirst s.claims.table (createdClaim s r v.slot) (listOf s z)).length = intact →
        r.chime = true → 0 < chimeLength s.claims.chimeTable → (∀ z ∈ target, (listOf s z).length < 4) →
        ∃ t, exec .claimRequestTake s = .next t ∧ (∀ d, d ≠ c → claimAt t d = claimAt s d) ∧ t.claims.queue = rest ∧
          t.peer = { s.peer with service := none } ∧
          counterOf t .claimsStarted = saturatingSucc (counterOf s .claimsStarted) ∧
          (0 < intact → claimAt t c = some { createdClaim s r v.slot with waiting := true } ∧
            (∀ z, listOf t z = if z ∈ target then inserted s.claims.table c (createdClaim s r v.slot) false (listOf s z)
              else listOf s z) ∧
            t.ring = (sendAnswer v.reserve.origin v.reserve.tag 1 (if intact = target.length then .granted
              else .partialGrant) intact target.length s).ring ∧
            counterOf t .inboundServed = saturatingSucc (counterOf s .inboundServed) ∧
            keepsBut [.ring, .claims, .peer, .reports, .counters] s t) ∧
          (intact = 0 → claimAt t c = none ∧ (∀ z, listOf t z = listOf s z) ∧
            tget t.slots v.slot = unboundSlot (tget s.slots v.slot) ∧
            (∀ j, j ≠ v.slot → tget t.slots j = tget s.slots j) ∧
            t.ring = (sendAnswer v.reserve.origin v.reserve.tag 1 .refused 0 target.length s).ring ∧
            recorded .claimEnd c.val 3 s t ∧ counterOf t .inboundServed = counterOf s .inboundServed ∧
            keepsBut [.ring, .slots, .claims, .peer, .reports, .counters] s t)) ∧
      (isNoZones (enabledZones s (requestZones s r)) = false → r.chime = false → playerOfSlot v.slot = none →
        (∀ z, tget (enabledZones s (requestZones s r)) z = true → listOf s z = []) → entriesOf s c (fun _ => true) = [] →
        ∃ t, exec .claimRequestTake s = .next t ∧
          claimAt t c = some { createdClaim s r v.slot with state := .live } ∧ (∀ d, d ≠ c → claimAt t d = claimAt s d) ∧
          (∀ z, listOf t z = if tget (enabledZones s (requestZones s r)) z = true then [⟨c, true, true⟩]
            else listOf s z) ∧ t.claims.queue = rest ∧ t.peer = { s.peer with service := none } ∧
          t.ring = (sendAnswer v.reserve.origin v.reserve.tag 1 .granted
            (zonesOf (enabledZones s (requestZones s r))).length
            (zonesOf (enabledZones s (requestZones s r))).length s).ring ∧
          counterOf t .commitsDone = saturatingSucc (counterOf s .commitsDone) ∧
          counterOf t .inboundServed = saturatingSucc (counterOf s .inboundServed) ∧
          keepsBut [.ring, .claims, .peer, .reports, .counters] s t))) ∧
  (∀ (ch : ChanId) (c : ClaimId) (zs : ZoneSet) (rest : List Request) (s : State), quiet s → running s = true →
    s.claims.queue = .gain ch c zs :: rest → (channelOf s ch).owed = noZones →
    ((channelOf s ch).claim ≠ some c ∨ claimAt s c = none → ∃ t, exec .claimRequestTake s = .next t ∧
      t.claims = { s.claims with queue := rest } ∧ channelOf t ch = { channelOf s ch with request := .none } ∧
      keepsBut [.claims, .alarm] s t) ∧
    (∀ cl, (channelOf s ch).claim = some c → claimAt s c = some cl →
      (∀ z, tget (enabledZones s zs) z = true → entryIn (listOf s z) c = none → (listOf s z).length < 4) →
      ∃ t, exec .claimRequestTake s = .next t ∧ t.claims.queue = rest ∧
        claimAt t c = some { cl with target := (Vector.ofFn fun z : ZoneId =>
          tget cl.target z || (tget (enabledZones s zs) z && (entryIn (listOf s z) c).isNone)) } ∧
        (∀ d, d ≠ c → claimAt t d = claimAt s d) ∧
        (∀ z, listOf t z = if tget (enabledZones s zs) z = true ∧ entryIn (listOf s z) c = none
          then inserted s.claims.table c cl true (listOf s z) else listOf s z) ∧
        channelOf t ch = { channelOf s ch with request := .none } ∧
        keepsBut [.claims, .alarm, .reports, .counters] s t))

/-- A note of the chime has played its duration: the next row, if it is a note, sounds its first block from phase 0;
otherwise the generator is idle and its slot silent (R86). That the phase of an idle generator is 0 is the model's (log
entry 29). A change is due at the boundary in progress as log entry 1 has it. -/
def Obligations.ChimeNoteEnds : Prop :=
  ∀ (row : Fin 4) (played : Nat) (s : State), isDue .chimeNoteEnd s → s.claims.chimeGen.note = some (row, played) →
    (tget s.claims.chimeTable row).duration ≤ played → ∃ u, carriesOut .chimeNoteEnd .chimeNoteEnd s u ∧
      (∀ next : Fin 4, next.val = row.val + 1 → isNote s.claims.chimeTable next = true →
        u.claims.chimeGen = ⟨some (next, 1), (toneBlock s.mix.taper (tget s.claims.chimeTable next).freq
          (tget s.claims.chimeTable next).amp 0).2⟩ ∧
        (tget u.slots 31).block = (toneBlock s.mix.taper (tget s.claims.chimeTable next).freq
          (tget s.claims.chimeTable next).amp 0).1) ∧
      ((∀ next : Fin 4, next.val = row.val + 1 → isNote s.claims.chimeTable next = false) →
        u.claims.chimeGen = ⟨none, 0⟩ ∧ (tget u.slots 31).block = silence) ∧
      tget u.slots 31 = { tget s.slots 31 with block := (tget u.slots 31).block } ∧
      (∀ j, j ≠ 31 → tget u.slots j = tget s.slots j) ∧ u.claims = { s.claims with chimeGen := u.claims.chimeGen } ∧
      keepsBut [.slots, .claims, .boundary] s u

/-- A chime timer at 0 of a management claim. A policy ALL claim waits for peers still in RESERVE-SENT; with no peers it
becomes LIVE with all its entries when every target zone holds an intact one, and ends REFUSED otherwise. A policy BEST
claim without peers becomes LIVE with its intact entries and leaves the zones where its entry is not intact; where an entry
goes, a zone was lost or peers were left out or failed, the commit is partial, reported with the number of LIVE entries;
with no intact entry the claim ends REFUSED. A claim whose peers are all RESERVED commits in the same way, and one whose
peer has failed ends REFUSED under policy ALL. At a commit each RESERVED entry of the claim becomes COMMIT-SENT with a fresh
deadline, and a COMMIT goes to its peer; every other entry stays (R87, R88, R89, R90, R107, R109). A change is due at the
boundary in progress as log entry 1 has it. -/
def Obligations.ChimeExpires : Prop :=
  (∀ (c : ClaimId) (s : State),
    (∀ t, entryAt (commitPeers c s) t = (entryAt s t).map fun e =>
      if e.claim = c ∧ e.state = .reserved then sentEntry s .commitSent e else e) ∧
    (commitPeers c s).peer = { s.peer with file := (commitPeers c s).peer.file } ∧
    (commitPeers c s).ring = (forEach (entriesOf s c (· == .reserved)) (fun t u => match entryAt s t with
      | some e => sendClaim e.peer [2, BitVec.ofNat 8 t.val, 0, 0] u
      | none => u) s).ring ∧
    keepsBut [.ring, .peer, .counters] s (commitPeers c s)) ∧
  (∀ (c : ClaimId) (cl : Claim) (s : State), isDue (.chimeExpiry c) s → claimAt s c = some cl → chimesNow cl = true →
    cl.timer = 0 → cl.owner = .management → playerOfSlot cl.slot = none →
    (cl.policy = .all → entriesOf s c (· == .reserveSent) = [] →
      (allIntact s c cl = true → (entriesOf s c (· == .reserved)).length = cl.handed →
        ∃ u, carriesOut (.chimeExpiry c) (.chimeExpiry c) s u ∧ claimAt u c = some { cl with state := .live } ∧
          (∀ d, d ≠ c → claimAt u d = claimAt s d) ∧
          (∀ z, listOf u z = (listOf s z).map fun e => if e.claim = c then { e with live := true } else e) ∧
          u.peer = (commitPeers c s).peer ∧ u.ring = (commitPeers c s).ring ∧
          counterOf u .commitsDone = saturatingSucc (counterOf s .commitsDone) ∧
          keepsBut [.ring, .claims, .peer, .reports, .counters, .boundary] s u) ∧
      ((entriesOf s c (· == .reserved)).length ≠ cl.handed →
        ∃ u, carriesOut (.chimeExpiry c) (.chimeExpiry c) s u ∧ claimGone c s u ∧
          (s.control.mode ≠ .unaddressed → recorded .claimEnd c.val 3 s u) ∧
          u.peer = (releasePeers c s).peer ∧ u.ring = (releasePeers c s).ring ∧
          counterOf u .commitsRefused = saturatingSucc (counterOf s .commitsRefused) ∧
          keepsBut [.ring, .claims, .peer, .reports, .counters, .boundary] s u)) ∧
    (cl.policy = .best → (∃ z e, entryIn (listOf s z) c = some e ∧ e.intact = true) →
      ∃ u, carriesOut (.chimeExpiry c) (.chimeExpiry c) s u ∧ claimAt u c = some { cl with state := .live } ∧
        (∀ d, d ≠ c → claimAt u d = claimAt s d) ∧
        (∀ z, entryIn (listOf s z) c = none → listOf u z = listOf s z) ∧
        (∀ z e, entryIn (listOf s z) c = some e → e.intact = true →
          listOf u z = (listOf s z).map fun x => if x.claim = c then { x with live := true } else x) ∧
        (∀ z e, entryIn (listOf s z) c = some e → e.intact = false →
          listOf u z = (listOf s z).filter (fun x => x.claim ≠ c)) ∧
        u.peer = (commitPeers c s).peer ∧ u.ring = (commitPeers c s).ring ∧
        counterOf u .commitsDone = saturatingSucc (counterOf s .commitsDone) ∧
        ((∃ z e, entryIn (listOf s z) c = some e ∧ e.intact = false) ∨ 0 < cl.lost ∨ cl.noPeers = true ∨
            (entriesOf s c (fun _ => true)).length < cl.handed →
          counterOf u .commitsPartial = saturatingSucc (counterOf s .commitsPartial) ∧
          (s.control.mode ≠ .unaddressed → recorded .claimPartial c.val (liveEntries u c) s u)) ∧
        ((∀ z e, entryIn (listOf s z) c = some e → e.intact = true) → cl.lost = 0 → cl.noPeers = false →
            cl.handed ≤ (entriesOf s c (fun _ => true)).length →
          counterOf u .commitsPartial = counterOf s .commitsPartial) ∧
        keepsBut [.ring, .claims, .peer, .reports, .counters, .boundary] s u)) ∧
  ∀ (c : ClaimId) (cl : Claim) (s : State), isDue (.chimeExpiry c) s → claimAt s c = some cl → chimesNow cl = true →
    cl.timer = 0 → cl.owner = .management → playerOfSlot cl.slot = none →
    (cl.policy = .all → entriesOf s c (· == .reserveSent) ≠ [] →
      ∃ u, carriesOut (.chimeExpiry c) (.chimeExpiry c) s u ∧
        claimAt u c = some { cl with waiting := true } ∧ (∀ d, d ≠ c → claimAt u d = claimAt s d) ∧
        u.claims = { s.claims with table := u.claims.table } ∧ keepsBut [.claims, .boundary] s u) ∧
    (cl.policy = .all → entriesOf s c (fun _ => true) = [] → cl.handed = 0 →
      (allIntact s c cl = true → ∃ u, carriesOut (.chimeExpiry c) (.chimeExpiry c) s u ∧
        claimAt u c = some { cl with state := .live } ∧ (∀ d, d ≠ c → claimAt u d = claimAt s d) ∧
        (∀ z, listOf u z = (listOf s z).map fun e => if e.claim = c then { e with live := true } else e) ∧
        counterOf u .commitsDone = saturatingSucc (counterOf s .commitsDone) ∧
        countsBut [.commitsDone, .reportsCoalesced, .reportsDropped] s u ∧
        keepsBut [.claims, .reports, .counters, .boundary] s u) ∧
      (allIntact s c cl = false → ∃ u, carriesOut (.chimeExpiry c) (.chimeExpiry c) s u ∧ claimGone c s u ∧
        (s.control.mode ≠ .unaddressed → recorded .claimEnd c.val 3 s u) ∧
        counterOf u .commitsRefused = saturatingSucc (counterOf s .commitsRefused) ∧
        countsBut [.commitsRefused, .reportsCoalesced, .reportsDropped] s u ∧
        keepsBut [.claims, .peer, .reports, .counters, .boundary] s u)) ∧
    (cl.policy = .best → entriesOf s c (fun _ => true) = [] →
      ((∃ z e, entryIn (listOf s z) c = some e ∧ e.intact = true) →
        ∃ u, carriesOut (.chimeExpiry c) (.chimeExpiry c) s u ∧
          claimAt u c = some { cl with state := .live } ∧ (∀ d, d ≠ c → claimAt u d = claimAt s d) ∧
          (∀ z, entryIn (listOf s z) c = none → listOf u z = listOf s z) ∧
          (∀ z e, entryIn (listOf s z) c = some e → e.intact = true →
            listOf u z = (listOf s z).map fun x => if x.claim = c then { x with live := true } else x) ∧
          (∀ z e, entryIn (listOf s z) c = some e → e.intact = false →
            listOf u z = (listOf s z).filter (fun x => x.claim ≠ c)) ∧
          counterOf u .commitsDone = saturatingSucc (counterOf s .commitsDone) ∧
          ((∃ z e, entryIn (listOf s z) c = some e ∧ e.intact = false) ∨ 0 < cl.lost ∨ cl.noPeers = true ∨ 0 < cl.handed →
            counterOf u .commitsPartial = saturatingSucc (counterOf s .commitsPartial) ∧
            (s.control.mode ≠ .unaddressed → recorded .claimPartial c.val (liveEntries u c) s u)) ∧
          (¬((∃ z e, entryIn (listOf s z) c = some e ∧ e.intact = false) ∨ 0 < cl.lost ∨ cl.noPeers = true ∨
              0 < cl.handed) → countsBut [.commitsDone, .reportsCoalesced, .reportsDropped] s u) ∧
          countsBut [.commitsDone, .commitsPartial, .reportsCoalesced, .reportsDropped] s u ∧
          keepsBut [.claims, .reports, .counters, .boundary] s u) ∧
      ((∀ z e, entryIn (listOf s z) c = some e → e.intact = false) →
        ∃ u, carriesOut (.chimeExpiry c) (.chimeExpiry c) s u ∧ claimGone c s u ∧
          (s.control.mode ≠ .unaddressed → recorded .claimEnd c.val 3 s u) ∧
          counterOf u .commitsRefused = saturatingSucc (counterOf s .commitsRefused) ∧
          countsBut [.commitsRefused, .reportsCoalesced, .reportsDropped] s u ∧
          keepsBut [.claims, .peer, .reports, .counters, .boundary] s u))

/-- CLAIM-END refuses a claim id out of range, a free one and an alarm claim, and ends any other claim: RELEASED, or
PREEMPTED for an inbound one. A claim that has reached its hold limit ends TIMEOUT and is counted. A claim that ends leaves
the table and every list, with a CLAIM-END record of its reason. The end of a claim of this part sends a RELEASE for each of
its entries, which become RELEASE-SENT with a fresh deadline, and clears the local hold of its transmit channel; a channel
whose hold is clear is freed when no entry names it, at the end of the claim or as its last entry becomes FREE. The end of
an inbound claim unbinds its slot, and by PREEMPTED, SOURCE-LOST or RESET it sends its origin an unsolicited PREEMPTED,
counted INBOUND-PREEMPTED, unless the claim's RESERVE is in service; by any other reason it sends nothing (R91, R92, R93,
R103, R110, R117, R196). A change is due at the boundary in progress as log entry 1 has it. -/
def Obligations.ClaimEnds : Prop :=
  (∀ (c : ClaimId) (s : State),
    (∀ t, entryAt (releasePeers c s) t = (entryAt s t).map fun e =>
      if e.claim = c ∧ e.state ≠ .releaseSent then sentEntry s .releaseSent e else e) ∧
    (∀ k, tget (releasePeers c s).peer.tx k = match tget s.peer.tx k with
      | some r => if r.claim = c ∧ r.hold = true then (if r.peers = 0 then none else some { r with hold := false })
        else some r
      | none => none) ∧
    (releasePeers c s).peer = { s.peer with file := (releasePeers c s).peer.file, tx := (releasePeers c s).peer.tx } ∧
    (releasePeers c s).ring = (forEach (entriesOf s c fun _ => true) (fun t u => match entryAt s t with
      | some e => sendClaim e.peer [3, BitVec.ofNat 8 t.val, 0, 0] u
      | none => u) s).ring ∧
    keepsBut [.ring, .peer, .counters] s (releasePeers c s)) ∧
  (∀ (t : TagId) (e : OutEntry) (s : State), entryAt s t = some e →
    (freeEntry t s).peer = { s.peer with file := tset s.peer.file t none, tx := (freeEntry t s).peer.tx } ∧
    (∀ k r, e.channel = some k → tget s.peer.tx k = some r → tget (freeEntry t s).peer.tx k =
      if r.hold = false ∧ r.peers ≤ 1 then none else some { r with peers := r.peers - 1 }) ∧
    (∀ k, e.channel ≠ some k → tget (freeEntry t s).peer.tx k = tget s.peer.tx k) ∧
    keepsBut [.peer] s (freeEntry t s)) ∧
  (∀ (n : Nat) (s : State), ready s →
    (48 ≤ n → ∃ t, exec (.claimEnd n) s = .next t ∧ refusedWith .outOfRange s t) ∧
    (∀ c : ClaimId, c.val = n →
      (claimAt s c = none → ∃ t, exec (.claimEnd n) s = .next t ∧ refusedWith .notFound s t) ∧
      (∀ cl ch, claimAt s c = some cl → cl.owner = .alarm ch →
        ∃ t, exec (.claimEnd n) s = .next t ∧ refusedWith .inUse s t) ∧
      (∀ cl, claimAt s c = some cl → (∀ ch, cl.owner ≠ .alarm ch) → ∃ t, exec (.claimEnd n) s = .next t ∧
        answered .ok s t ∧ claimGone c s t ∧
        recorded .claimEnd n (match cl.owner with
          | .peer _ _ => 2
          | _ => 0) s t ∧
        ((∀ node tag, cl.owner ≠ .peer node tag) → t.peer = (releasePeers c s).peer ∧
          t.ring = (finishOperation false .ok .none (releasePeers c s)).ring) ∧
        originTold true cl (finishOperation false .ok .none) s t ∧
        keepsBut [.ring, .slots, .claims, .peer, .intercom, .clips, .control, .reports, .counters] s t))) ∧
  (∀ (reason : EndReason) (c : ClaimId) (cl : Claim) (node tag : Nat) (s : State), claimAt s c = some cl →
    cl.owner = .peer node tag → claimGone c s (endClaim reason c s) ∧
    tget (endClaim reason c s).slots cl.slot = unboundSlot (tget s.slots cl.slot) ∧
    (∀ j, j ≠ cl.slot → tget (endClaim reason c s).slots j = tget s.slots j) ∧
    (reason = .preempted ∨ reason = .sourceLost ∨ reason = .reset → originTold true cl id s (endClaim reason c s)) ∧
    (reason ≠ .preempted → reason ≠ .sourceLost → reason ≠ .reset → originTold false cl id s (endClaim reason c s)) ∧
    (reason = .reset → (endClaim reason c s).reports = s.reports) ∧
    keepsBut [.ring, .slots, .claims, .reports, .counters] s (endClaim reason c s)) ∧
  (∀ (c : ClaimId) (cl : Claim) (s : State), isDue (.holdTimeout c) s → claimAt s c = some cl → holdReached cl = true →
    ∃ u, carriesOut (.holdTimeout c) (.holdTimeout c) s u ∧ claimGone c s u ∧
      (s.control.mode ≠ .unaddressed → recorded .claimEnd c.val 1 s u) ∧
      counterOf u .holdTimeouts = saturatingSucc (counterOf s .holdTimeouts) ∧
      ((cl.owner = .management ∨ ∃ st, cl.owner = .station st) →
        u.peer = (releasePeers c s).peer ∧ u.ring = (releasePeers c s).ring) ∧
      keepsBut [.ring, .slots, .claims, .peer, .intercom, .alarm, .clips, .reports, .counters, .boundary] s u)

/-! ### Claims between nodes (chapter 6) -/

/-- The deadlines of outstanding entries, and their answers. A deadline reached in RESERVE-SENT, of a RESERVING claim
that does not wait for its commit or of a LIVE management claim, and in COMMIT-SENT, of a LIVE management claim, frees the
entry, sends one RELEASE and counts the timeout; of a LIVE claim that is a late failure, reported and counted (in
RESERVE-SENT after a BEST commit by log entry 19); in RELEASE-SENT the entry is freed and no frame is
sent. An ANSWER acts on the entry of its tag when it comes from the entry's peer, by the entry's state, here of a management
claim that does not wait for its commit: in RESERVE-SENT it reserves the entry, which sends COMMIT at once for a LIVE claim,
or frees it; in COMMIT-SENT it makes the entry LIVE, frees it or is ignored; an unsolicited PREEMPTED frees it; in
RELEASE-SENT every ANSWER frees it, one of kind 0 and another code without a count, which is the model's (log entry 19); any
other ANSWER is counted ANSWERS-IGNORED and changes nothing (R106, R107, R109, R110, R111). A change is due at the boundary
in progress as log entry 1 has it. -/
def Obligations.PeerDeadlines : Prop :=
  (∀ (t : TagId) (e : OutEntry) (s : State), entryAt s t = some e → reached e.deadline s.ring.period = true →
    (∀ cl, isDue (.reserveDeadline t) s → e.state = .reserveSent → claimAt s e.claim = some cl →
      cl.state = .reserving → cl.waiting = false → ∃ u, carriesOut (.reserveDeadline t) (.reserveDeadline t) s u ∧
        entryAt u t = none ∧ (∀ k, k ≠ t → entryAt u k = entryAt s k) ∧ u.peer = (freeEntry t s).peer ∧
        u.ring = (sendRelease t e.peer s).ring ∧
        counterOf u .peerTimeouts = saturatingSucc (counterOf s .peerTimeouts) ∧
        keepsBut [.ring, .peer, .counters, .boundary] s u) ∧
    (∀ cl, isDue (.reserveDeadline t) s → e.state = .reserveSent → claimAt s e.claim = some cl →
      cl.state = .live → cl.waiting = false → cl.owner = .management →
      ∃ u, carriesOut (.reserveDeadline t) (.reserveDeadline t) s u ∧
        entryAt u t = none ∧ (∀ k, k ≠ t → entryAt u k = entryAt s k) ∧ u.peer = (freeEntry t s).peer ∧
        u.ring = (sendRelease t e.peer s).ring ∧
        reportedOnce .claimPartial e.claim.val (liveEntries s e.claim) s u ∧
        counterOf u .peerTimeouts = saturatingSucc (counterOf s .peerTimeouts) ∧
        counterOf u .peersFailed = saturatingSucc (counterOf s .peersFailed) ∧
        keepsBut [.ring, .peer, .reports, .counters, .boundary] s u) ∧
    (∀ cl, isDue (.commitDeadline t) s → e.state = .commitSent → claimAt s e.claim = some cl →
      cl.state = .live → cl.waiting = false → cl.owner = .management →
      ∃ u, carriesOut (.commitDeadline t) (.commitDeadline t) s u ∧
        entryAt u t = none ∧ (∀ k, k ≠ t → entryAt u k = entryAt s k) ∧ u.peer = (freeEntry t s).peer ∧
        u.ring = (sendRelease t e.peer s).ring ∧
        reportedOnce .claimPartial e.claim.val (liveEntries s e.claim) s u ∧
        counterOf u .peerTimeouts = saturatingSucc (counterOf s .peerTimeouts) ∧
        counterOf u .peersFailed = saturatingSucc (counterOf s .peersFailed) ∧
        keepsBut [.ring, .peer, .reports, .counters, .boundary] s u) ∧
    (isDue (.releaseDeadline t) s → e.state = .releaseSent →
      ∃ u, carriesOut (.releaseDeadline t) (.releaseDeadline t) s u ∧
        entryAt u t = none ∧ (∀ k, k ≠ t → entryAt u k = entryAt s k) ∧ u.peer = (freeEntry t s).peer ∧
        keepsBut [.peer, .boundary] s u)) ∧
  (∀ (a : Answer) (s : State), (∀ t : TagId, ∀ e, t.val = a.tag → entryAt s t = some e → e.peer ≠ a.origin) →
    countsOne .answersIgnored s (takeAnswer a s) ∧ keepsBut [.counters] s (takeAnswer a s)) ∧
  (∀ (t : TagId) (e : OutEntry) (cl : Claim) (code : Nat) (s : State), entryAt s t = some e →
    claimAt s e.claim = some cl → cl.waiting = false → cl.owner = .management →
    (e.state = .reserveSent →
      (code ≤ 1 → cl.state = .reserving →
        (takeAnswer ⟨e.peer, t.val, 1, code⟩ s).peer =
          { s.peer with file := tset s.peer.file t (some { e with state := .reserved }) } ∧
        countsOne .peersReserved s (takeAnswer ⟨e.peer, t.val, 1, code⟩ s) ∧
        keepsBut [.peer, .counters] s (takeAnswer ⟨e.peer, t.val, 1, code⟩ s)) ∧
      (code ≤ 1 → cl.state = .live →
        (takeAnswer ⟨e.peer, t.val, 1, code⟩ s).peer = { s.peer with file := tset s.peer.file t (some { e with
          state := .commitSent
          deadline := s.ring.period + BitVec.ofNat 32 s.control.node.answerTimeout }) } ∧
        (takeAnswer ⟨e.peer, t.val, 1, code⟩ s).ring = (sendCommit t e.peer s).ring ∧
        counterOf (takeAnswer ⟨e.peer, t.val, 1, code⟩ s) .peersReserved = saturatingSucc (counterOf s .peersReserved) ∧
        keepsBut [.ring, .peer, .counters] s (takeAnswer ⟨e.peer, t.val, 1, code⟩ s)) ∧
      (1 < code → cl.state = .reserving →
        (takeAnswer ⟨e.peer, t.val, 1, code⟩ s).peer = (freeEntry t s).peer ∧
        countsOne .peersRefused s (takeAnswer ⟨e.peer, t.val, 1, code⟩ s) ∧
        keepsBut [.peer, .counters] s (takeAnswer ⟨e.peer, t.val, 1, code⟩ s)) ∧
      (1 < code → cl.state = .live →
        (takeAnswer ⟨e.peer, t.val, 1, code⟩ s).peer = (freeEntry t s).peer ∧
        reportedOnce .claimPartial e.claim.val (liveEntries s e.claim) s (takeAnswer ⟨e.peer, t.val, 1, code⟩ s) ∧
        counterOf (takeAnswer ⟨e.peer, t.val, 1, code⟩ s) .peersRefused = saturatingSucc (counterOf s .peersRefused) ∧
        counterOf (takeAnswer ⟨e.peer, t.val, 1, code⟩ s) .peersFailed = saturatingSucc (counterOf s .peersFailed) ∧
        keepsBut [.peer, .reports, .counters] s (takeAnswer ⟨e.peer, t.val, 1, code⟩ s))) ∧
    (e.state = .commitSent → cl.state = .live →
      (code ≤ 1 →
        (takeAnswer ⟨e.peer, t.val, 2, code⟩ s).peer =
          { s.peer with file := tset s.peer.file t (some { e with state := .live }) } ∧
        countsOne .peersLive s (takeAnswer ⟨e.peer, t.val, 2, code⟩ s) ∧
        keepsBut [.peer, .counters] s (takeAnswer ⟨e.peer, t.val, 2, code⟩ s)) ∧
      (code = 2 ∨ code = 6 →
        (takeAnswer ⟨e.peer, t.val, 2, code⟩ s).peer = (freeEntry t s).peer ∧
        reportedOnce .claimPartial e.claim.val (liveEntries s e.claim) s (takeAnswer ⟨e.peer, t.val, 2, code⟩ s) ∧
        counterOf (takeAnswer ⟨e.peer, t.val, 2, code⟩ s) .peersFailed = saturatingSucc (counterOf s .peersFailed) ∧
        countsBut [.peersFailed, .reportsCoalesced, .reportsDropped] s (takeAnswer ⟨e.peer, t.val, 2, code⟩ s) ∧
        keepsBut [.peer, .reports, .counters] s (takeAnswer ⟨e.peer, t.val, 2, code⟩ s)) ∧
      (1 < code → code ≠ 2 → code ≠ 6 → countsOne .answersIgnored s (takeAnswer ⟨e.peer, t.val, 2, code⟩ s) ∧
        keepsBut [.counters] s (takeAnswer ⟨e.peer, t.val, 2, code⟩ s))) ∧
    (e.state ≠ .releaseSent →
      (cl.state = .reserving → (takeAnswer ⟨e.peer, t.val, 0, 7⟩ s).peer = (freeEntry t s).peer ∧
        countsOne .unsolicitedPreempted s (takeAnswer ⟨e.peer, t.val, 0, 7⟩ s) ∧
        keepsBut [.peer, .counters] s (takeAnswer ⟨e.peer, t.val, 0, 7⟩ s)) ∧
      (cl.state = .live → (takeAnswer ⟨e.peer, t.val, 0, 7⟩ s).peer = (freeEntry t s).peer ∧
        reportedOnce .claimPartial e.claim.val (liveEntries s e.claim) s (takeAnswer ⟨e.peer, t.val, 0, 7⟩ s) ∧
        counterOf (takeAnswer ⟨e.peer, t.val, 0, 7⟩ s) .unsolicitedPreempted =
          saturatingSucc (counterOf s .unsolicitedPreempted) ∧
        counterOf (takeAnswer ⟨e.peer, t.val, 0, 7⟩ s) .peersFailed = saturatingSucc (counterOf s .peersFailed) ∧
        keepsBut [.peer, .reports, .counters] s (takeAnswer ⟨e.peer, t.val, 0, 7⟩ s)) ∧
      (∀ kind, (kind = 0 ∧ code ≠ 7) ∨ (kind ≠ 0 ∧ ¬(e.state = .reserveSent ∧ kind = 1) ∧
          ¬(e.state = .commitSent ∧ kind = 2)) →
        countsOne .answersIgnored s (takeAnswer ⟨e.peer, t.val, kind, code⟩ s) ∧
        keepsBut [.counters] s (takeAnswer ⟨e.peer, t.val, kind, code⟩ s)))) ∧
  (∀ (t : TagId) (e : OutEntry) (kind code : Nat) (s : State), entryAt s t = some e → e.state = .releaseSent →
    (takeAnswer ⟨e.peer, t.val, kind, code⟩ s).peer = (freeEntry t s).peer ∧
    (kind = 0 → code = 7 → countsOne .unsolicitedPreempted s (takeAnswer ⟨e.peer, t.val, kind, code⟩ s)) ∧
    (kind ≠ 0 ∨ code ≠ 7 → (takeAnswer ⟨e.peer, t.val, kind, code⟩ s).counters = s.counters) ∧
    keepsBut [.peer, .counters] s (takeAnswer ⟨e.peer, t.val, kind, code⟩ s))

/-- The peer unit takes the oldest waiting RESERVE into service: NO-GROUP and NO-SLOT answers, or the lowest free DYNAMIC
slot bound to the audio reference and a start request offered; a full request queue makes the answer BUSY and unbinds the
slot. A CLAIM frame that is malformed is counted alone. A RESERVE joins the inbound claim queue, or is answered BUSY where
eight wait. A COMMIT is answered GONE without an inbound claim of its origin and tag, GRANTED or PARTIAL of a claim that has
committed already, and makes the commit test of one that waits for it. A RELEASE ends the RESERVE in service, the one that
waits or the inbound claim, in this order, and is answered GRANTED, or GONE without one; the zones granted in the answer
that ends a claim are a constant without a value (log entry 6), and which of two waiting RESERVEs of one origin and tag a
RELEASE removes is the model's (log entry 34). An ANSWER goes to the outstanding entry of its tag (R105,
R112, R113, R115, R116). -/
def Obligations.ReserveService : Prop :=
  (∀ (r : InReserve) (rest : List InReserve) (s : State), quiet s → running s = true → s.peer.service = none →
    s.peer.inbound = r :: rest → inboundClaim s r.origin r.tag = none →
    (reserveGroup s r = none → ∃ t, exec .reserveService s = .next t ∧ t.peer = { s.peer with inbound := rest } ∧
      t.ring = (sendAnswer r.origin r.tag 1 .noGroup 0 0 s).ring ∧ keepsBut [.ring, .peer, .counters] s t) ∧
    (∀ g, reserveGroup s r = some g →
      (freeDynamicSlot s = none → ∃ t, exec .reserveService s = .next t ∧ t.peer = { s.peer with inbound := rest } ∧
        t.ring = (sendAnswer r.origin r.tag 1 .noSlot 0 0 s).ring ∧ keepsBut [.ring, .peer, .counters] s t) ∧
      (∀ i, freeDynamicSlot s = some i →
        (s.claims.queue.length < 14 → ∃ t, exec .reserveService s = .next t ∧
          t.peer = { s.peer with inbound := rest, service := some ⟨r, i⟩ } ∧
          tget t.slots i = boundSlot (.ring r.audioOrigin r.audioBundle r.audioChannel) (tget s.slots i) ∧
          (∀ j, j ≠ i → tget t.slots j = tget s.slots j) ∧
          t.claims = { s.claims with queue := s.claims.queue ++ [.start (inboundRequest r g i)] } ∧
          keepsBut [.slots, .claims, .peer] s t) ∧
        (14 ≤ s.claims.queue.length → ∃ t, exec .reserveService s = .next t ∧
          t.peer = { s.peer with inbound := rest } ∧ tget t.slots i = unboundSlot (tget s.slots i) ∧
          (∀ j, j ≠ i → tget t.slots j = tget s.slots j) ∧
          t.ring = (sendAnswer r.origin r.tag 1 .busy 0 0 s).ring ∧
          counterOf t .requestsBusy = saturatingSucc (counterOf s .requestsBusy) ∧
          keepsBut [.ring, .slots, .peer, .counters] s t)))) ∧
  (∀ (origin dest : Nat) (payload : List Byte) (s : State),
    (dest = 255 ∨ byteAt payload 0 = 0 ∨ 4 < byteAt payload 0 ∨ (byteAt payload 0 = 1 ∧ payload.length < 11) ∨
        (byteAt payload 0 = 4 ∧ payload.length < 6) ∨ payload.length < 4 →
      countsOne .claimMalformed s (takeClaimFrame origin dest payload s) ∧
        keepsBut [.counters] s (takeClaimFrame origin dest payload s)) ∧
    (dest ≠ 255 → byteAt payload 0 = 1 → 11 ≤ payload.length →
      (s.peer.inbound.length < 8 →
        (takeClaimFrame origin dest payload s).peer =
          { s.peer with inbound := s.peer.inbound ++ [reserveOf origin payload] } ∧
        keepsBut [.peer] s (takeClaimFrame origin dest payload s)) ∧
      (8 ≤ s.peer.inbound.length →
        (takeClaimFrame origin dest payload s).ring = (sendAnswer origin (byteAt payload 1) 1 .busy 0 0 s).ring ∧
        counterOf (takeClaimFrame origin dest payload s) .inboundBusy = saturatingSucc (counterOf s .inboundBusy) ∧
        keepsBut [.ring, .counters] s (takeClaimFrame origin dest payload s))) ∧
    (dest ≠ 255 → byteAt payload 0 = 2 → 4 ≤ payload.length →
      (inboundClaim s origin (byteAt payload 1) = none →
        takeClaimFrame origin dest payload s = sendAnswer origin (byteAt payload 1) 2 .gone 0 0 s) ∧
      (∀ c cl, inboundClaim s origin (byteAt payload 1) = some c → claimAt s c = some cl →
        (cl.waiting = false → takeClaimFrame origin dest payload s = sendAnswer origin (byteAt payload 1) 2
          (if (zonesOf cl.target).length ≤ liveEntries s c then .granted else .partialGrant) (liveEntries s c)
          (zonesOf cl.target).length s) ∧
        (cl.waiting = true → cl.policy = .all → cl.handed = 0 → entriesOf s c (fun _ => true) = [] →
          playerOfSlot cl.slot = none →
          (allIntact s c cl = true →
            claimAt (takeClaimFrame origin dest payload s) c = some { cl with waiting := false, state := .live } ∧
            (∀ d, d ≠ c → claimAt (takeClaimFrame origin dest payload s) d = claimAt s d) ∧
            (∀ z, listOf (takeClaimFrame origin dest payload s) z =
              (listOf s z).map fun e => if e.claim = c then { e with live := true } else e) ∧
            counterOf (takeClaimFrame origin dest payload s) .commitsDone = saturatingSucc (counterOf s .commitsDone) ∧
            (takeClaimFrame origin dest payload s).ring = (sendAnswer origin (byteAt payload 1) 2 .granted
              (liveEntries (takeClaimFrame origin dest payload s) c) (zonesOf cl.target).length s).ring ∧
            keepsBut [.ring, .claims, .reports, .counters] s (takeClaimFrame origin dest payload s)) ∧
          (allIntact s c cl = false →
            claimGone c s (takeClaimFrame origin dest payload s) ∧
            counterOf (takeClaimFrame origin dest payload s) .commitsRefused =
              saturatingSucc (counterOf s .commitsRefused) ∧
            tget (takeClaimFrame origin dest payload s).slots cl.slot = unboundSlot (tget s.slots cl.slot) ∧
            (takeClaimFrame origin dest payload s).ring = (sendAnswer origin (byteAt payload 1) 2 .refused 0
              (zonesOf cl.target).length s).ring ∧
            keepsBut [.ring, .slots, .claims, .reports, .counters] s (takeClaimFrame origin dest payload s))))) ∧
    (dest ≠ 255 → byteAt payload 0 = 3 → 4 ≤ payload.length →
      (∀ v, s.peer.service = some v → v.reserve.origin = origin → v.reserve.tag = byteAt payload 1 →
        (takeClaimFrame origin dest payload s).peer = { s.peer with service := none } ∧
        (takeClaimFrame origin dest payload s).claims =
          { s.claims with queue := s.claims.queue.eraseP (requestOf (.peer origin (byteAt payload 1))) } ∧
        tget (takeClaimFrame origin dest payload s).slots v.slot = unboundSlot (tget s.slots v.slot) ∧
        (takeClaimFrame origin dest payload s).ring = (sendAnswer origin (byteAt payload 1) 3 .granted 0 0 s).ring ∧
        keepsBut [.ring, .slots, .claims, .peer, .counters] s (takeClaimFrame origin dest payload s)) ∧
      ((∀ v, s.peer.service = some v → v.reserve.origin ≠ origin ∨ v.reserve.tag ≠ byteAt payload 1) →
        (∀ before r after, s.peer.inbound = before ++ r :: after → r.origin = origin → r.tag = byteAt payload 1 →
          (∀ x ∈ before, x.origin ≠ origin ∨ x.tag ≠ byteAt payload 1) →
          (takeClaimFrame origin dest payload s).peer = { s.peer with inbound := before ++ after } ∧
          (takeClaimFrame origin dest payload s).ring = (sendAnswer origin (byteAt payload 1) 3 .granted 0 0 s).ring ∧
          keepsBut [.ring, .peer, .counters] s (takeClaimFrame origin dest payload s)) ∧
        ((∀ x ∈ s.peer.inbound, x.origin ≠ origin ∨ x.tag ≠ byteAt payload 1) →
          (∀ c cl, inboundClaim s origin (byteAt payload 1) = some c → claimAt s c = some cl →
            claimGone c s (takeClaimFrame origin dest payload s) ∧
            (s.control.mode ≠ .unaddressed → recorded .claimEnd c.val 0 s (takeClaimFrame origin dest payload s)) ∧
            tget (takeClaimFrame origin dest payload s).slots cl.slot = unboundSlot (tget s.slots cl.slot) ∧
            (takeClaimFrame origin dest payload s).ring = (sendAnswer origin (byteAt payload 1) 3 .granted
              (Config.releaseGranted (zonesOf cl.target).length).val (zonesOf cl.target).length s).ring ∧
            keepsBut [.ring, .slots, .claims, .reports, .counters] s (takeClaimFrame origin dest payload s)) ∧
          (inboundClaim s origin (byteAt payload 1) = none →
            takeClaimFrame origin dest payload s = sendAnswer origin (byteAt payload 1) 3 .gone 0 0 s)))) ∧
    (dest ≠ 255 → byteAt payload 0 = 4 → 6 ≤ payload.length → takeClaimFrame origin dest payload s =
      takeAnswer ⟨origin, byteAt payload 1, byteAt payload 2, byteAt payload 3⟩ s))

/-! ### Crew stations (chapter 7) -/

/-- A scan begins: the ring deadline of every ringing call and every running flash timer counts one, what reaches 0 falls
due as a row of its own, and station 0 is polled; where nothing falls due, with its lamps and ringer as they stand. A poll
carries the lamp of each key and the ringer flag. A lamp is FLASH-FAST while the key's flash timer runs, and at 0 it is
given by the key's function: a CALL key's by the POINT call of the two stations, FLASH-SLOW while it is RINGING and ON while
it is CONNECTED; an ANSWER key's FLASH-FAST while the station is RINGING; an END key's ON in a call; a JOIN key's ON in its
conference; a PAGE key's FLASH-SLOW while its request waits or its claim is RESERVING, and ON while it is LIVE; an alarm
key's ON while its program is in the alarm request list; and OFF otherwise (R121, R130, R139). A change is due at the
boundary in progress as log entry 1 has it. -/
def Obligations.ScanStarts : Prop :=
  (∀ (st : StationId) (k : KeyId) (s : State),
    tget (pollNow s st).lamps k = lampOf s st k ∧ (pollNow s st).ringer = (stationOf s st).ringer ∧
    (0 < tget (stationOf s st).flash k → lampOf s st k = .flashFast) ∧
    (tget (stationOf s st).flash k = 0 →
      (tget (tget s.intercom.keymap st) k = .none → lampOf s st k = .off) ∧
      (∀ b, tget (tget s.intercom.keymap st) k = .call b →
        (∀ i c m, callOf s st = some (i, c, m) → c.kind = .point → (∃ x ∈ c.members, x.1.val = b) →
          lampOf s st k = if c.connected then .on else .flashSlow) ∧
        ((∀ i c m, callOf s st = some (i, c, m) → c.kind ≠ .point ∨ ∀ x ∈ c.members, x.1.val ≠ b) →
          lampOf s st k = .off)) ∧
      (tget (tget s.intercom.keymap st) k = .answer →
        ((∃ i c, callOf s st = some (i, c, .ringing)) → lampOf s st k = .flashFast) ∧
        ((∀ i c, callOf s st ≠ some (i, c, .ringing)) → lampOf s st k = .off)) ∧
      (tget (tget s.intercom.keymap st) k = .endCall → lampOf s st k = if (callOf s st).isSome then .on else .off) ∧
      (∀ n, tget (tget s.intercom.keymap st) k = .join n →
        ((∃ i c m, callOf s st = some (i, c, m) ∧ c.kind = .conf n) → lampOf s st k = .on) ∧
        ((∀ i c m, callOf s st = some (i, c, m) → c.kind ≠ .conf n) → lampOf s st k = .off)) ∧
      (∀ g p mode policy chime latch, tget (tget s.intercom.keymap st) k = .page g p mode policy chime latch →
        (∀ l, (stationOf s st).page = some ⟨k, l, none⟩ → lampOf s st k = .flashSlow) ∧
        (∀ l c cl, (stationOf s st).page = some ⟨k, l, some c⟩ → claimAt s c = some cl →
          lampOf s st k = if cl.state = .live then .on else .flashSlow) ∧
        ((∀ x, (stationOf s st).page = some x → x.key ≠ k) → lampOf s st k = .off)) ∧
      (∀ p : ProgramId, ((∃ g, tget (tget s.intercom.keymap st) k = .alarmStart p.val g) ∨
          tget (tget s.intercom.keymap st) k = .alarmStop p.val) →
        ((∃ e ∈ s.alarm.list, e.program = p) → lampOf s st k = .on) ∧
        ((∀ e ∈ s.alarm.list, e.program ≠ p) → lampOf s st k = .off)))) ∧
  ∀ s : State, isDue .scanStart s → ∃ u, exec .scanStart s = .next (closeIfDone u) ∧
    u.boundary = { s.boundary with
      due := s.boundary.due.erase .scanStart ++ (ringsOut s ++ flashesOut s)
      seen := s.boundary.seen ++ [mixView s] } ∧
    (∀ i c, callAt s i = some c → c.connected = false →
      callAt u i = some { c with deadline := c.deadline - 1 } ∧ (c.deadline = 1 → isDue (.callNoAnswer i) u)) ∧
    (∀ i c, callAt s i = some c → c.connected = true → callAt u i = some c) ∧
    (∀ st k, tget (stationOf s st).flash k = 1 → tget (stationOf u st).flash k = 1 ∧ isDue (.flashTimer st k) u) ∧
    (∀ st k n, tget (stationOf s st).flash k = n + 2 → tget (stationOf u st).flash k = n + 1) ∧
    (ringsOut s = [] → flashesOut s = [] → (stationOf u 0).poll = pollNow s 0) ∧
    keepsBut [.intercom, .boundary] s u

/-- The outcomes of a poll. An answer makes an ABSENT station PRESENT with its keys as they are; of a PRESENT one it clears
the missed-scan count, and each key in turn goes to debounce: a key that differs waits for the next answer, which makes the
event, a PRESS or a RELEASE of the key as it is now, or counts a bounce. A miss of
a PRESENT station is counted and drops its pending changes, and the third makes its absence due (R121, R122, R124). That the
absence is a change due, carried out by its own command before any other, is the model's (log entry 1). -/
def Obligations.PollOutcomes : Prop :=
  (∀ (st : StationId) (keys : Vector Bool 8) (s : State), quiet s → running s = true → (stationOf s st).present = true →
    ∃ u, exec (.pollAnswer st keys) s = .next (pollNext st (forEach (everyFin 8) (debounceKey st keys) u)) ∧
      stationOf u st = { stationOf s st with missed := 0 } ∧ (∀ x, x ≠ st → stationOf u x = stationOf s x) ∧
      u.intercom = { s.intercom with stations := u.intercom.stations } ∧ keepsBut [.intercom] s u) ∧
  (∀ (st : StationId) (keys : Vector Bool 8) (k : KeyId) (s : State),
    ((tget (stationOf s st).keys k).pending = false → tget keys k = (tget (stationOf s st).keys k).down →
      debounceKey st keys k s = s) ∧
    (¬((tget (stationOf s st).keys k).pending = false ∧ tget keys k = (tget (stationOf s st).keys k).down) → ∃ u,
      stationOf u st = { stationOf s st with
        keys := tset (stationOf s st).keys k (if (tget (stationOf s st).keys k).pending then ⟨tget keys k, false⟩
          else ⟨(tget (stationOf s st).keys k).down, true⟩) } ∧
      (∀ x, x ≠ st → stationOf u x = stationOf s x) ∧ u.intercom = { s.intercom with stations := u.intercom.stations } ∧
      keepsBut [.intercom, .counters] s u ∧
      ((tget (stationOf s st).keys k).pending = false → u.counters = s.counters ∧ debounceKey st keys k s = u) ∧
      ((tget (stationOf s st).keys k).pending = true →
        (tget keys k = (tget (stationOf s st).keys k).down → countsOne .keyBounces s u ∧ debounceKey st keys k s = u) ∧
        (tget keys k ≠ (tget (stationOf s st).keys k).down → countsOne .keyEvents s u ∧
          debounceKey st keys k s = if tget keys k then pressKey st k u else releaseKey st k u)))) ∧
  ∀ (st : StationId) (s : State), quiet s → running s = true →
    (∀ keys, (stationOf s st).present = false → ∃ t, exec (.pollAnswer st keys) s = .next t ∧
      stationOf t st = { stationOf s st with
        present := true
        missed := 0
        keys := tmap (fun _ b => ⟨b, false⟩) keys } ∧
      (∀ x, x ≠ st → sameButPoll (stationOf s x) (stationOf t x)) ∧ reportedOnce .stationPresence st.val 1 s t ∧
      keepsBut [.intercom, .reports, .counters] s t) ∧
    (∀ keys, (stationOf s st).present = true → (∀ k, (tget (stationOf s st).keys k).pending = false) →
      ∃ t, exec (.pollAnswer st keys) s = .next t ∧
        stationOf t st = { stationOf s st with
          missed := 0
          keys := tmap (fun k (x : KeyState) => ⟨x.down, tget keys k != x.down⟩) (stationOf s st).keys } ∧
        (∀ x, x ≠ st → sameButPoll (stationOf s x) (stationOf t x)) ∧ keepsBut [.intercom] s t) ∧
    (∀ keys k, (stationOf s st).present = true → (tget (stationOf s st).keys k).pending = true →
      (∀ j, j ≠ k → (tget (stationOf s st).keys j).pending = false ∧ tget keys j = (tget (stationOf s st).keys j).down) →
      (tget keys k = (tget (stationOf s st).keys k).down → ∃ t, exec (.pollAnswer st keys) s = .next t ∧
        stationOf t st = { stationOf s st with
          missed := 0
          keys := tset (stationOf s st).keys k ⟨tget keys k, false⟩ } ∧
        countsOne .keyBounces s t ∧ keepsBut [.intercom, .counters] s t) ∧
      (tget keys k ≠ (tget (stationOf s st).keys k).down → tget (tget s.intercom.keymap st) k = .none →
        (stationOf s st).page = none → ∃ t, exec (.pollAnswer st keys) s = .next t ∧
          stationOf t st = { stationOf s st with
            missed := 0
            keys := tset (stationOf s st).keys k ⟨tget keys k, false⟩ } ∧
          countsOne .keyEvents s t ∧ keepsBut [.intercom, .counters] s t)) ∧
    ((stationOf s st).present = false → ∃ t, exec (.missedScan st) s = .next t ∧
      (∀ x, sameButPoll (stationOf s x) (stationOf t x)) ∧ countsOne (.missedScans st) s t ∧
      keepsBut [.intercom, .counters] s t) ∧
    ((stationOf s st).present = true → (stationOf s st).missed ≤ 2 → ∃ t, exec (.missedScan st) s = .next t ∧
      stationOf t st = { stationOf s st with
        missed := (stationOf s st).missed + 1
        keys := tmap (fun _ (x : KeyState) => ⟨x.down, false⟩) (stationOf s st).keys } ∧
      (∀ x, x ≠ st → sameButPoll (stationOf s x) (stationOf t x)) ∧
      t.boundary.due = (if (stationOf s st).missed = 2 then [.stationAbsent st] else []) ∧
      counterOf t (.missedScans st) = saturatingSucc (counterOf s (.missedScans st)) ∧
      countsBut [.missedScans st, .keyBounces] s t ∧ keepsBut [.intercom, .counters, .boundary] s t)

/-- What a PRESS of a key does by the key's function, for a station with no page of that key. CALL takes the lowest free
call record, the caller CALLING and the called station RINGING, or is refused IN-CALL, TARGET or NO-RECORD. ANSWER connects
the call in which the station is RINGING. END ends a two-party call, REJECTED by a RINGING station and ENDED otherwise, and
leaves a conference, which ends with its last member. JOIN enters the conference of its number, begins it, or is refused
IN-CALL, CONF-FULL or NO-RECORD. PAGE offers a start request and keeps the key, or is refused PAGE-BUSY; the LATCH key's
next PRESS and the HOLD key's RELEASE end the page. An alarm key acts with alarm authority, its flash timer set when the
sequencer refuses, and is refused NO-AUTHORITY without it. A refused PRESS sets the key's flash timer, is reported
KEY-REFUSED with its reason and counted KEYS-REFUSED; an ANSWER or END that finds nothing to act on is counted KEYS-IGNORED;
a key without function does nothing (R127, R128, R129, R130, R131, R132, R135, R136, R137). -/
def Obligations.KeysPressed : Prop :=
  ∀ (a : StationId) (k : KeyId) (s : State),
    (pageOfKey s a k true = false →
      (tget (tget s.intercom.keymap a) k = .none → pressKey a k s = s) ∧
      (∀ b : StationId, tget (tget s.intercom.keymap a) k = .call b.val →
        (∀ i, callOf s a = none → b ≠ a → (stationOf s b).present = true → callOf s b = none → freeCall s = some i →
          callAt (pressKey a k s) i = some ⟨.point, false, [(a, .calling), (b, .ringing)], s.control.node.ringLimit⟩ ∧
          (∀ j, j ≠ i → callAt (pressKey a k s) j = callAt s j) ∧
          stationOf (pressKey a k s) b = { stationOf s b with ringer := true } ∧
          (∀ x, x ≠ b → stationOf (pressKey a k s) x = stationOf s x) ∧ countsOne .callsStarted s (pressKey a k s) ∧
          keepsBut [.intercom, .counters] s (pressKey a k s)) ∧
        (callOf s a ≠ none → pressRefused a k 0 s (pressKey a k s)) ∧
        (callOf s a = none → b = a ∨ (stationOf s b).present = false ∨ callOf s b ≠ none →
          pressRefused a k 1 s (pressKey a k s)) ∧
        (callOf s a = none → b ≠ a → (stationOf s b).present = true → callOf s b = none → freeCall s = none →
          pressRefused a k 2 s (pressKey a k s))) ∧
      (tget (tget s.intercom.keymap a) k = .answer →
        (∀ i c, callOf s a = some (i, c, .ringing) →
          callAt (pressKey a k s) i = some { c with
            connected := true
            members := c.members.map fun m => (m.1, if hasPageClaim s m.1 then .held else .within)
            deadline := 0 } ∧
          (∀ j, j ≠ i → callAt (pressKey a k s) j = callAt s j) ∧
          stationOf (pressKey a k s) a = { stationOf s a with ringer := false } ∧
          (∀ x, x ≠ a → stationOf (pressKey a k s) x = stationOf s x) ∧ countsOne .callsConnected s (pressKey a k s) ∧
          keepsBut [.intercom, .counters] s (pressKey a k s)) ∧
        ((∀ i c, callOf s a ≠ some (i, c, .ringing)) → countsOne .keysIgnored s (pressKey a k s) ∧
          keepsBut [.counters] s (pressKey a k s))) ∧
      (tget (tget s.intercom.keymap a) k = .endCall →
        (callOf s a = none → countsOne .keysIgnored s (pressKey a k s) ∧ keepsBut [.counters] s (pressKey a k s)) ∧
        (∀ i c m, callOf s a = some (i, c, m) →
          (c.kind = .point → callAt (pressKey a k s) i = none ∧
            (∀ j, j ≠ i → callAt (pressKey a k s) j = callAt s j) ∧
            (∀ x, stationOf (pressKey a k s) x = { stationOf s x with
              ringer := (stationOf s x).ringer && !c.members.any fun m => m.1 == x && m.2 == .ringing }) ∧
            reportedOnce .callEnd i.val (if m = .ringing then 1 else 0) s (pressKey a k s) ∧
            keepsBut [.intercom, .reports, .counters] s (pressKey a k s)) ∧
          (∀ n, c.kind = .conf n → (∃ x ∈ c.members, x.1 ≠ a) →
            callAt (pressKey a k s) i = some { c with members := c.members.filter fun x => x.1 != a } ∧
            (∀ j, j ≠ i → callAt (pressKey a k s) j = callAt s j) ∧
            (∀ x, stationOf (pressKey a k s) x = stationOf s x) ∧ keepsBut [.intercom] s (pressKey a k s)) ∧
          (∀ n, c.kind = .conf n → (∀ x ∈ c.members, x.1 = a) →
            callAt (pressKey a k s) i = none ∧ (∀ j, j ≠ i → callAt (pressKey a k s) j = callAt s j) ∧
            (∀ x, stationOf (pressKey a k s) x = stationOf s x) ∧ reportedOnce .callEnd i.val 0 s (pressKey a k s) ∧
            keepsBut [.intercom, .reports, .counters] s (pressKey a k s)))) ∧
      (∀ n, tget (tget s.intercom.keymap a) k = .join n →
        (callOf s a ≠ none → pressRefused a k 0 s (pressKey a k s)) ∧
        (∀ i c, callOf s a = none → conference s n = some (i, c) →
          (6 ≤ c.members.length → pressRefused a k 3 s (pressKey a k s)) ∧
          (c.members.length < 6 →
            callAt (pressKey a k s) i = some { c with
              members := c.members ++ [(a, if hasPageClaim s a then .held else .within)] } ∧
            (∀ j, j ≠ i → callAt (pressKey a k s) j = callAt s j) ∧
            (∀ x, stationOf (pressKey a k s) x = stationOf s x) ∧ keepsBut [.intercom] s (pressKey a k s))) ∧
        (callOf s a = none → conference s n = none → freeCall s = none → pressRefused a k 2 s (pressKey a k s)) ∧
        (∀ i, callOf s a = none → conference s n = none → freeCall s = some i →
          callAt (pressKey a k s) i = some ⟨.conf n, true, [(a, if hasPageClaim s a then .held else .within)], 0⟩ ∧
          (∀ j, j ≠ i → callAt (pressKey a k s) j = callAt s j) ∧
          (∀ x, stationOf (pressKey a k s) x = stationOf s x) ∧ countsOne .callsStarted s (pressKey a k s) ∧
          keepsBut [.intercom, .counters] s (pressKey a k s))) ∧
      (∀ (g : GroupId) (priority : Nat) (mode : ClaimMode) (policy : Policy) (chime latch : Bool),
        tget (tget s.intercom.keymap a) k = .page g.val priority mode policy chime latch →
        ((stationOf s a).page ≠ none → pressRefused a k 5 s (pressKey a k s)) ∧
        ((stationOf s a).page = none → running s = true → s.claims.queue.length < 14 →
          stationOf (pressKey a k s) a = { stationOf s a with page := some ⟨k, latch, none⟩ } ∧
          (∀ x, x ≠ a → stationOf (pressKey a k s) x = stationOf s x) ∧
          (pressKey a k s).claims = { s.claims with queue := s.claims.queue ++ [.start
            { owner := .station a
              priority := min priority (stationOf s a).cfg.maxPriority
              rank := 0
              mode := mode
              policy := policy
              chime := chime
              slot := none
              target := .group g
              hold := (stationOf s a).cfg.holdSeconds * 1000
              framed := false }] } ∧
          countsOne .pagesRequested s (pressKey a k s) ∧ keepsBut [.claims, .intercom, .counters] s (pressKey a k s)) ∧
        ((stationOf s a).page = none → 14 ≤ s.claims.queue.length →
          stationOf (pressKey a k s) a = { stationOf s a with flash := tset (stationOf s a).flash k 250 } ∧
          (∀ x, x ≠ a → stationOf (pressKey a k s) x = stationOf s x) ∧
          reportedOnce .keyRefused (a.val * 8 + k.val) 5 s (pressKey a k s) ∧
          counterOf (pressKey a k s) .keysRefused = saturatingSucc (counterOf s .keysRefused) ∧
          counterOf (pressKey a k s) .pagesRequested = saturatingSucc (counterOf s .pagesRequested) ∧
          counterOf (pressKey a k s) .requestsBusy = saturatingSucc (counterOf s .requestsBusy) ∧
          keepsBut [.intercom, .reports, .counters] s (pressKey a k s))) ∧
      (∀ (p : ProgramId) (g : Nat), tget (tget s.intercom.keymap a) k = .alarmStart p.val g →
        (hasAuthority s a = false → pressRefused a k 4 s (pressKey a k s)) ∧
        (hasAuthority s a = true →
          ((startAlarm p g s).1 = none → pressKey a k s = (startAlarm p g s).2) ∧
          (∀ r, (startAlarm p g s).1 = some r → pressKey a k s = flashKey a k (startAlarm p g s).2))) ∧
      (∀ p : ProgramId, tget (tget s.intercom.keymap a) k = .alarmStop p.val →
        (hasAuthority s a = false → pressRefused a k 4 s (pressKey a k s)) ∧
        (hasAuthority s a = true →
          ((stopAlarm p s).1 = none → pressKey a k s = (stopAlarm p s).2) ∧
          (alarmEntry s p = none →
            stationOf (pressKey a k s) a = { stationOf s a with flash := tset (stationOf s a).flash k 250 } ∧
            reportedOnce .alarmRefused p.val 3 s (pressKey a k s) ∧
            counterOf (pressKey a k s) .alarmRefusals = saturatingSucc (counterOf s .alarmRefusals) ∧
            keepsBut [.intercom, .reports, .counters] s (pressKey a k s))))) ∧
    (hasAuthority s a = true ↔ (stationOf s a).cfg.alarmAuthority = true ∨
      ((stationOf s a).cfg.standaloneAuthority = true ∧ s.control.mode = .standalone)) ∧
    (∀ latch, pageOfKey s a k latch = true → ∃ t,
      (latch = true → pressKey a k s = t) ∧ (latch = false → releaseKey a k s = t) ∧
      (stationOf t a).page = none ∧
      ((stationOf s a).page = some ⟨k, latch, none⟩ →
        t.claims = { s.claims with queue := s.claims.queue.eraseP (requestOf (.station a)) } ∧
        keepsBut [.claims, .intercom] s t) ∧
      (∀ c cl, (stationOf s a).page = some ⟨k, latch, some c⟩ → claimAt s c = some cl → cl.owner = .station a →
        claimGone c s t ∧ (s.control.mode ≠ .unaddressed → recorded .claimEnd c.val 0 s t) ∧
        tget t.slots cl.slot = unboundSlot (tget s.slots cl.slot) ∧
        keepsBut [.ring, .slots, .claims, .peer, .intercom, .reports, .counters] s t)) ∧
    (pageOfKey s a k false = false → releaseKey a k s = s)

/-- A station with three missed scans becomes ABSENT: ringer off, flash timers 0, a silent microphone block, a report, and
the end LOST of a two-party call that it is in; it leaves a conference that has other members, and one without others ends
LOST. Its page request that waits is withdrawn, and its page claim ends SOURCE-LOST: its slot is unbound, and its peers are
released. A call that rings out ends NO-ANSWER. A flash timer that runs out changes itself alone (R122, R123, R130, R133,
R134, R136, R139). The reports of the end of its page claim are made before the CALL-END report, and this one before the
STATION-PRESENCE report of the same change, which is the model's order (log entry 12). A change is due at the boundary in
progress as log entry 1 has it. -/
def Obligations.StationChanges : Prop :=
  (∀ (st : StationId) (s : State), isDue (.stationAbsent st) s → (stationOf s st).present = true →
    (stationOf s st).missed = 3 → (stationOf s st).page = none →
    (callOf s st = none → ∃ u, carriesOut (.stationAbsent st) (.stationAbsent st) s u ∧
      stationOf u st = { stationOf s st with
        present := false
        ringer := false
        flash := Vector.replicate 8 0
        mic := silence } ∧
      (∀ x, x ≠ st → sameButPoll (stationOf s x) (stationOf u x)) ∧ (∀ i, callAt u i = callAt s i) ∧
      reportedOnce .stationPresence st.val 0 s u ∧ keepsBut [.intercom, .reports, .counters, .boundary] s u) ∧
    (∀ i c m, callOf s st = some (i, c, m) → c.kind = .point →
      ∃ u, carriesOut (.stationAbsent st) (.stationAbsent st) s u ∧ (stationOf u st).present = false ∧
        callAt u i = none ∧ (∀ j, j ≠ i → callAt u j = callAt s j) ∧
        u.reports = (report .stationPresence st.val 0 (report .callEnd i.val 3 s)).reports ∧
        keepsBut [.intercom, .reports, .counters, .boundary] s u) ∧
    (∀ i c m n, callOf s st = some (i, c, m) → c.kind = .conf n → (∃ x ∈ c.members, x.1 ≠ st) →
      ∃ u, carriesOut (.stationAbsent st) (.stationAbsent st) s u ∧ (stationOf u st).present = false ∧
        callAt u i = some { c with members := c.members.filter fun x => x.1 != st } ∧
        (∀ j, j ≠ i → callAt u j = callAt s j) ∧ reportedOnce .stationPresence st.val 0 s u ∧
        keepsBut [.intercom, .reports, .counters, .boundary] s u) ∧
    (∀ i c m n, callOf s st = some (i, c, m) → c.kind = .conf n → (∀ x ∈ c.members, x.1 = st) →
      ∃ u, carriesOut (.stationAbsent st) (.stationAbsent st) s u ∧ (stationOf u st).present = false ∧
        callAt u i = none ∧ (∀ j, j ≠ i → callAt u j = callAt s j) ∧
        u.reports = (report .stationPresence st.val 0 (report .callEnd i.val 3 s)).reports ∧
        keepsBut [.intercom, .reports, .counters, .boundary] s u)) ∧
  (∀ (st : StationId) (k : KeyId) (latch : Bool) (p : ClaimId) (cl : Claim) (s : State), isDue (.stationAbsent st) s →
    (stationOf s st).present = true → (stationOf s st).missed = 3 → (stationOf s st).page = some ⟨k, latch, some p⟩ →
    claimAt s p = some cl → cl.owner = .station st →
    ∃ u, carriesOut (.stationAbsent st) (.stationAbsent st) s u ∧ claimGone p s u ∧
      stationOf u st = { stationOf s st with
        present := false
        ringer := false
        page := none
        flash := Vector.replicate 8 0
        mic := silence } ∧
      tget u.slots cl.slot = unboundSlot (tget s.slots cl.slot) ∧
      (∀ j, j ≠ cl.slot → tget u.slots j = tget s.slots j) ∧
      u.peer = (releasePeers p s).peer ∧ u.ring = (releasePeers p s).ring ∧
      (s.control.mode ≠ .unaddressed → recorded .stationPresence st.val 0 s u ∧
        (s.reports.queue.length ≤ 6 → recorded .claimEnd p.val 4 s u)) ∧
      (callOf s st = none → ∀ i, callAt u i = callAt s i) ∧
      (∀ i c m, callOf s st = some (i, c, m) → c.kind = .point →
        (∀ j d, j ≠ i → callAt s j = some d → ∀ x ∈ d.members, x.1 ≠ st) → callAt u i = none ∧
        (∀ j, j ≠ i → callAt u j = callAt s j) ∧
        (s.control.mode ≠ .unaddressed → s.reports.queue = [] → ∃ before, u.reports.queue = before ++
          [⟨.claimEnd, p.val, 4, s.ring.period⟩, ⟨.callEnd, i.val, 3, s.ring.period⟩,
            ⟨.stationPresence, st.val, 0, s.ring.period⟩])) ∧
      keepsBut [.ring, .slots, .claims, .peer, .intercom, .reports, .counters, .boundary] s u) ∧
  (∀ (st : StationId) (k : KeyId) (latch : Bool) (s : State), isDue (.stationAbsent st) s →
    (stationOf s st).present = true → (stationOf s st).missed = 3 → (stationOf s st).page = some ⟨k, latch, none⟩ →
    callOf s st = none → ∃ u, carriesOut (.stationAbsent st) (.stationAbsent st) s u ∧
      stationOf u st = { stationOf s st with
        present := false
        ringer := false
        page := none
        flash := Vector.replicate 8 0
        mic := silence } ∧
      u.claims = { s.claims with queue := s.claims.queue.eraseP (requestOf (.station st)) } ∧
      reportedOnce .stationPresence st.val 0 s u ∧
      keepsBut [.claims, .intercom, .reports, .counters, .boundary] s u) ∧
  (∀ (i : CallId) (c : Call) (s : State), isDue (.callNoAnswer i) s → callAt s i = some c → c.connected = false →
    c.deadline = 0 → ∃ u, carriesOut (.callNoAnswer i) (.callNoAnswer i) s u ∧ callAt u i = none ∧
      (∀ j, j ≠ i → callAt u j = callAt s j) ∧
      (∀ st, stationOf u st = { stationOf s st with
        ringer := (stationOf s st).ringer && !c.members.any fun m => m.1 == st && m.2 == .ringing }) ∧
      reportedOnce .callEnd i.val 2 s u ∧ counterOf u .callsNoAnswer = saturatingSucc (counterOf s .callsNoAnswer) ∧
      keepsBut [.intercom, .reports, .counters, .boundary] s u) ∧
  (∀ (st : StationId) (k : KeyId) (s : State), isDue (.flashTimer st k) s → tget (stationOf s st).flash k = 1 →
    ∃ u, carriesOut (.flashTimerExpiry st k) (.flashTimer st k) s u ∧
      stationOf u st = { stationOf s st with flash := tset (stationOf s st).flash k 0 } ∧
      (∀ x, x ≠ st → stationOf u x = stationOf s x) ∧ (∀ i, callAt u i = callAt s i) ∧
      keepsBut [.intercom, .boundary] s u)

/-! ### The alarm sequencer (chapter 8) -/

/-- A TONE or SILENCE step of a channel ends. A TONE step that follows sounds its first block from phase 0, one on period
less, and the channel's claim takes the tone generator's slot; a SILENCE step counts its first period; a REPEAT step below
its count leads to its target with its counter one more; at END the channel is free, its claim ended, and its program leaves
the list with an ALARM-STOPPED record, where no other entry waits (R144, R145, R153, R155). The counts that a free channel
holds are the model's (log entry 11). A change is due at the boundary in progress as log entry 1 has it. -/
def Obligations.StepEnds : Prop :=
  ∀ (ch : ChanId) (i : Instr) (d : Due) (s : State),
    (i = .toneStepEnd ch ∧ d = .toneStepEnd ch ∧ toneEnded s ch = true) ∨
      (i = .silenceStepEnd ch ∧ d = .silenceStepEnd ch ∧ silenceEnded s ch = true) → isDue d s →
    (∀ f a on off, stepAt s ch ((channelOf s ch).step + 1) = some (.tone f a on off) → 0 < on →
      ∃ u, carriesOut i d s u ∧
        channelOf u ch = { channelOf s ch with
          step := (channelOf s ch).step + 1
          stalled := false
          onCount := on - 1
          offCount := off
          silenceCount := 0
          phase := (toneBlock s.mix.taper f a 0).2 } ∧
        (∀ x, x ≠ ch → channelOf u x = channelOf s x) ∧ u.alarm = { s.alarm with channels := u.alarm.channels } ∧
        tget u.slots (toneSlot ch) = { tget s.slots (toneSlot ch) with block := (toneBlock s.mix.taper f a 0).1 } ∧
        (∀ j, j ≠ toneSlot ch → tget u.slots j = tget s.slots j) ∧
        (∀ c cl, (channelOf s ch).claim = some c → claimAt s c = some cl →
          claimAt u c = some { cl with slot := toneSlot ch }) ∧
        (∀ c, (channelOf s ch).claim ≠ some c → claimAt u c = claimAt s c) ∧
        u.claims = { s.claims with table := u.claims.table } ∧ keepsBut [.slots, .claims, .alarm, .boundary] s u) ∧
    (∀ n, stepAt s ch ((channelOf s ch).step + 1) = some (.silent (n + 1)) → ∃ u, carriesOut i d s u ∧
      channelOf u ch = { channelOf s ch with
        step := (channelOf s ch).step + 1
        stalled := false
        onCount := 0
        offCount := 0
        silenceCount := n } ∧
      (∀ x, x ≠ ch → channelOf u x = channelOf s x) ∧ u.alarm = { s.alarm with channels := u.alarm.channels } ∧
      tget u.slots (toneSlot ch) = { tget s.slots (toneSlot ch) with block := silence } ∧
      (∀ j, j ≠ toneSlot ch → tget u.slots j = tget s.slots j) ∧ keepsBut [.slots, .claims, .alarm, .boundary] s u) ∧
    (∀ k limit f a on off, stepAt s ch ((channelOf s ch).step + 1) = some (.repeatTo k limit) →
      tget (channelOf s ch).repeats (repeatIx ((channelOf s ch).step + 1)) < limit →
      stepAt s ch k = some (.tone f a on off) → 0 < on → ∃ u, carriesOut i d s u ∧ (channelOf u ch).step = k ∧
        (channelOf u ch).onCount = on - 1 ∧
        (channelOf u ch).repeats = tset (channelOf s ch).repeats (repeatIx ((channelOf s ch).step + 1))
          (tget (channelOf s ch).repeats (repeatIx ((channelOf s ch).step + 1)) + 1) ∧
        keepsBut [.slots, .claims, .alarm, .boundary] s u) ∧
    (∀ p e, (stepAt s ch ((channelOf s ch).step + 1) = none ∨
        stepAt s ch ((channelOf s ch).step + 1) = some .stop) →
      (channelOf s ch).program = some p → (channelOf s ch).request = .none → s.alarm.list = [e] → e.program = p →
      ∃ u, carriesOut i d s u ∧ u.alarm.list = [] ∧ channelOf u ch = freeChannel ∧
        (∀ c, (channelOf s ch).claim = some c → claimAt u c = none) ∧
        (s.control.mode ≠ .unaddressed → recorded .alarmStopped p.val 1 s u) ∧
        counterOf u .alarmCompletions = saturatingSucc (counterOf s .alarmCompletions) ∧
        (tget u.slots (toneSlot ch)).block = silence)

/-- ALARM-START and ALARM-STOP of management. A program out of range, without steps, without zones or not present is refused
with its code. Into an empty list, with channel 0 free, a program whose first step is a TONE runs at once: the channel
stands at step 0, its START request of priority 7 waits, and it is reported and counted. A START of a present program is a
re-trigger: it adds the zones it brings and is counted, and a RUNNING channel owes them, or offers a GAIN of them. A full
list refuses a program that does not outrank its last entry, and discards the last entry otherwise. A new program that
outranks the later RUNNING one of two preempts it: it takes that channel, the other waits, and each is reported. A STOP of
the only program of the list frees its channel, ends its claim and empties the list. An ALARM frame is counted and tested by
each pattern: one slot, or a chained pair, enabled, whose selected positions all lie in the payload and whose origin and
CRC-16 agree; a match is reported and counted, and its START or STOP carried out (R148, R149, R150, R151, R152, R154, R158,
R159, R160, R196). The policy field of the request is the model's own (log entry 6), and so are the counts that a free
channel holds (log entry 11) and the place of PATTERN-MATCH before the reports of the action (log entry 12). -/
def Obligations.AlarmStartAndStop : Prop :=
  (∀ s : State, ready s →
    (∀ n g, 8 ≤ n → (∃ t, exec (.alarmStart n g) s = .next t ∧ refusedWith .outOfRange s t) ∧
      ∃ t, exec (.alarmStop n) s = .next t ∧ refusedWith .outOfRange s t) ∧
    (∀ (p : ProgramId) (g : Nat), (programOf s p).steps = [] → ∃ t, exec (.alarmStart p.val g) s = .next t ∧
      answered .empty s t ∧ reportedOnce .alarmRefused p.val 0 s t ∧
      counterOf t .alarmRefusals = saturatingSucc (counterOf s .alarmRefusals) ∧
      keepsBut (.reports :: answerParts) s t ∧ answerKept s t) ∧
    (∀ (p : ProgramId) (g : Nat), (programOf s p).steps ≠ [] → alarmEntry s p = none →
      isNoZones (startZones s p g) = true → ∃ t, exec (.alarmStart p.val g) s = .next t ∧ answered .empty s t ∧
        reportedOnce .alarmRefused p.val 1 s t ∧ keepsBut (.reports :: answerParts) s t ∧ answerKept s t) ∧
    (∀ p : ProgramId, alarmEntry s p = none → ∃ t, exec (.alarmStop p.val) s = .next t ∧ answered .notFound s t ∧
      reportedOnce .alarmRefused p.val 3 s t ∧ keepsBut (.reports :: answerParts) s t ∧ answerKept s t) ∧
    (∀ (p : ProgramId) (g : Nat) (f on off : Nat) (a : Code) (rest : List AlarmStep),
      (programOf s p).steps = .tone f a on off :: rest → isNoZones (startZones s p g) = false → s.alarm.list = [] →
      (channelOf s 0).program = none → s.claims.queue.length < 16 → ∃ t, exec (.alarmStart p.val g) s = .next t ∧
        answered .ok s t ∧ t.alarm.list = [⟨p, startZones s p g, some 0, s.alarm.arrivals⟩] ∧
        channelOf t 0 = { freeChannel with program := some p, request := .start, onCount := on, offCount := off } ∧
        channelOf t 1 = channelOf s 1 ∧ t.alarm.programs = s.alarm.programs ∧ t.alarm.patterns = s.alarm.patterns ∧
        t.claims = { s.claims with queue := s.claims.queue ++ [.start
          { owner := .alarm 0
            priority := 7
            rank := (programOf s p).rank
            mode := .exclusive
            policy := Config.alarmPolicy 0
            chime := false
            slot := some 27
            target := .zones (startZones s p g)
            hold := 0
            framed := false }] } ∧
        reportedOnce .alarmStarted p.val 0 s t ∧
        counterOf t .alarmStarts = saturatingSucc (counterOf s .alarmStarts) ∧
        keepsBut (.alarm :: .claims :: .reports :: answerParts) s t ∧ answerKept s t) ∧
    (∀ (p : ProgramId) (e : AlarmEntry) (ch : ChanId), s.alarm.list = [e] → e.program = p → e.channel = some ch →
      ∃ t, exec (.alarmStop p.val) s = .next t ∧ answered .ok s t ∧ t.alarm.list = [] ∧
        channelOf t ch = freeChannel ∧ (∀ c, (channelOf s ch).claim = some c → claimAt t c = none) ∧
        recorded .alarmStopped p.val 0 s t ∧ t.alarm.programs = s.alarm.programs ∧
        counterOf t .alarmStops = saturatingSucc (counterOf s .alarmStops)) ∧
    (∀ (p : ProgramId) (g : Nat) (e : AlarmEntry), alarmEntry s p = some e → (programOf s p).steps ≠ [] →
      (isNoZones (diffZones (startZones s p g) e.zones) = true → ∃ t, exec (.alarmStart p.val g) s = .next t ∧
        answered .ok s t ∧ counterOf t .retriggersEmpty = saturatingSucc (counterOf s .retriggersEmpty) ∧
        keepsBut answerParts s t ∧ answerKept s t) ∧
      (isNoZones (diffZones (startZones s p g) e.zones) = false → ∃ t, exec (.alarmStart p.val g) s = .next t ∧
        answered .ok s t ∧ t.alarm.list = (s.alarm.list.map fun x =>
          if x.program = p then { x with zones := unionZones x.zones (startZones s p g) } else x) ∧
        counterOf t .retriggers = saturatingSucc (counterOf s .retriggers) ∧ t.reports = s.reports ∧
        (e.channel = none → keepsBut (.alarm :: answerParts) s t ∧ ∀ ch, channelOf t ch = channelOf s ch) ∧
        (∀ ch, e.channel = some ch → (channelOf s ch).request ≠ .none → channelOf t ch = { channelOf s ch with
          owed := unionZones (channelOf s ch).owed (diffZones (startZones s p g) e.zones) } ∧ t.claims = s.claims) ∧
        (∀ ch c, e.channel = some ch → (channelOf s ch).request = .none → (channelOf s ch).claim = some c →
          s.claims.queue.length < 16 → channelOf t ch = { channelOf s ch with request := .gain } ∧
            t.claims = { s.claims with
              queue := s.claims.queue ++ [.gain ch c (diffZones (startZones s p g) e.zones)] }) ∧
        keepsBut (.alarm :: .claims :: answerParts) s t ∧ answerKept s t)) ∧
    (∀ (p : ProgramId) (g : Nat) (last : AlarmEntry), alarmEntry s p = none → (programOf s p).steps ≠ [] →
      isNoZones (startZones s p g) = false → 4 ≤ s.alarm.list.length → s.alarm.list.getLast? = some last →
      (programOf s p).rank ≤ rankOf s last → ∃ t, exec (.alarmStart p.val g) s = .next t ∧ answered .busy s t ∧
        reportedOnce .alarmRefused p.val 2 s t ∧ counterOf t .alarmRefusals = saturatingSucc (counterOf s .alarmRefusals) ∧
        keepsBut (.reports :: answerParts) s t ∧ answerKept s t) ∧
    (∀ (p : ProgramId) (zs : ZoneSet) (last : AlarmEntry), 4 ≤ s.alarm.list.length → s.alarm.list.getLast? = some last →
      rankOf s last < (programOf s p).rank → last.channel = none → ∃ u,
        newAlarm p zs s = (none, insertEntryOf p zs (waitingPrograms s) u) ∧
        u.alarm = { s.alarm with list := s.alarm.list.filter fun e => e.program != last.program } ∧
        reportedOnce .alarmDiscarded last.program.val (rankOf s last) s u ∧
        counterOf u .alarmDiscards = saturatingSucc (counterOf s .alarmDiscards) ∧
        keepsBut [.alarm, .reports, .counters] s u) ∧
    (∀ (p : ProgramId) (g : Nat) (e0 e1 : AlarmEntry) (a b : ChanId) (f on off : Nat) (amp : Code) (rest : List AlarmStep),
      s.alarm.list = [e0, e1] → e0.program ≠ e1.program → e0.program ≠ p → e1.program ≠ p → e0.channel = some a →
      e1.channel = some b → a ≠ b → (channelOf s a).program = some e0.program → (channelOf s b).program = some e1.program →
      (channelOf s b).request = .none →
      (∀ c cl, (channelOf s b).claim = some c → claimAt s c = some cl → cl.owner = .alarm b) →
      (programOf s p).steps = .tone f amp on off :: rest → isNoZones (startZones s p g) = false →
      rankOf s e1 < (programOf s p).rank → s.claims.queue.length < 16 → s.reports.queue = [] →
      ∃ t, exec (.alarmStart p.val g) s = .next t ∧ answered .ok s t ∧
        (t.alarm.list.map fun x => (x.program, x.channel)) =
          (if rankOf s e0 < (programOf s p).rank then [(p, some b), (e0.program, some a), (e1.program, none)]
          else [(e0.program, some a), (p, some b), (e1.program, none)]) ∧
        channelOf t a = channelOf s a ∧
        channelOf t b = { freeChannel with program := some p, request := .start, onCount := on, offCount := off } ∧
        (∀ c, (channelOf s b).claim = some c → claimAt t c = none) ∧ recorded .alarmStarted p.val b.val s t ∧
        recorded .alarmStarted e1.program.val 2 s t ∧
        counterOf t .alarmPreemptions = saturatingSucc (counterOf s .alarmPreemptions) ∧
        counterOf t .alarmStarts = saturatingSucc (counterOf s .alarmStarts))) ∧
  (∀ (e : PatternEntry) (positions : List Nat) (origin : Nat) (payload : List Byte),
    patternMatches e positions origin payload = true ↔ e.enabled = true ∧ positions ≠ [] ∧
      (∀ i ∈ positions, i < payload.length) ∧ (e.origin.val = 0 ∨ e.origin.val = origin) ∧
      crc16 (positions.map fun i => payload.getD i 0) = e.crc) ∧
  (∀ (base : Nat) (m : Vector Bool 64), (maskPositions base m).Pairwise (· < ·) ∧
    ∀ x, x ∈ maskPositions base m ↔ ∃ i : Fin 64, tget m i = true ∧ x = base + i.val) ∧
  (∀ (origin : Nat) (payload : List Byte) (s : State),
    patternsTested s =
      (if (tget s.alarm.patterns 0).chained = true then
        [(0, maskPositions 0 (tget s.alarm.patterns 0).mask ++ maskPositions 64 (tget s.alarm.patterns 1).mask)]
      else [(0, maskPositions 0 (tget s.alarm.patterns 0).mask), (1, maskPositions 0 (tget s.alarm.patterns 1).mask)]) ++
      (if (tget s.alarm.patterns 2).chained = true then
        [(2, maskPositions 0 (tget s.alarm.patterns 2).mask ++ maskPositions 64 (tget s.alarm.patterns 3).mask)]
      else [(2, maskPositions 0 (tget s.alarm.patterns 2).mask), (3, maskPositions 0 (tget s.alarm.patterns 3).mask)]) ∧
    ((∀ x ∈ patternsTested s, patternMatches (tget s.alarm.patterns x.1) x.2 origin payload = false) →
      countsOne .alarmFramesTested s (takeAlarmFrame origin payload s) ∧
        keepsBut [.counters] s (takeAlarmFrame origin payload s)) ∧
    (∀ before x after, patternsTested s = before ++ x :: after →
      (∀ y ∈ before ++ after, patternMatches (tget s.alarm.patterns y.1) y.2 origin payload = false) →
      patternMatches (tget s.alarm.patterns x.1) x.2 origin payload = true → ∃ u,
        u.reports = (report .patternMatch x.1.val origin s).reports ∧
        counterOf u .alarmFramesTested = saturatingSucc (counterOf s .alarmFramesTested) ∧
        counterOf u (.patternMatches x.1) = saturatingSucc (counterOf s (.patternMatches x.1)) ∧
        keepsBut [.reports, .counters] s u ∧
        (∀ (q : ProgramId) (g : Nat), (tget s.alarm.patterns x.1).action = .start q.val g →
          takeAlarmFrame origin payload s = (startAlarm q g u).2) ∧
        (∀ q : ProgramId, (tget s.alarm.patterns x.1).action = .stop q.val →
          takeAlarmFrame origin payload s = (stopAlarm q u).2)))

/-! ### The clip store (chapter 9) -/

/-- A completed read of a player's sector fills the buffer that awaits it, and the first sector sets a STARTING player
PLAYING; the read of a requester that has gone is discarded. A completed write of a clip sector leaves the queue; the
directory goes on with its second sector, the bytes of its entries 32 to 63 as they stand then with their check; a saved
image goes on with its next 4096 bytes, and its last sector ends the save. Each is counted, here first with nothing else
waiting for the flash port. What comes next is the arbiter's: an idle port takes the oldest waiting read whose sector no
earlier write has still to write, else the next sector of the write request at the head of the queue, with its bytes as they
stand then, and else nothing; an operation in flight is not interrupted (R169, R170, R171, R173, R199). The layout of a
directory sector is a constant without a value (log entry 3). -/
def Obligations.FlashCompletes : Prop :=
  (∀ (data : List Byte) (r : ReadRequest) (s : State), quiet s → s.clips.inFlight = some (.read r) → s.clips.reads = [] →
    s.clips.writes = [] →
    (∀ p sector, r.reader = .player p sector → (playerOf s p).state ≠ .idle →
      (tget (playerOf s p).buffers (bufferIx sector)).sector = some sector →
      ∃ t, exec (.flashReadComplete data) s = .next t ∧
        t.clips = { s.clips with
          inFlight := none
          players := tset s.clips.players p { playerOf s p with
            buffers := tset (playerOf s p).buffers (bufferIx sector) ⟨some sector, true, data⟩
            state := if sector = 0 ∧ (playerOf s p).state = .starting then .playing else (playerOf s p).state } } ∧
        countsOne .flashReads s t ∧ keepsBut [.clips, .counters] s t) ∧
    (r.reader = .nobody → ∃ t, exec (.flashReadComplete data) s = .next t ∧
      t.clips = { s.clips with inFlight := none } ∧ countsOne .flashReads s t ∧ keepsBut [.clips, .counters] s t)) ∧
  (∀ (sector : Nat) (content : List Byte) (w : WriteRequest) (s : State), quiet s →
    s.clips.inFlight = some (.write sector content) → s.clips.reads = [] → s.clips.writes = [w] →
    (∀ x d, w.kind = .clip x d → w.finished = 0 → ∃ t, exec .flashWriteComplete s = .next t ∧
      t.clips = { s.clips with inFlight := none, writes := [] } ∧ countsOne .flashWrites s t ∧
      keepsBut [.clips, .counters] s t) ∧
    (w.kind = .directory → w.finished = 0 → ∃ t, exec .flashWriteComplete s = .next t ∧
      t.clips = { s.clips with
        inFlight := some (.write 9 (directoryBytes ((s.clips.directory.toList.drop 32).take 32)))
        writes := [{ w with finished := 1, begun := true }] } ∧
      countsOne .flashWrites s t ∧ keepsBut [.clips, .counters] s t) ∧
    (∀ x n, w.kind = .image x → w.finished = n → n < 7 → ∃ t, exec .flashWriteComplete s = .next t ∧
      t.clips = { s.clips with
        inFlight := some (.write (n + 1) ((x.drop (4096 * (n + 1))).take 4096))
        writes := [{ w with finished := n + 1, begun := true }] } ∧
      countsOne .flashWrites s t ∧ keepsBut [.clips, .counters] s t) ∧
    (∀ x, w.kind = .image x → w.finished = 7 → ∃ t, exec .flashWriteComplete s = .next t ∧
      t.clips = { s.clips with inFlight := none, writes := [] } ∧ t.control = { s.control with saving := false } ∧
      counterOf t .imageSaves = saturatingSucc (counterOf s .imageSaves) ∧
      countsBut [.flashWrites, .imageSaves] s t ∧ keepsBut [.clips, .control, .counters] s t)) ∧
  (∀ (data : List Byte) (r : ReadRequest) (s : State), quiet s → s.clips.inFlight = some (.read r) → r.reader = .nobody →
    ∃ t, exec (.flashReadComplete data) s = .next t ∧
      t.clips = (arbitrateFlash (modClips (fun c => { c with inFlight := none }) s)).clips ∧ countsOne .flashReads s t ∧
      keepsBut [.clips, .counters] s t) ∧
  (∀ (sector : Nat) (content : List Byte) (w : WriteRequest) (ws : List WriteRequest) (s : State), quiet s →
    s.clips.inFlight = some (.write sector content) → s.clips.writes = w :: ws →
    (∀ x d, w.kind = .clip x d → w.finished = 0 → ∃ t, exec .flashWriteComplete s = .next t ∧
      t.clips = (arbitrateFlash (modClips (fun c => { c with inFlight := none, writes := ws }) s)).clips ∧
      countsOne .flashWrites s t ∧ keepsBut [.clips, .counters] s t) ∧
    (w.kind = .directory → w.finished = 0 → ∃ t, exec .flashWriteComplete s = .next t ∧
      t.clips = (arbitrateFlash (modClips (fun c =>
        { c with inFlight := none, writes := { w with finished := 1 } :: ws }) s)).clips ∧
      countsOne .flashWrites s t ∧ keepsBut [.clips, .counters] s t)) ∧
  (∀ s : State, keepsBut [.clips] s (arbitrateFlash s) ∧ (s.clips.inFlight ≠ none → arbitrateFlash s = s) ∧
    (s.clips.inFlight = none →
      (∀ before r after, s.clips.reads = before ++ r :: after → (∀ x ∈ before, heldBack s.clips.writes x) →
        ¬heldBack s.clips.writes r → (arbitrateFlash s).clips = { s.clips with
          inFlight := some (.read r)
          reads := before ++ after }) ∧
      ((∀ x ∈ s.clips.reads, heldBack s.clips.writes x) →
        (∀ w ws sector content, s.clips.writes = w :: ws → nextSector s w sector content →
          (arbitrateFlash s).clips = { s.clips with
            inFlight := some (.write sector content)
            writes := { w with begun := true } :: ws }) ∧
        (s.clips.writes = [] → arbitrateFlash s = s))))

/-- The last image sector of a reload ends the load: the tables of a valid image, or the built-in defaults with an
IMAGE-INVALID record of the check that failed, are installed at one moment, every table of them, clamped as writes are, the
matrix into both banks; the mode is RUN, the controller timer 0, and every supervised lane begins a whole window with clear
accumulators. At power-on the image is judged so, the tables wait, and the clip directory is read, sector 8 before sector 9;
with the last of it the tables are installed, the directory is loaded and the mode is RUN (R35, R57, R75, R97, R162, R164,
R182, R186, R188, R198). That at power-on the tables are installed only after the directory has been read is the model's
reading (log entry 23). The layouts inside the image's entries and of a directory sector are constants without a value (log
entry 3). -/
def Obligations.LoadEnds : Prop :=
  ∀ (data : List Byte) (r : ReadRequest) (l : Load) (s : State), quiet s → s.control.mode = .loading →
    s.clips.inFlight = some (.read r) → s.control.load = some l →
    (r.reader = .image 7 → s.reports.queue = [] → ∃ t x, exec (.flashReadComplete data) s = .next t ∧
      (∀ y, judgeImage (l.image ++ data) = .ok y → x = y) ∧
      (∀ v, judgeImage (l.image ++ data) = .error v → x = builtIn ∧ recorded .imageInvalid 0 v s t) ∧
      (l.withDirectory = false →
        t.control.mode = .run ∧ t.control.timer = 0 ∧ t.control.load = none ∧ installed x s t ∧
        (∀ lane, recordOf t lane = { clearAccumulators (recordOf t lane) with whole := isSupervised t lane }) ∧
        t.lines.windowCount = 0 ∧
        (∀ z, (tget s.mix.zones z).cfg.supervision = true → (tget x.zones z).supervision = false →
          (recordOf t (laneOfZone z)).state = none) ∧
        counterOf t .imageLoads = saturatingSucc (counterOf s .imageLoads) ∧ t.claims.table = s.claims.table ∧
        t.clips.directory = s.clips.directory ∧ t.ring = s.ring) ∧
      (l.withDirectory = true →
        t.control = { s.control with load := some { l with image := l.image ++ data, tables := some x } } ∧
        (s.clips.reads = [] → s.clips.writes = [] → t.clips = { s.clips with
          inFlight := some (.read ⟨.directory 0, 8, s.clips.stamp⟩)
          reads := [⟨.directory 1, 9, s.clips.stamp + 1⟩]
          stamp := s.clips.stamp + 2 }) ∧
        keepsBut [.clips, .control, .reports, .counters] s t)) ∧
    (r.reader = .directory 0 → ∃ t, exec (.flashReadComplete data) s = .next t ∧
      t.control = { s.control with load := some { l with sector8 := data } } ∧ keepsBut [.clips, .control, .counters] s t) ∧
    (∀ x, r.reader = .directory 1 → l.tables = some x → ∃ t, exec (.flashReadComplete data) s = .next t ∧
      t.control.mode = .run ∧ t.control.timer = 0 ∧ t.control.load = none ∧ installed x s t ∧
      t.clips.directory = (loadDirectory l.sector8 data s).clips.directory ∧ t.lines.freshStart = true ∧
      counterOf t .imageLoads = saturatingSucc (counterOf s .imageLoads) ∧ t.claims.table = s.claims.table ∧
      t.ring = s.ring)

/-- A player that has played out completes: it is IDLE with owner none and counted; a management playback's claim ends
COMPLETE; an alarm channel that has worked its CLIP step already stays there until its next boundary, and one that comes
after goes on to its next step, here a TONE. Before that a PLAYING player plays one block at each boundary: its slot carries
the 48 samples, 0 beyond the last, or silence where a buffer that the block needs is not filled, an underrun that is
counted; its position moves on by 48; and as it enters a new sector it asks for the one after, in the buffer of the one
before (R172, R174). Which of player and channel comes first is the operand's (log entries 2 and 24), the fields of an idle
player are the model's (log entry 11). A change is due at the boundary in progress as log entry 1 has it. -/
def Obligations.PlayCompletes : Prop :=
  (∀ (p : ChanId) (first : Bool) (s : State), isDue (.playComplete p) s → playedOut (playerOf s p) = true →
    (∀ c cl, (playerOf s p).owner = .management (some c) → claimAt s c = some cl →
      ∃ u, carriesOut (.playComplete p first) (.playComplete p) s u ∧ playerOf u p = idlePlayer ∧ claimGone c s u ∧
        (s.control.mode ≠ .unaddressed → recorded .claimEnd c.val 6 s u) ∧
        counterOf u (.playsCompleted p) = saturatingSucc (counterOf s (.playsCompleted p)) ∧
        keepsBut [.ring, .slots, .claims, .peer, .intercom, .alarm, .clips, .reports, .counters, .boundary] s u) ∧
    (∀ ch, (playerOf s p).owner = .alarm ch → first = true ∨ atClip s ch = false →
      ∃ u, carriesOut (.playComplete p first) (.playComplete p) s u ∧
      u.clips = { s.clips with
        players := tset s.clips.players p idlePlayer
        reads := s.clips.reads.map (orphanRequest p)
        inFlight := s.clips.inFlight.map (orphanRead p) } ∧
      countsOne (.playsCompleted p) s u ∧
      keepsBut [.clips, .counters, .boundary] s u) ∧
    (∀ ch f a on off, (playerOf s p).owner = .alarm ch → first = false → atClip s ch = true →
      stepAt s ch ((channelOf s ch).step + 1) = some (.tone f a on off) → 0 < on →
      ∃ u, carriesOut (.playComplete p first) (.playComplete p) s u ∧ playerOf u p = idlePlayer ∧
        channelOf u ch = { channelOf s ch with
          step := (channelOf s ch).step + 1
          stalled := false
          onCount := on - 1
          offCount := off
          silenceCount := 0
          phase := (toneBlock s.mix.taper f a 0).2 } ∧
        (∀ x, x ≠ ch → channelOf u x = channelOf s x) ∧
        (tget u.slots (toneSlot ch)).block = (toneBlock s.mix.taper f a 0).1 ∧
        (∀ c cl, (channelOf s ch).claim = some c → claimAt s c = some cl →
          claimAt u c = some { cl with slot := toneSlot ch }) ∧
        countsOne (.playsCompleted p) s u ∧ keepsBut [.slots, .claims, .alarm, .clips, .counters, .boundary] s u)) ∧
  (∀ (p : ChanId) (s : State),
    ((playerOf s p).state = .playing → (playerOf s p).position < (playerOf s p).samples →
      playerWork p s = playBlock p s) ∧
    ((playerOf s p).state ≠ .playing ∨ (playerOf s p).samples ≤ (playerOf s p).position →
      playerWork p s = writeGenerator (playerSlot p) silence s) ∧
    tget (playBlock p s).slots (playerSlot p) =
      { tget s.slots (playerSlot p) with block := playerBlock (playerOf s p) } ∧
    (∀ i, i ≠ playerSlot p → tget (playBlock p s).slots i = tget s.slots i) ∧
    ((∀ n : Fin 48, (playerOf s p).position + n.val < (playerOf s p).samples →
        bufferReady (playerOf s p) ((playerOf s p).position + n.val) = true) →
      (∀ n : Fin 48, tget (playerBlock (playerOf s p)) n =
        if (playerOf s p).samples ≤ (playerOf s p).position + n.val then 0 else
          clipSample (tget (playerOf s p).buffers (bufferIx (((playerOf s p).position + n.val) / 2048))).data
            (((playerOf s p).position + n.val) % 2048) * 256) ∧
      (playBlock p s).counters = s.counters) ∧
    (∀ n : Fin 48, (playerOf s p).position + n.val < (playerOf s p).samples →
      bufferReady (playerOf s p) ((playerOf s p).position + n.val) = false →
      playerBlock (playerOf s p) = silence ∧ countsOne (.clipUnderruns p) s (playBlock p s)) ∧
    (playerOf (playBlock p s) p).position = (playerOf s p).position + 48 ∧
    (∀ q, q ≠ p → playerOf (playBlock p s) q = playerOf s q) ∧
    (((playerOf s p).position + 48) / 2048 = (playerOf s p).position / 2048 →
      (playBlock p s).clips = { s.clips with
        players := tset s.clips.players p { playerOf s p with position := (playerOf s p).position + 48 } }) ∧
    (∀ j, j = ((playerOf s p).position + 48) / 2048 → (playerOf s p).position / 2048 < j → j + 1 < (playerOf s p).sectors →
      s.clips.inFlight ≠ none → (playBlock p s).clips = { s.clips with
        players := tset s.clips.players p { playerOf s p with
          position := (playerOf s p).position + 48
          buffers := tset (playerOf s p).buffers (bufferIx (j + 1)) ⟨some (j + 1), false, []⟩ }
        reads := s.clips.reads ++ [⟨.player p (j + 1), (playerOf s p).first + (j + 1), s.clips.stamp⟩]
        stamp := s.clips.stamp + 1 }) ∧
    keepsBut [.slots, .clips, .counters] s (playBlock p s))

/-- The search for sectors takes the lowest sector of the clip area at which the run is free, and fails only where no run
is. A run is free when it ends in the clip area and overlaps no entry that is not EMPTY (R163, R165). -/
def Obligations.FirstFit : Prop :=
  ∀ (n : Nat) (s : State),
    (∀ a, allocate s n = some a → 10 ≤ a ∧ a + n ≤ 8192 ∧
      (∀ c : ClipId, (clipAt s c).state ≠ .empty →
        a + n ≤ (clipAt s c).first ∨ (clipAt s c).first + (clipAt s c).sectors ≤ a) ∧
      ∀ b, 10 ≤ b → b < a → runFree s.clips.directory.toList b n = false) ∧
    (allocate s n = none → ∀ b, 10 ≤ b → b < 8192 → runFree s.clips.directory.toList b n = false) ∧
    (∀ b, runFree s.clips.directory.toList b n = true ↔ b + n ≤ 8192 ∧ ∀ c : ClipId, (clipAt s c).state ≠ .empty →
      b + n ≤ (clipAt s c).first ∨ (clipAt s c).first + (clipAt s c).sectors ≤ b)

/-- CLIP-OPEN, CLIP-WRITE, CLIP-CLOSE and CLIP-DELETE. CLIP-OPEN is refused by the first check that applies, or the entry
becomes OPEN at the sectors found, with a CLIP-STATE report; a write of an OPEN clip joins the written set and the write
queue, and is refused for a sector beyond the clip's, for data of another length than 4096 bytes, and while an image is
saved or the queue is full; a close makes the clip READY when every sector is written and BAD otherwise; a delete of a clip
that no player holds makes its entry EMPTY, and the writes of an OPEN clip that have not begun go with it. A close and a
delete ask for a directory write, and are refused BUSY where none can be queued (R165, R166, R167, R168, R169). That a write
to the same sectors which an earlier clip queued goes too is the model's (log entry 21). -/
def Obligations.ClipOperations : Prop :=
  ∀ s : State, ready s →
    (∀ n samples, 64 ≤ n ∨ samples = 0 →
      ∃ t, exec (.clipOpen n samples) s = .next t ∧ refusedWith .outOfRange s t) ∧
    (∀ (c : ClipId) (samples : Nat), samples ≠ 0 →
      ((clipAt s c).state ≠ .empty → ∃ t, exec (.clipOpen c.val samples) s = .next t ∧ refusedWith .exists s t) ∧
      ((clipAt s c).state = .empty → anyOpen s = true →
        ∃ t, exec (.clipOpen c.val samples) s = .next t ∧ refusedWith .busy s t) ∧
      ((clipAt s c).state = .empty → anyOpen s = false → allocate s (sectorCount samples) = none →
        ∃ t, exec (.clipOpen c.val samples) s = .next t ∧ refusedWith .noSpace s t) ∧
      (∀ a, (clipAt s c).state = .empty → anyOpen s = false → allocate s (sectorCount samples) = some a →
        ∃ t, exec (.clipOpen c.val samples) s = .next t ∧ answered .ok s t ∧
          t.clips = { s.clips with
            directory := tset s.clips.directory c ⟨.opened, a, sectorCount samples, samples, 0⟩
            writtenSet := [] } ∧
          reportedOnce .clipState c.val 1 s t ∧ keepsBut (.clips :: .reports :: answerParts) s t ∧ answerKept s t)) ∧
    (∀ (c : ClipId) (k : Nat) (data : List Byte),
      ((clipAt s c).state ≠ .opened → ∃ t, exec (.clipWrite c.val k data) s = .next t ∧ refusedWith .notFound s t) ∧
      ((clipAt s c).state = .opened → (clipAt s c).sectors ≤ k →
        ∃ t, exec (.clipWrite c.val k data) s = .next t ∧ refusedWith .outOfRange s t) ∧
      ((clipAt s c).state = .opened → data.length ≠ 4096 →
        ∃ t, exec (.clipWrite c.val k data) s = .next t ∧ refusedWith .outOfRange s t) ∧
      ((clipAt s c).state = .opened → k < (clipAt s c).sectors → data.length = 4096 →
        s.control.saving = true ∨ 4 ≤ s.clips.writes.length →
        ∃ t, exec (.clipWrite c.val k data) s = .next t ∧ refusedWith .busy s t) ∧
      ((clipAt s c).state = .opened → k < (clipAt s c).sectors → data.length = 4096 → s.control.saving = false →
        s.clips.writes.length < 4 → s.clips.inFlight ≠ none → k ∉ s.clips.writtenSet →
        ∃ t, exec (.clipWrite c.val k data) s = .next t ∧ answered .ok s t ∧
          t.clips = { s.clips with
            directory := tset s.clips.directory c { clipAt s c with written := s.clips.writtenSet.length + 1 }
            writtenSet := s.clips.writtenSet ++ [k]
            writes := s.clips.writes ++ [⟨.clip ((clipAt s c).first + k) data, 0, false, s.clips.stamp⟩]
            stamp := s.clips.stamp + 1 } ∧
          counterOf t .clipWritesQueued = saturatingSucc (counterOf s .clipWritesQueued) ∧
          keepsBut (.clips :: answerParts) s t ∧ answerKept s t)) ∧
    (∀ c : ClipId,
      ((clipAt s c).state ≠ .opened → ∃ t, exec (.clipClose c.val) s = .next t ∧ refusedWith .notFound s t) ∧
      ((clipAt s c).state = .opened → canQueueDirectory s.clips.writes = false →
        ∃ t, exec (.clipClose c.val) s = .next t ∧ refusedWith .busy s t) ∧
      ((clipAt s c).state = .opened → canQueueDirectory s.clips.writes = true →
        ∃ t, exec (.clipClose c.val) s = .next t ∧ answered .ok s t ∧
          clipAt t c = { clipAt s c with
            state := if (clipAt s c).written = (clipAt s c).sectors then .ready else .bad } ∧
          (∀ d, d ≠ c → clipAt t d = clipAt s d) ∧ t.clips.writtenSet = [] ∧ t.clips.players = s.clips.players ∧
          (s.clips.inFlight ≠ none → directoryQueued { s.clips with
            directory := tset s.clips.directory c (clipAt t c)
            writtenSet := [] } t) ∧
          reportedOnce .clipState c.val (if (clipAt s c).written = (clipAt s c).sectors then 2 else 3) s t ∧
          keepsBut (.clips :: .reports :: answerParts) s t ∧ answerKept s t)) ∧
    (∀ c : ClipId,
      ((clipAt s c).state = .empty → ∃ t, exec (.clipDelete c.val) s = .next t ∧ refusedWith .notFound s t) ∧
      ((clipAt s c).state ≠ .empty → playerHolds s c = true →
        ∃ t, exec (.clipDelete c.val) s = .next t ∧ refusedWith .inUse s t) ∧
      ((clipAt s c).state ≠ .empty → playerHolds s c = false → canQueueDirectory s.clips.writes = false →
        ∃ t, exec (.clipDelete c.val) s = .next t ∧ refusedWith .busy s t) ∧
      ((clipAt s c).state ≠ .empty → playerHolds s c = false → canQueueDirectory s.clips.writes = true →
        ∃ t, exec (.clipDelete c.val) s = .next t ∧ answered .ok s t ∧ clipAt t c = emptyClip ∧
          (∀ d, d ≠ c → clipAt t d = clipAt s d) ∧ t.clips.players = s.clips.players ∧
          (s.clips.inFlight ≠ none →
            ((clipAt s c).state ≠ .opened →
              directoryQueued { s.clips with directory := tset s.clips.directory c emptyClip } t) ∧
            ((clipAt s c).state = .opened → directoryQueued { s.clips with
              directory := tset s.clips.directory c emptyClip
              writtenSet := []
              writes := (s.clips.writes.filter fun w => match w.kind with
                | .clip x _ => w.begun || decide (x < (clipAt s c).first) ||
                    decide ((clipAt s c).first + (clipAt s c).sectors ≤ x)
                | _ => true) } t)) ∧
          reportedOnce .clipState c.val 0 s t ∧ keepsBut (.clips :: .reports :: answerParts) s t ∧ answerKept s t))

/-! ### Loudspeaker lanes (chapter 10) -/

/-- A return of an amplifier is kept for its lane until the next boundary, the last of a period replacing the others. At the
boundary a supervised lane adds it to its accumulators, or counts its absence, and any other lane discards it. The window
closes: a lane that is not supervised is as it was; a supervised lane clears its accumulators and begins a whole window, and
one whose window was whole takes its verdict, which becomes its line state when the window before had the same one. The
verdict is that of the first row that applies. A spare lane in fault serves no zone; another serves, by what it reads of
each zone, of the zones that name it as backup and whose primary line is in fault, the one of highest on-air priority, the
lowest number among equals; each zone that gains or leaves it is reported, the one that gains it first where one zone
follows another (log entry 12). The pilot alternates +A and −A and the sum is clamped. The unheard flag follows its
condition, reported at each change and counted while it holds (R179, R180, R181, R182, R183, R184, R185). That the overtemp
flag of a lane without a verdict stays is the model's reading (log entry 36). A change is due at the boundary in progress as
log entry 1 has it. -/
def Obligations.LineWindow : Prop :=
  (∀ (l : LaneId) (load : Fin 1024) (amp : AmpState) (s : State), quiet s → ∃ t,
    exec (.ampReturn l load amp) s = .next t ∧
    t.lines = { s.lines with lanes := tset s.lines.lanes l { tget s.lines.lanes l with back := some (load, amp) } } ∧
    keepsBut [.lines] s t) ∧
  (∀ s : State, isDue .windowClose s → 256 ≤ s.lines.windowCount → ∃ u, carriesOut .windowClose .windowClose s u ∧
    u.lines.windowCount = 0 ∧
    (∀ l, isSupervised s l = false → recordOf u l = recordOf s l) ∧
    (∀ l, isSupervised s l = true → (recordOf s l).whole = false →
      recordOf u l = { clearAccumulators (recordOf s l) with whole := true }) ∧
    (∀ l, isSupervised s l = true → (recordOf s l).whole = true →
      recordOf u l = { clearAccumulators (recordOf s l) with
        lastVerdict := some (verdictOf (judgingZone s.mix.zones l) (recordOf s l))
        overtemp := (recordOf s l).overtempSeen
        state := if (recordOf s l).lastVerdict = some (verdictOf (judgingZone s.mix.zones l) (recordOf s l))
          then (recordOf s l).lastVerdict else (recordOf s l).state }) ∧
    (∀ l, (tget u.lines.lanes l).back = (tget s.lines.lanes l).back) ∧ u.lines.unheard = s.lines.unheard ∧
    u.lines.laneOut = s.lines.laneOut ∧ keepsBut [.lines, .reports, .counters, .boundary] s u) ∧
  (∀ (l : LaneId) (s : State),
    (isSupervised s l = true →
      (∀ load amp, (tget s.lines.lanes l).back = some (load, amp) →
        tget (accumulateLane l s).lines.lanes l = ⟨{ recordOf s l with
          loadSum := (recordOf s l).loadSum + load.val
          returns := (recordOf s l).returns + 1
          faultSeen := (recordOf s l).faultSeen || amp == .fault
          overtempSeen := (recordOf s l).overtempSeen || amp == .overtemp }, none⟩ ∧
        (amp = .overtemp → countsOne (.ampOvertemp l) s (accumulateLane l s)) ∧
        (amp = .muted → countsOne (.ampMuted l) s (accumulateLane l s)) ∧
        (amp ≠ .overtemp → amp ≠ .muted → (accumulateLane l s).counters = s.counters)) ∧
      ((tget s.lines.lanes l).back = none → (∀ x, recordOf (accumulateLane l s) x = recordOf s x) ∧
        countsOne (.ampNoReturn l) s (accumulateLane l s))) ∧
    (isSupervised s l = false → tget (accumulateLane l s).lines.lanes l = ⟨recordOf s l, none⟩ ∧
      (accumulateLane l s).counters = s.counters) ∧
    (∀ x, x ≠ l → tget (accumulateLane l s).lines.lanes x = tget s.lines.lanes x) ∧
    keepsBut [.lines, .counters] s (accumulateLane l s)) ∧
  (∀ (e : ZoneEntry) (r : LaneRecord),
    (r.returns ≤ 240 → verdictOf e r = .ampAbsent) ∧
    (240 < r.returns → r.faultSeen = true → verdictOf e r = .ampFault) ∧
    (240 < r.returns → r.faultSeen = false →
      (e.openLimit ≤ r.loadSum / r.returns → verdictOf e r = .openLine) ∧
      (r.loadSum / r.returns < e.openLimit → r.loadSum / r.returns ≤ e.shortLimit → verdictOf e r = .short) ∧
      (r.loadSum / r.returns < e.openLimit → e.shortLimit < r.loadSum / r.returns →
        (r.loadSum / r.returns < e.nominalLow ∨ e.nominalHigh < r.loadSum / r.returns →
          verdictOf e r = .degraded) ∧
        (e.nominalLow ≤ r.loadSum / r.returns → r.loadSum / r.returns ≤ e.nominalHigh →
          verdictOf e r = .normal)))) ∧
  (∀ s : State, (mixView s).zones = s.mix.zones ∧ (mixView s).lists = s.claims.lists ∧
    (mixView s).claims = s.claims.table ∧ ∀ l, tget (mixView s).lineStates l = (recordOf s l).state) ∧
  (∀ (read : ZoneId → MixView) (l : LaneId) (s : State),
    (∀ z, z ∈ candidates read l ↔ (tget (read z).zones z).cfg.backup = some l.val ∧
      inFault (tget (read z).lineStates (laneOfZone z)) = true) ∧
    (inFault (recordOf s l).state = true → servedChoice read s l = none) ∧
    (inFault (recordOf s l).state = false → (servedChoice read s l = none ↔ candidates read l = [])) ∧
    (inFault (recordOf s l).state = false → ∀ z, servedChoice read s l = some z ↔ z ∈ candidates read l ∧
      ∀ y ∈ candidates read l, viewPriority (read y) y < viewPriority (read z) z ∨
        (viewPriority (read y) y = viewPriority (read z) z ∧ z.val ≤ y.val)) ∧
    (recordOf (arbitrateSpare read l s) l).served = servedChoice read s l ∧
    (servedChoice read s l = (recordOf s l).served → arbitrateSpare read l s = s) ∧
    (∀ z, servedChoice read s l = some z → (recordOf s l).served = none →
      reportedOnce .failover z.val l.val s (arbitrateSpare read l s) ∧
      counterOf (arbitrateSpare read l s) (.failovers z) = saturatingSucc (counterOf s (.failovers z))) ∧
    (∀ z, servedChoice read s l = none → (recordOf s l).served = some z →
      (inFault (tget (read z).lineStates (laneOfZone z)) = true →
        reportedOnce .failover z.val 255 s (arbitrateSpare read l s)) ∧
      (inFault (tget (read z).lineStates (laneOfZone z)) = false →
        reportedOnce .restore z.val l.val s (arbitrateSpare read l s))) ∧
    (∀ y z, servedChoice read s l = some y → (recordOf s l).served = some z → y ≠ z →
      counterOf (arbitrateSpare read l s) (.failovers y) = saturatingSucc (counterOf s (.failovers y)) ∧
      (inFault (tget (read z).lineStates (laneOfZone z)) = true → (arbitrateSpare read l s).reports =
        (report .failover z.val 255 (report .failover y.val l.val s)).reports) ∧
      (inFault (tget (read z).lineStates (laneOfZone z)) = false → (arbitrateSpare read l s).reports =
        (report .restore z.val l.val (report .failover y.val l.val s)).reports)) ∧
    (∀ x, x ≠ l → recordOf (arbitrateSpare read l s) x = recordOf s x) ∧
    keepsBut [.lines, .reports, .counters] s (arbitrateSpare read l s)) ∧
  (∀ (a : Nat) (b : Block) (n : Fin 48), tget (withPilot a b) n =
    max (-8388608) (min 8388607 (tget b n + if n.val % 2 = 0 then (a : Int) else -(a : Int)))) ∧
  (∀ (read : ZoneId → MixView) (l : LaneId) (s : State) (a : Nat), pilotOf read l = some a →
    ((∃ n : Fin 48, tget (withPilot a (laneContent s l)) n ≠ tget (laneContent s l) n + pilotSample a n) →
      countsOne (.pilotClamp l) s (fillLane read l s)) ∧
    ((∀ n : Fin 48, tget (withPilot a (laneContent s l)) n = tget (laneContent s l) n + pilotSample a n) →
      (fillLane read l s).counters = s.counters)) ∧
  (∀ (z : ZoneId) (b : Bool) (s : State),
    tget (setUnheard z b s).lines.unheard z = b ∧
    (tget s.lines.unheard z = b → (setUnheard z b s).reports = s.reports) ∧
    (tget s.lines.unheard z ≠ b → reportedOnce .alarmUnheard z.val (if b then 1 else 0) s (setUnheard z b s)) ∧
    (b = true → counterOf (setUnheard z b s) (.unheardPeriods z) = saturatingSucc (counterOf s (.unheardPeriods z))) ∧
    (∀ x, x ≠ z → tget (setUnheard z b s).lines.unheard x = tget s.lines.unheard x) ∧
    keepsBut [.lines, .reports, .counters] s (setUnheard z b s))

/-! ### Control frames and the configuration image (chapter 11) -/

/-- A CONTROL frame from an origin that is no controller is counted alone. An accepted one is counted, restarts the
controller timer, returns STANDALONE to RUN with a report, and joins the control input queue or is dropped. The interpreter
takes the oldest frame: with no operations it gets no answer, with more than 16 or none that can be decoded a REPLY, and
otherwise it is in service at its first operation. As an operation of it ends, its result, when the REPLY owes it, is placed
behind those before it with its index, code and data, or left out with the overflow flag set where it does not fit; the next
operation follows, or the first that cannot be decoded is refused OUT-OF-RANGE and ends the frame, or the frame has been
carried out; and then one REPLY with the results goes to the frame's origin, none where nothing was owed. The controller
timer at its timeout in RUN makes the mode STANDALONE, reported and counted (R190, R191, R197). How many operations of a
payload can be decoded is a constant without a value (log entry 3); that an operation that cannot be decoded is counted
OPERATIONS-REFUSED is the model's reading (log entry 20), and so is an operation outside a frame (log entry 8). A change is
due at the boundary in progress as log entry 1 has it. -/
def Obligations.ControlFrames : Prop :=
  (∀ (origin : Nat) (payload : List Byte) (s : State),
    (acceptedOrigin s origin = false → countsOne .controlRejected s (takeControlFrame origin payload s) ∧
      keepsBut [.counters] s (takeControlFrame origin payload s)) ∧
    (acceptedOrigin s origin = true →
      (takeControlFrame origin payload s).control = { s.control with
        timer := 0
        mode := if s.control.mode = .standalone then .run else s.control.mode
        queue := if s.control.queue.length < 4 then s.control.queue ++ [⟨origin, payload⟩] else s.control.queue } ∧
      (s.control.mode = .standalone → reportedOnce .standalone 0 0 s (takeControlFrame origin payload s)) ∧
      (s.control.mode ≠ .standalone → (takeControlFrame origin payload s).reports = s.reports) ∧
      counterOf (takeControlFrame origin payload s) .controlFrames = saturatingSucc (counterOf s .controlFrames) ∧
      keepsBut [.control, .reports, .counters] s (takeControlFrame origin payload s))) ∧
  (∀ (f : ControlFrame) (rest : List ControlFrame) (s : State), quiet s → running s = true → s.control.service = none →
    s.control.queue = f :: rest →
    (byteAt f.payload 1 = 0 → ∃ t, exec .controlFrameStart s = .next t ∧ t.control = { s.control with queue := rest } ∧
      keepsBut [.control] s t) ∧
    (1 ≤ byteAt f.payload 1 → byteAt f.payload 1 ≤ 16 → ∃ t, exec .controlFrameStart s = .next t ∧
      (1 ≤ Config.decodableOperations f.payload → t.control = { s.control with
          queue := rest
          service := some
            { origin := f.origin
              frameNumber := byteAt f.payload 0
              count := byteAt f.payload 1
              decodable := min (byteAt f.payload 1) (Config.decodableOperations f.payload)
              index := 0
              results := []
              overflow := false
              waiting := false } } ∧ keepsBut [.control] s t) ∧
      (Config.decodableOperations f.payload = 0 → t.control = { s.control with queue := rest } ∧
        counterOf t .operationsRefused = saturatingSucc (counterOf s .operationsRefused) ∧
        (∃ results overflow, (results = [⟨0, .outOfRange, .none⟩] ∧ overflow = false ∨ results = [] ∧ overflow = true) ∧
          t.ring = (originate replyKind f.origin (.reply ⟨byteAt f.payload 0, results, overflow⟩) s).ring) ∧
        keepsBut [.ring, .control, .counters] s t)) ∧
    (16 < byteAt f.payload 1 → ∃ t results overflow, exec .controlFrameStart s = .next t ∧
      t.control = { s.control with queue := rest } ∧
      (results = [⟨255, .outOfRange, .none⟩] ∧ overflow = false ∨ results = [] ∧ overflow = true) ∧
      t.ring = (originate replyKind f.origin (.reply ⟨byteAt f.payload 0, results, overflow⟩) s).ring ∧
      keepsBut [.ring, .control, .counters] s t)) ∧
  (∀ (owed : Bool) (code : ResultCode) (data : ResultData) (s : State), s.control.service = none →
    (finishOperation owed code data s).control = { s.control with answer := ⟨0, code, data⟩ } ∧
    (isRefusal code = true → countsOne .operationsRefused s (finishOperation owed code data s)) ∧
    (isRefusal code = false → (finishOperation owed code data s).counters = s.counters) ∧
    keepsBut [.control, .counters] s (finishOperation owed code data s)) ∧
  (∀ (owed : Bool) (code : ResultCode) (data : ResultData) (v : ControlService) (s : State), s.control.service = some v →
    ∃ results overflow,
      (owed = false → isRefusal code = false → results = v.results ∧ overflow = v.overflow) ∧
      (owed = true ∨ isRefusal code = true →
        (replySize v.results + resultSize ⟨v.index, code, data⟩ ≤ 4160 →
          results = v.results ++ [⟨v.index, code, data⟩] ∧ overflow = v.overflow) ∧
        (4160 < replySize v.results + resultSize ⟨v.index, code, data⟩ → 1 ≤ resultSize ⟨v.index, code, data⟩ →
          results = v.results ∧ overflow = true)) ∧
      (v.index + 1 < v.count → v.index + 1 < v.decodable → (finishOperation owed code data s).control = { s.control with
        answer := ⟨v.index, code, data⟩
        service := some { v with
          index := v.index + 1
          results := results
          overflow := overflow
          waiting := false } } ∧
        (finishOperation owed code data s).ring = s.ring) ∧
      (v.count ≤ v.index + 1 → (finishOperation owed code data s).control = { s.control with
        answer := ⟨v.index, code, data⟩
        service := none } ∧
        (results = [] ∧ overflow = false → (finishOperation owed code data s).ring = s.ring) ∧
        (results ≠ [] ∨ overflow = true → (finishOperation owed code data s).ring =
          (originate replyKind v.origin (.reply ⟨v.frameNumber, results, overflow⟩) s).ring)) ∧
      (v.index + 1 < v.count → v.decodable ≤ v.index + 1 → (finishOperation owed code data s).control = { s.control with
        answer := ⟨v.index, code, data⟩
        service := none } ∧
        counterOf (finishOperation owed code data s) .operationsRefused =
          iterate saturatingSucc (if isRefusal code then 2 else 1) (counterOf s .operationsRefused) ∧
        ∃ last more, (last = results ++ [⟨v.index + 1, .outOfRange, .none⟩] ∧ more = overflow ∨
            last = results ∧ more = true) ∧
          (finishOperation owed code data s).ring =
            (originate replyKind v.origin (.reply ⟨v.frameNumber, last, more⟩) s).ring) ∧
      countsBut (replyCounts s) s (finishOperation owed code data s) ∧
      keepsBut [.control, .ring, .counters] s (finishOperation owed code data s)) ∧
  (∀ s : State, isDue .standaloneEntry s → timerExpired s = true →
    ∃ u, carriesOut .standaloneEntry .standaloneEntry s u ∧ u.control = { s.control with mode := .standalone } ∧
      reportedOnce .standalone 0 1 s u ∧ counterOf u .standaloneEntries = saturatingSucc (counterOf s .standaloneEntries) ∧
      countsBut [.standaloneEntries, .reportsCoalesced, .reportsDropped] s u ∧
      keepsBut [.control, .reports, .counters, .boundary] s u)

/-- SELECT and WINDOW set the access pointer and its window, or are refused OUT-OF-RANGE with the pointer left. A pointer in
its window stays in it however often it advances, and returns to its place after as many advances as the window has places
(R193). -/
def Obligations.AccessPointer : Prop :=
  (∀ s : State, ready s →
    (∀ tb row col, row < (tableDims tb).1 → col < (tableDims tb).2 → ∃ t, exec (.select (some tb) row col) s = .next t ∧
      answered .ok s t ∧
      t.control.pointer = ⟨tb, row, col, 0, (tableDims tb).1 - 1, 0, (tableDims tb).2 - 1, .rowFirst⟩ ∧
      keepsBut answerParts s t ∧ answerKept s t) ∧
    (∀ tb row col, tb = none ∨ (∃ x, tb = some x ∧ ((tableDims x).1 ≤ row ∨ (tableDims x).2 ≤ col)) →
      ∃ t, exec (.select tb row col) s = .next t ∧ refusedWith .outOfRange s t ∧
        t.control.pointer = s.control.pointer) ∧
    (∀ tb r0 r1 c0 c1 a, r0 ≤ r1 → r1 < (tableDims tb).1 → c0 ≤ c1 → c1 < (tableDims tb).2 →
      ∃ t, exec (.window (some tb) r0 r1 c0 c1 a) s = .next t ∧ answered .ok s t ∧
        t.control.pointer = ⟨tb, r0, c0, r0, r1, c0, c1, a⟩ ∧ keepsBut answerParts s t ∧ answerKept s t) ∧
    (∀ tb r0 r1 c0 c1 a, r1 < r0 ∨ (tableDims tb).1 ≤ r1 ∨ c1 < c0 ∨ (tableDims tb).2 ≤ c1 →
      ∃ t, exec (.window (some tb) r0 r1 c0 c1 a) s = .next t ∧ refusedWith .outOfRange s t ∧
        t.control.pointer = s.control.pointer)) ∧
  (∀ p : Pointer, inWindow p → (∀ k, inWindow (iterate advancePointer k p)) ∧
    iterate advancePointer ((p.lastRow - p.firstRow + 1) * (p.lastColumn - p.firstColumn + 1)) p = p)

/-- WRITE. One entry sets the row of its table alone, each field clamped to its range: the STAGED crosspoint of the MATRIX,
a gain, a zone record, where neither the enable nor the supervision changes and no master fade runs, a ring slot's record
with its mode and binding where the slot is not in use, a group, a note, a station record, a key map entry, a program that
is not present, a pattern slot or the NODE record. A zone that it disables loses its claim list; an inbound claim that held
this zone alone ends PREEMPTED, and its origin is told. For a zone that it enables, the channel of each RUNNING alarm entry
of the zone offers its claim's gain of it, or a new start without a claim, or owes the zone while a request of the channel
waits; that the channels do so in the order of the alarm list is the model's (log entry 12). A supervision enable taken off
clears the primary lane's record, and its line state becomes UNKNOWN with its report if it was not; put on, it clears the
window whole flag. That a set overtemp flag is cleared without a report of its own is the model's (log entry 30). A running
master fade is cancelled with the code held, and the written value stands. A read-only place, a SOURCE mode or binding in
use, the row of a program that is present and an entry of another form are refused READ-ONLY, IN-USE, IN-USE and
OUT-OF-RANGE with nothing taken. Several entries are written in turn: a malformed one ends the WRITE, another refused one
does not, and the answer is the code of the first refused one with the number taken. The pointer advances past each, but for
the malformed entry (R24, R25, R37, R38, R39, R58, R68, R84, R85, R95, R97, R117, R125, R126, R143, R154, R182, R192, R194).
That a malformed entry for a read-only place is refused READ-ONLY, and that a GROUP entry of more than 4 peers is malformed,
is the model's reading (log entry 20). -/
def Obligations.Writes : Prop :=
  ∀ s : State, ready s →
    (∀ c : Code, s.control.pointer.table = .matrix → ∃ t, exec (.write [.level c]) s = .next t ∧ answered .ok s t ∧
      t.control.pointer = advancePointer s.control.pointer ∧
      t.scene = { s.scene with
        staged := tmod s.scene.staged (finUpTo 23 s.control.pointer.row) fun r =>
          tset r (finUpTo 31 s.control.pointer.column) c } ∧
      keepsBut (.scene :: answerParts) s t ∧ answerKept s t) ∧
    (∀ (e : ZoneEntry) (z : ZoneId), s.control.pointer.table = .zone → z = finUpTo 23 s.control.pointer.row →
      ((tget s.mix.zones z).cfg.enabled = e.enabled → (tget s.mix.zones z).cfg.supervision = e.supervision →
        fadeOn s (.master z) = none → ∃ t, exec (.write [.zone e]) s = .next t ∧ answered .ok s t ∧
          t.control.pointer = advancePointer s.control.pointer ∧
          t.mix = { s.mix with zones := tset s.mix.zones z { tget s.mix.zones z with cfg := clampZone e } } ∧
          keepsBut (.mix :: answerParts) s t ∧ answerKept s t) ∧
      ((tget s.mix.zones z).cfg.enabled = true → e.enabled = false → ∃ t, exec (.write [.zone e]) s = .next t ∧
        answered .ok s t ∧ (tget t.mix.zones z).cfg = clampZone e ∧ listOf t z = [] ∧
        (∀ ent x, listOf s z = [ent] → claimAt s ent.claim = some x → (∃ node tag, x.owner = .peer node tag) →
          (∀ y, y ≠ z → entryIn (listOf s y) ent.claim = none) →
          (tget s.mix.zones z).cfg.supervision = e.supervision → fadeOn s (.master z) = none →
          claimGone ent.claim s t ∧ recorded .claimEnd ent.claim.val 2 s t ∧
          counterOf t (.entriesEvicted z) = saturatingSucc (counterOf s (.entriesEvicted z)) ∧
          originTold true x (finishOperation false .ok .none) s t ∧
          keepsBut (.mix :: .slots :: .claims :: .reports :: answerParts) s t)) ∧
      (∀ l : List ChanId, (tget s.mix.zones z).cfg.enabled = false → e.enabled = true →
        (tget s.mix.zones z).cfg.supervision = e.supervision → fadeOn s (.master z) = none →
        s.alarm.list.filterMap (fun x => if tget x.zones z then x.channel else none) = l → l.Nodup →
        s.claims.queue.length + l.length ≤ 16 → ∃ t, exec (.write [.zone e]) s = .next t ∧ answered .ok s t ∧
          t.mix = { s.mix with zones := tset s.mix.zones z { tget s.mix.zones z with cfg := clampZone e } } ∧
          t.claims = { s.claims with queue := t.claims.queue } ∧
          t.claims.queue = s.claims.queue ++ ((l.filter fun ch => (channelOf s ch).request = .none).map fun ch =>
            match (channelOf s ch).claim with
            | some c => .gain ch c (tset noZones z true)
            | none => .start (channelRequest s ch)) ∧
          (∀ ch, channelOf t ch =
            if ch ∉ l then channelOf s ch
            else if (channelOf s ch).request ≠ .none
              then { channelOf s ch with owed := unionZones (channelOf s ch).owed (tset noZones z true) }
            else { channelOf s ch with request := if (channelOf s ch).claim = none then .start else .gain }) ∧
          t.alarm = { s.alarm with channels := t.alarm.channels } ∧
          keepsBut (.mix :: .claims :: .alarm :: answerParts) s t ∧ answerKept s t) ∧
      ((tget s.mix.zones z).cfg.enabled = e.enabled → fadeOn s (.master z) = none →
        ((tget s.mix.zones z).cfg.supervision = true → e.supervision = false →
          ∃ t, exec (.write [.zone e]) s = .next t ∧ answered .ok s t ∧
            t.mix = { s.mix with zones := tset s.mix.zones z { tget s.mix.zones z with cfg := clampZone e } } ∧
            recordOf t (laneOfZone z) = { recordOf s (laneOfZone z) with
              state := none
              lastVerdict := none
              loadSum := 0
              returns := 0
              faultSeen := false
              overtempSeen := false
              overtemp := false
              whole := false } ∧
            t.lines = { s.lines with lanes := (tset s.lines.lanes (laneOfZone z)
              ⟨recordOf t (laneOfZone z), (tget s.lines.lanes (laneOfZone z)).back⟩) } ∧
            ((recordOf s (laneOfZone z)).state = none → keepsBut (.mix :: .lines :: answerParts) s t) ∧
            ((recordOf s (laneOfZone z)).state ≠ none → reportedOnce .lineState z.val 0 s t ∧
              counterOf t (.lineChanges (laneOfZone z)) = saturatingSucc (counterOf s (.lineChanges (laneOfZone z)))) ∧
            keepsBut (.mix :: .lines :: .reports :: answerParts) s t ∧ answerKept s t) ∧
        ((tget s.mix.zones z).cfg.supervision = false → e.supervision = true →
          ∃ t, exec (.write [.zone e]) s = .next t ∧ answered .ok s t ∧
            t.mix = { s.mix with zones := tset s.mix.zones z { tget s.mix.zones z with cfg := clampZone e } } ∧
            t.lines = { s.lines with lanes := (tset s.lines.lanes (laneOfZone z)
              ⟨{ recordOf s (laneOfZone z) with whole := false }, (tget s.lines.lanes (laneOfZone z)).back⟩) } ∧
            keepsBut (.mix :: .lines :: answerParts) s t ∧ answerKept s t)) ∧
      (∀ f : Fade, fadeOn s (.master z) = some f → (tget s.mix.zones z).cfg.enabled = e.enabled →
        (tget s.mix.zones z).cfg.supervision = e.supervision → ∃ t, exec (.write [.zone e]) s = .next t ∧
          answered .ok s t ∧
          t.mix = { s.mix with zones := tset s.mix.zones z { tget s.mix.zones z with cfg := clampZone e } } ∧
          t.scene = { s.scene with fades := s.scene.fades.filter fun x => x.target ≠ .master z } ∧
          reportedOnce .fadeCancelled (768 + z.val) (tget s.mix.zones z).cfg.master.val s t ∧
          counterOf t .fadesCancelled = saturatingSucc (counterOf s .fadesCancelled) ∧
          keepsBut (.mix :: .scene :: .reports :: answerParts) s t ∧ answerKept s t)) ∧
    (∀ e : Entry, readOnlyAt s.control.pointer.table s.control.pointer.row = true → ∃ t, exec (.write [e]) s = .next t ∧
      t.control.answer = ⟨operationIndex s, .readOnly, .taken 0⟩ ∧
      t.control.pointer = advancePointer s.control.pointer ∧ keepsBut answerParts s t ∧ answerKept s t) ∧
    (∀ (e : SourceEntry) (i : SlotId), s.control.pointer.table = .source → i.val = s.control.pointer.row → i.val < 23 →
      writtenBinding e.mode e.binding ≠ (tget s.slots i).binding ∨ (tget s.slots i).mode ≠ some e.mode →
      slotInUse s i = true →
      ∃ t, exec (.write [.source e]) s = .next t ∧ t.control.answer = ⟨operationIndex s, .inUse, .taken 0⟩ ∧
        t.control.pointer = advancePointer s.control.pointer ∧ keepsBut answerParts s t ∧ answerKept s t) ∧
    (∀ e : Entry, s.control.pointer.table = .matrix → (∀ c, e ≠ .level c) → ∃ t, exec (.write [e]) s = .next t ∧
      t.control.answer = ⟨operationIndex s, .outOfRange, .taken 0⟩ ∧ t.control.pointer = s.control.pointer ∧
      keepsBut answerParts s t ∧ answerKept s t) ∧
    (∀ (e : SourceEntry) (i : SlotId), s.control.pointer.table = .source → i.val = s.control.pointer.row → i.val < 23 →
      slotInUse s i = false ∨
        (writtenBinding e.mode e.binding = (tget s.slots i).binding ∧ (tget s.slots i).mode = some e.mode) →
      ∃ t, exec (.write [.source e]) s = .next t ∧ answered .ok s t ∧
        t.control.pointer = advancePointer s.control.pointer ∧
        (∀ j, j ≠ i → tget t.slots j = tget s.slots j) ∧
        (writtenBinding e.mode e.binding = (tget s.slots i).binding → tget t.slots i =
          { tget s.slots i with mode := some e.mode, cls := slotClass e.cls, trim := e.trim }) ∧
        (writtenBinding e.mode e.binding ≠ (tget s.slots i).binding → tget t.slots i =
          { binding := writtenBinding e.mode e.binding
            mode := some e.mode
            cls := slotClass e.cls
            trim := e.trim
            block := silence
            fresh := false
            miss := if writtenBinding e.mode e.binding = .unbound then 50 else 0
            health := if writtenBinding e.mode e.binding = .unbound then .lost else .live }) ∧
        keepsBut (.slots :: answerParts) s t ∧ answerKept s t) ∧
    (∀ (e : GroupEntry) (g : GroupId), s.control.pointer.table = .group → g.val = s.control.pointer.row →
      (e.peers.length ≤ 4 → ∃ t, exec (.write [.group e]) s = .next t ∧ answered .ok s t ∧
        t.control.pointer = advancePointer s.control.pointer ∧ t.claims = { s.claims with
          groups := tset s.claims.groups g
            ⟨e.zones, e.peers.map fun p => ⟨max 1 (min 254 p.node), min 31 p.group⟩⟩ } ∧
        keepsBut (.claims :: answerParts) s t ∧ answerKept s t) ∧
      (4 < e.peers.length → ∃ t, exec (.write [.group e]) s = .next t ∧
        t.control.answer = ⟨operationIndex s, .outOfRange, .taken 0⟩ ∧ t.control.pointer = s.control.pointer ∧
        keepsBut answerParts s t ∧ answerKept s t)) ∧
    (∀ (e : ChimeEntry) (i : Fin 4), s.control.pointer.table = .chime → i.val = s.control.pointer.row →
      ∃ t, exec (.write [.chime e]) s = .next t ∧ answered .ok s t ∧
        t.control.pointer = advancePointer s.control.pointer ∧
        t.claims = { s.claims with
          chimeTable := tset s.claims.chimeTable i
            ⟨max 100 (min 4000 e.freq), e.amp, min 1000 e.duration⟩ } ∧
        keepsBut (.claims :: answerParts) s t ∧ answerKept s t) ∧
    (∀ (e : StationEntry) (st : StationId), s.control.pointer.table = .station → st.val = s.control.pointer.row →
      ∃ t, exec (.write [.station e]) s = .next t ∧ answered .ok s t ∧
        t.control.pointer = advancePointer s.control.pointer ∧
        stationOf t st = { stationOf s st with cfg := { e with
          home := min 23 e.home
          maxPriority := max 1 (min 6 e.maxPriority)
          holdSeconds := min 600 e.holdSeconds } } ∧
        (∀ x, x ≠ st → stationOf t x = stationOf s x) ∧ t.intercom = { s.intercom with stations := t.intercom.stations } ∧
        keepsBut (.intercom :: answerParts) s t ∧ answerKept s t) ∧
    (∀ (f : KeyFn) (st : StationId) (k : KeyId), s.control.pointer.table = .keymap → st.val = s.control.pointer.row →
      k.val = s.control.pointer.column → ∃ t, exec (.write [.key f]) s = .next t ∧ answered .ok s t ∧
        t.control.pointer = advancePointer s.control.pointer ∧
        t.intercom = { s.intercom with
          keymap := tset s.intercom.keymap st (tset (tget s.intercom.keymap st) k (match f with
            | .call n => .call (min 31 n)
            | .join n => .join (min 3 n)
            | .page g p m q c l => .page (min 31 g) (max 1 (min 6 p)) m q c l
            | .alarmStart p g => .alarmStart (min 7 p) (if g ≤ 31 then g else 255)
            | .alarmStop p => .alarmStop (min 7 p)
            | .unknown => .none
            | f => f)) } ∧
        keepsBut (.intercom :: answerParts) s t ∧ answerKept s t) ∧
    (∀ (e : ProgramEntry) (p : ProgramId), s.control.pointer.table = .alarmProgram → p.val = s.control.pointer.row →
      (alarmEntry s p = none → ∃ t, exec (.write [.program e]) s = .next t ∧ answered .ok s t ∧
        t.control.pointer = advancePointer s.control.pointer ∧ t.alarm = { s.alarm with
          programs := tset s.alarm.programs p
            { rank := min 7 e.rank
              defaultGroup := min 31 e.defaultGroup
              steps := (e.steps.take 16).map fun x => match x with
                | .tone f a on off => .tone (max 100 (min 4000 f)) a (max 1 (min 4000 on)) (min 4000 off)
                | .clip n => .clip (min 63 n)
                | .repeatTo k c => .repeatTo (min 15 k) c
                | .silent n => .silent (max 1 (min 4000 n))
                | .stop => .stop
                | .unknown => .stop } } ∧
        keepsBut (.alarm :: answerParts) s t ∧ answerKept s t) ∧
      (alarmEntry s p ≠ none → ∃ t, exec (.write [.program e]) s = .next t ∧
        t.control.answer = ⟨operationIndex s, .inUse, .taken 0⟩ ∧
        t.control.pointer = advancePointer s.control.pointer ∧ keepsBut answerParts s t ∧ answerKept s t) ∧
      (∀ (f : ProgramEntry) (q : ProgramId), alarmEntry s p ≠ none → alarmEntry s q = none →
        (advancePointer s.control.pointer).row = q.val → ∃ t, exec (.write [.program e, .program f]) s = .next t ∧
          t.control.answer = ⟨operationIndex s, .inUse, .taken 1⟩ ∧
          t.control.pointer = advancePointer (advancePointer s.control.pointer) ∧
          t.alarm = { s.alarm with programs := tset s.alarm.programs q (clampProgram f) } ∧
          keepsBut (.alarm :: answerParts) s t ∧ answerKept s t)) ∧
    (∀ (e : PatternEntry) (p : PatternId), s.control.pointer.table = .pattern → p.val = s.control.pointer.row →
      ∃ t, exec (.write [.pattern e]) s = .next t ∧ answered .ok s t ∧
        t.control.pointer = advancePointer s.control.pointer ∧ t.alarm = { s.alarm with
          patterns := tset s.alarm.patterns p { e with
            origin := if e.origin = 255 then 0 else e.origin
            action := match e.action with
              | .start q g => .start (min 7 q) (if g ≤ 31 then g else 255)
              | .stop q => .stop (min 7 q) } } ∧
        keepsBut (.alarm :: answerParts) s t ∧ answerKept s t) ∧
    (∀ e : NodeEntry, s.control.pointer.table = .node → ∃ t, exec (.write [.node e]) s = .next t ∧ answered .ok s t ∧
      t.control.pointer = advancePointer s.control.pointer ∧
      t.control.node = ⟨if e.controllerA = 255 then 254 else e.controllerA,
        if e.controllerB = 255 then 254 else e.controllerB,
        max 100 (min 60000 e.timeout), max 2 (min 255 e.answerTimeout), max 125 (min 7500 e.ringLimit),
        max 1 (min 1000 e.reportInterval)⟩ ∧
      keepsBut answerParts s t ∧ answerKept (modControl (fun c => { c with node := t.control.node }) s) t) ∧
    (∀ e : ZoneEntry, clampZone e = { e with
      limiter := max 1 (min 8388607 e.limiter)
      release := max 1 (min 4096 e.release)
      showStop := max 1 (min 7 e.showStop)
      backup := match e.backup with
        | some n => if 24 ≤ n ∧ n ≤ 27 then some n else none
        | none => none
      openLimit := min 1023 e.openLimit
      shortLimit := min 1023 e.shortLimit
      nominalLow := min 1023 e.nominalLow
      nominalHigh := min 1023 e.nominalHigh }) ∧
    (∀ gains : List Gain, s.control.pointer.table = .taper → s.control.pointer.advance = .rowFirst →
      s.control.pointer.lastColumn ≤ s.control.pointer.column →
      s.control.pointer.firstColumn = s.control.pointer.column →
      s.control.pointer.row + gains.length ≤ s.control.pointer.lastRow + 1 → s.control.pointer.lastRow ≤ 255 →
      (∃ t, exec (.write (gains.map .gain)) s = .next t ∧ answered .ok s t ∧
        t.control.pointer = iterate advancePointer gains.length s.control.pointer ∧
        (∀ c : Code, tget t.mix.taper c = if s.control.pointer.row ≤ c.val
          then gains.getD (c.val - s.control.pointer.row) (tget s.mix.taper c) else tget s.mix.taper c) ∧
        t.mix = { s.mix with taper := t.mix.taper } ∧ keepsBut (.mix :: answerParts) s t ∧ answerKept s t) ∧
      (∀ (e : Entry) (more : List Entry), (∀ g, e ≠ .gain g) →
        ∃ t, exec (.write (gains.map .gain ++ e :: more)) s = .next t ∧
          t.control.answer = ⟨operationIndex s, .outOfRange, .taken gains.length⟩ ∧
          t.control.pointer = iterate advancePointer gains.length s.control.pointer ∧
          (∀ c : Code, tget t.mix.taper c = if s.control.pointer.row ≤ c.val
            then gains.getD (c.val - s.control.pointer.row) (tget s.mix.taper c) else tget s.mix.taper c) ∧
          t.mix = { s.mix with taper := t.mix.taper } ∧ keepsBut (.mix :: answerParts) s t ∧ answerKept s t))

/-- WRITE-FIELDS of the trim code alone changes the trim of a ring slot in use or not, and of a zone's duck code leaves its
running master fade, which one of the master code cancels; an unknown field, a read-only one, a mode or a binding of a slot
in use that would change and a read-only place are refused, with the pointer advanced past the entry. WRITE-IF of a TAPER
entry writes it when the entry stands as compared (HIT), and otherwise returns it as it stands (MISS) and writes nothing. A
WRITE-IF at a read-only place, and one that hits but whose write is refused, are refused with the same codes as a WRITE, and
the pointer advances (R24, R143, R194, R195). -/
def Obligations.ConditionalWrites : Prop :=
  ∀ s : State, ready s →
    (∀ (c : Code) (i : SlotId), s.control.pointer.table = .source → i.val = s.control.pointer.row → i.val < 23 →
      (tget s.slots i).cls ≠ .voiceClass → ∃ t, exec (.writeFields [.sourceTrim c]) s = .next t ∧ answered .ok s t ∧
        t.control.pointer = advancePointer s.control.pointer ∧
        t.slots = tset s.slots i { tget s.slots i with trim := c } ∧
        keepsBut (.slots :: answerParts) s t ∧ answerKept s t) ∧
    (∀ (c : Code) (z : ZoneId) (f : Fade), s.control.pointer.table = .zone → z.val = s.control.pointer.row →
      fadeOn s (.master z) = some f → clampZone (tget s.mix.zones z).cfg = (tget s.mix.zones z).cfg →
      (∃ t, exec (.writeFields [.zoneDuck c]) s = .next t ∧ answered .ok s t ∧
        t.mix = { s.mix with zones := tmod s.mix.zones z fun x => { x with cfg := { x.cfg with duck := c } } } ∧
        keepsBut (.mix :: answerParts) s t ∧ answerKept s t) ∧
      ∃ t, exec (.writeFields [.zoneMaster c]) s = .next t ∧ answered .ok s t ∧
        t.mix = { s.mix with zones := tmod s.mix.zones z fun x => { x with cfg := { x.cfg with master := c } } } ∧
        t.scene = { s.scene with fades := s.scene.fades.filter fun x => x.target ≠ .master z } ∧
        reportedOnce .fadeCancelled (768 + z.val) (tget s.mix.zones z).cfg.master.val s t ∧
        keepsBut (.mix :: .scene :: .reports :: answerParts) s t ∧ answerKept s t) ∧
    (∀ i : SlotId, s.control.pointer.table = .source → i.val = s.control.pointer.row → i.val < 23 →
      (∃ t, exec (.writeFields [.unknown]) s = .next t ∧ refusedWith .outOfRange s t ∧
        t.control.pointer = advancePointer s.control.pointer) ∧
      (∃ t, exec (.writeFields [.readOnly]) s = .next t ∧ refusedWith .readOnly s t ∧
        t.control.pointer = advancePointer s.control.pointer) ∧
      (∀ m, slotInUse s i = true → (tget s.slots i).mode ≠ some m →
        ∃ t, exec (.writeFields [.sourceMode m]) s = .next t ∧ refusedWith .inUse s t ∧
          t.control.pointer = advancePointer s.control.pointer) ∧
      (∀ b, slotInUse s i = true → writtenBinding ((tget s.slots i).mode.getD .static) b ≠ (tget s.slots i).binding →
        ∃ t, exec (.writeFields [.sourceBinding b]) s = .next t ∧ refusedWith .inUse s t ∧
          t.control.pointer = advancePointer s.control.pointer)) ∧
    (readOnlyAt s.control.pointer.table s.control.pointer.row = true →
      (∀ l, ∃ t, exec (.writeFields l) s = .next t ∧ refusedWith .readOnly s t ∧
        t.control.pointer = advancePointer s.control.pointer) ∧
      (∀ x y, ∃ t, exec (.writeIf x y) s = .next t ∧ refusedWith .readOnly s t ∧
        t.control.pointer = advancePointer s.control.pointer)) ∧
    (∀ (p : ProgramId) (x y : ProgramEntry), s.control.pointer.table = .alarmProgram → p.val = s.control.pointer.row →
      alarmEntry s p ≠ none → programOf s p = x → ∃ t, exec (.writeIf (.program x) (.program y)) s = .next t ∧
        refusedWith .inUse s t ∧ t.control.pointer = advancePointer s.control.pointer) ∧
    (∀ (i : SlotId) (x y : SourceEntry), s.control.pointer.table = .source → i.val = s.control.pointer.row → i.val < 23 →
      sourceEntry (tget s.slots i) = x → slotInUse s i = true →
      writtenBinding y.mode y.binding ≠ (tget s.slots i).binding ∨ (tget s.slots i).mode ≠ some y.mode →
      ∃ t, exec (.writeIf (.source x) (.source y)) s = .next t ∧ refusedWith .inUse s t ∧
        t.control.pointer = advancePointer s.control.pointer) ∧
    (∀ (x y : Gain) (c : Code), s.control.pointer.table = .taper → c.val = s.control.pointer.row →
      (tget s.mix.taper c = x → ∃ t, exec (.writeIf (.gain x) (.gain y)) s = .next t ∧ answered .hit s t ∧
        t.control.pointer = advancePointer s.control.pointer ∧ t.mix = { s.mix with taper := tset s.mix.taper c y } ∧
        keepsBut (.mix :: answerParts) s t ∧ answerKept s t) ∧
      (tget s.mix.taper c ≠ x → ∃ t, exec (.writeIf (.gain x) (.gain y)) s = .next t ∧
        t.control.answer = ⟨operationIndex s, .miss, .missed .taper (.gain (tget s.mix.taper c))⟩ ∧
        t.control.pointer = advancePointer s.control.pointer ∧ keepsBut answerParts s t ∧ answerKept s t))

/-- READ returns entries from the pointer onward, each as it stands when it is read, advancing after each, at most 32 and as
many of those asked for as fit the REPLY; it changes nothing but the pointer, with the clear flag off. With the clear flag
the counters read are 0 after it, a counter met again reads 0, and every other counter is as it was; of a table without
counters the flag does nothing. The end of the frame in service may originate its REPLY and count what becomes of it (R195,
R197, R204). The sizes of entries in bytes are constants without a value (log entry 3); a READ outside a
frame in service is the model's (log entry 8). -/
def Obligations.Reads : Prop :=
  ∀ (n : Nat) (clear : Bool) (s : State), ready s → ∃ t l, exec (.read n clear) s = .next t ∧
    t.control.answer = ⟨operationIndex s, .ok, .entries s.control.pointer.table l⟩ ∧ l.length ≤ min n 32 ∧
    (l = [] ∨ Config.resultHeadBytes + (l.map entrySize).sum ≤ replyRoom (placedResults s)) ∧
    t.control.pointer = iterate advancePointer l.length s.control.pointer ∧
    (clear = false ∨ s.control.pointer.table ≠ .counters → ∀ k, k < l.length →
      l[k]? = some (readEntry s s.control.pointer.table
        (iterate advancePointer k s.control.pointer).row (iterate advancePointer k s.control.pointer).column)) ∧
    (clear = true → s.control.pointer.table = .counters → ∀ k, k < l.length → l[k]? = some (.counter
      (if ∃ j, j < k ∧ finUpTo 550 (iterate advancePointer j s.control.pointer).row =
          finUpTo 550 (iterate advancePointer k s.control.pointer).row then 0
        else tget s.counters (finUpTo 550 (iterate advancePointer k s.control.pointer).row)))) ∧
    (l.length < min n 32 → replyRoom (placedResults s) < Config.resultHeadBytes + (l.map entrySize).sum +
      entrySize (readEntry s s.control.pointer.table (iterate advancePointer l.length s.control.pointer).row
        (iterate advancePointer l.length s.control.pointer).column)) ∧
    (clear = false ∨ s.control.pointer.table ≠ .counters → countsBut (replyCounts s) s t) ∧
    (clear = true → s.control.pointer.table = .counters → ∀ r : Fin 551, (∀ c ∈ replyCounts s, r ≠ counterIx c) →
      tget t.counters r = if ∃ k, k < l.length ∧ r = finUpTo 550 (iterate advancePointer k s.control.pointer).row then 0
        else tget s.counters r) ∧
    (s.control.service = none → t.control = { s.control with
      answer := ⟨0, .ok, .entries s.control.pointer.table l⟩
      pointer := iterate advancePointer l.length s.control.pointer }) ∧
    keepsBut answerParts s t ∧ answerKept s t

/-- CLAIM-START and PLAY-CLIP offer a management start request and wait for its answer; a slot, group or clip out of range,
a clip that is not READY, no free player and a full request queue are refused. A playback's player is reserved for it, and
is free again where the queue is full (R79, R174, R196). -/
def Obligations.ManagementRequests : Prop :=
  ∀ (group priority : Nat) (mode : ClaimMode) (policy : Policy) (chime : Bool) (s : State), ready s →
    (∀ slot hold, claimStartSlot s slot = none ∨ 32 ≤ group →
      ∃ t, exec (.claimStart slot group priority mode policy chime hold) s = .next t ∧ refusedWith .outOfRange s t) ∧
    (∀ slot hold i (g : GroupId), claimStartSlot s slot = some i → g.val = group →
      (s.claims.queue.length < 14 →
        ∃ t, exec (.claimStart slot group priority mode policy chime hold) s = .next t ∧
          t.claims = { s.claims with queue := s.claims.queue ++
            [.start (managementRequest i g priority mode policy chime hold s.control.service.isSome)] } ∧
          t.control = { s.control with service := s.control.service.map fun v => { v with waiting := true } } ∧
          keepsBut [.claims, .control] s t) ∧
      (14 ≤ s.claims.queue.length →
        ∃ t, exec (.claimStart slot group priority mode policy chime hold) s = .next t ∧
          counterOf t .requestsBusy = saturatingSucc (counterOf s .requestsBusy) ∧ refusedWith .busy s t)) ∧
    (∀ clip, 64 ≤ clip ∨ 32 ≤ group →
      ∃ t, exec (.playClip clip group priority mode policy chime) s = .next t ∧ refusedWith .outOfRange s t) ∧
    (∀ (c : ClipId) (g : GroupId), g.val = group →
      ((clipAt s c).state ≠ .ready →
        ∃ t, exec (.playClip c.val group priority mode policy chime) s = .next t ∧ refusedWith .notReady s t) ∧
      ((clipAt s c).state = .ready → freePlayer s = none →
        ∃ t, exec (.playClip c.val group priority mode policy chime) s = .next t ∧ refusedWith .busy s t) ∧
      (∀ p, (clipAt s c).state = .ready → freePlayer s = some p → s.claims.queue.length < 14 →
        ∃ t, exec (.playClip c.val group priority mode policy chime) s = .next t ∧
          t.claims = { s.claims with queue := s.claims.queue ++
            [.start (managementRequest (playerSlot p) g priority mode policy chime 0 s.control.service.isSome)] } ∧
          t.clips = { s.clips with
            players := tset s.clips.players p { playerOf s p with owner := .management none, clip := c } } ∧
          t.control = { s.control with service := s.control.service.map fun v => { v with waiting := true } } ∧
          keepsBut [.claims, .clips, .control] s t) ∧
      (∀ p, (clipAt s c).state = .ready → freePlayer s = some p → 14 ≤ s.claims.queue.length →
        ∃ t, exec (.playClip c.val group priority mode policy chime) s = .next t ∧ answered .busy s t ∧
          playerOf t p = idlePlayer ∧ (∀ q, q ≠ p → playerOf t q = playerOf s q) ∧
          t.clips.directory = s.clips.directory ∧ t.clips.writes = s.clips.writes ∧
          ((∀ r ∈ s.clips.reads, readOfPlayer p r = false) →
            (∀ r, s.clips.inFlight = some (.read r) → readOfPlayer p r = false) →
            t.clips = { s.clips with players := tset s.clips.players p idlePlayer }) ∧
          counterOf t .requestsBusy = saturatingSucc (counterOf s .requestsBusy) ∧
          keepsBut (.clips :: answerParts) s t ∧ answerKept s t))

/-- SAVE-IMAGE queues the bytes of an image of the tables as they stand, with the ACTIVE bank as the matrix, or is refused
BUSY. An image is its signature, format 1, the length and CRC-32 of its body, and the body; read back it is judged valid
wherever its body is of the length its tables need. SOFT-RESET and RELOAD are refused ALARM-ACTIVE while an alarm runs. A
soft reset empties claims, lists, queues, calls, cues, fades, alarms and reports, makes every slot and every station silent,
and keeps the tables, the banks, the slot records, the ring and the clip directory; the frames and counts that go with it
are those of the claims between nodes that it ends and of the REPLY. A reload does so and begins to load the image (R22,
R35, R57, R75, R100, R120, R134, R142, R162, R176, R188, R199, R200, R201, R205). Each claim and call ends RESET without a
report. The values of the access pointer, of a free channel and of an idle player that the manual does not name are the
model's (log entry 11), and so are the layouts inside the image's entries (log entry 3). -/
def Obligations.SaveAndResets : Prop :=
  (∀ x : ImageTables, (imageBodyBytes x).length ≤ 32756 → (imageBytes x).length = 32768 ∧
    (imageBytes x).take 4 = [0xA7, 0x24, 0xC1, 0x5E] ∧ word16At (imageBytes x) 4 = 1 ∧
    word16At (imageBytes x) 6 = (imageBodyBytes x).length ∧
    BitVec.ofNat 32 (word32At (imageBytes x) 8) = crc32 (imageBodyBytes x) ∧
    ((imageBytes x).drop 12).take (imageBodyBytes x).length = imageBodyBytes x ∧
    (∀ y, 1 ≤ (imageBodyBytes x).length → imageBody (imageBodyBytes x) = some y → judgeImage (imageBytes x) = .ok y)) ∧
  (∀ s : State, ready s →
    (s.control.saving = true ∨ 4 ≤ s.clips.writes.length →
      ∃ t, exec .saveImage s = .next t ∧ refusedWith .busy s t) ∧
    (s.control.saving = false → s.clips.writes.length < 4 → s.clips.inFlight ≠ none →
      ∃ t, exec .saveImage s = .next t ∧ answered .ok s t ∧
        t.clips = { s.clips with
          writes := s.clips.writes ++ [⟨.image (imageBytes (savedTables s)), 0, false, s.clips.stamp⟩]
          stamp := s.clips.stamp + 1 } ∧
        (savedTables s).bank = s.scene.active ∧ (savedTables s).node = s.control.node ∧
        (savedTables s).taper = s.mix.taper ∧ (savedTables s).groups = s.claims.groups ∧
        (savedTables s).chime = s.claims.chimeTable ∧ (savedTables s).keys = s.intercom.keymap ∧
        (savedTables s).programs = s.alarm.programs ∧ (savedTables s).patterns = s.alarm.patterns ∧
        (∀ z, tget (savedTables s).zones z = (tget s.mix.zones z).cfg) ∧
        (∀ st, tget (savedTables s).stations st = (stationOf s st).cfg) ∧
        (∀ (i : Fin 23) (j : SlotId), j.val = i.val → tget (savedTables s).sources i = sourceEntry (tget s.slots j)) ∧
        keepsBut (.clips :: answerParts) s t ∧ answerKept (modControl (fun c => { c with saving := true }) s) t) ∧
    (alarmRunning s = true → (∃ t, exec .softReset s = .next t ∧ refusedWith .alarmActive s t) ∧
      ∃ t, exec .reload s = .next t ∧ refusedWith .alarmActive s t) ∧
    (alarmRunning s = false → ∀ i, i = .softReset ∨ i = .reload → ∃ t, exec i s = .next t ∧ answered .ok s t ∧
      (∀ j, (tget t.slots j).mode = (tget s.slots j).mode ∧ (tget t.slots j).cls = (tget s.slots j).cls ∧
        (tget t.slots j).trim = (tget s.slots j).trim ∧ (tget t.slots j).block = silence ∧
        (tget t.slots j).fresh = false) ∧
      (∀ j o b c, (tget s.slots j).mode = some .static → (tget s.slots j).binding = .ring o b c →
        (∀ k cl, claimAt s k = some cl → cl.slot = j → cl.owner = .management ∨ ∃ ch, cl.owner = .alarm ch) →
        (∀ v, s.peer.service = some v → v.slot ≠ j) →
        tget t.slots j = { tget s.slots j with block := silence, fresh := false }) ∧
      t.mix = { s.mix with zones := tmap (fun _ z => { z with gain := 32768 }) s.mix.zones } ∧
      t.scene = { s.scene with cues := [], fades := [], held := noZones } ∧
      t.claims = { s.claims with
        table := Vector.replicate 48 none
        lists := Vector.replicate 24 []
        queue := []
        chimeGen := ⟨none, 0⟩
        reported := Vector.replicate 24 .free } ∧
      t.peer = ⟨Vector.replicate 8 none, Vector.replicate 4 none, [], none⟩ ∧
      (∀ k, callAt t k = none) ∧ t.intercom.keymap = s.intercom.keymap ∧
      (∀ st, stationOf t st = { stationOf s st with
        keys := tmap (fun _ (k : KeyState) => ⟨k.down, false⟩) (stationOf s st).keys
        ringer := false
        page := none
        mic := silence
        speaker := silence
        flash := Vector.replicate 8 0 }) ∧
      t.alarm = { s.alarm with list := [], channels := Vector.replicate 2 freeChannel } ∧
      (∀ p, (playerOf t p).state = .idle ∧ (playerOf t p).owner = .none) ∧
      t.clips.directory = s.clips.directory ∧ t.clips.writtenSet = s.clips.writtenSet ∧
      t.lines = { s.lines with unheard := noZones } ∧ t.reports = ⟨[], false, 0⟩ ∧
      t.ring = { s.ring with portA := t.ring.portA, portB := t.ring.portB, seq := t.ring.seq } ∧
      (∀ p, (portOf t p).link = (portOf s p).link) ∧
      ((∀ k, entryAt s k = none) → (∀ k cl node tag, claimAt s k = some cl → cl.owner ≠ .peer node tag) → ringKept s t) ∧
      t.control.pointer = resetPointer ∧ t.control.timer = 0 ∧ t.control.node = s.control.node ∧
      t.control.saving = s.control.saving ∧
      countsBut [.inboundPreempted, .linkDiscard .a, .linkDiscard .b, .queueFull .a, .queueFull .b, .operationsRefused,
        .controlDropped] s t ∧
      t.boundary = s.boundary ∧ t.pending = s.pending ∧
      (i = .softReset → t.control.mode = s.control.mode ∧ t.control.queue = s.control.queue ∧
        t.control.load = s.control.load ∧ t.intercom.phase = s.intercom.phase ∧ t.clips.writes = s.clips.writes ∧
        counterOf t .controlDropped = counterOf s .controlDropped) ∧
      (i = .reload → t.control.mode = .loading ∧ t.control.queue = [] ∧ t.control.service = none ∧
        t.control.load = some ⟨false, [], none, []⟩ ∧ t.intercom.phase = 7 ∧
        counterOf t .controlDropped = iterate saturatingSucc s.control.queue.length (counterOf s .controlDropped))))

/-! ### Reports and counters (chapter 12) -/

/-- Placing a report: a record of its kind and subject takes the new value and period number in its place and is counted
REPORTS-COALESCED; otherwise the report joins the end of a queue with room; otherwise the oldest record goes, the overflow
flag is set and REPORTS-DROPPED counted. In UNADDRESSED it is discarded; in every mode the bounds of the queue are kept
(R202). -/
def Obligations.ReportPlacement : Prop :=
  ∀ (kind : ReportKind) (subject value : Nat) (s : State),
    (s.control.mode = .unaddressed → report kind subject value s = s) ∧
    (s.control.mode ≠ .unaddressed →
      (∀ before r after, s.reports.queue = before ++ r :: after → r.kind = kind → r.subject = subject → reportsOk s →
        (report kind subject value s).reports =
          { s.reports with queue := before ++ ⟨kind, subject, value, s.ring.period⟩ :: after } ∧
        countsOne .reportsCoalesced s (report kind subject value s)) ∧
      ((∀ r ∈ s.reports.queue, ¬(r.kind = kind ∧ r.subject = subject)) → s.reports.queue.length < 32 →
        (report kind subject value s).reports =
          { s.reports with queue := s.reports.queue ++ [⟨kind, subject, value, s.ring.period⟩] } ∧
        (report kind subject value s).counters = s.counters) ∧
      ((∀ r ∈ s.reports.queue, ¬(r.kind = kind ∧ r.subject = subject)) → 32 ≤ s.reports.queue.length →
        (report kind subject value s).reports = { s.reports with
          queue := s.reports.queue.tail ++ [⟨kind, subject, value, s.ring.period⟩]
          overflow := true } ∧
        countsOne .reportsDropped s (report kind subject value s))) ∧
    (reportsOk s → reportsOk (report kind subject value s)) ∧
    keepsBut [.reports, .counters] s (report kind subject value s)

/-- An emission: the interval count returns to 0; up to 12 records leave the queue, oldest first, with the overflow flag,
and one REPORT frame with them is originated for each controller, or one for every node where the list is empty; with an
empty queue no frame is made and the overflow flag stays (R203). That the frame of the first controller place goes before
that of the second is the model's (log entry 12). A change is due at the boundary in progress as log entry 1 has it. -/
def Obligations.ReportEmission : Prop :=
  ∀ s : State, isDue .reportEmission s → intervalReached s = true →
    (s.reports.queue = [] → ∃ u, carriesOut .reportEmission .reportEmission s u ∧
      u.reports = { s.reports with interval := 0 } ∧ keepsBut [.reports, .boundary] s u) ∧
    (s.reports.queue ≠ [] → ∃ u, carriesOut .reportEmission .reportEmission s u ∧
      u.reports = ⟨s.reports.queue.drop 12, false, 0⟩ ∧
      (∀ d, controllers s.control.node = [d] → u.ring = (originate reportKind d
        (.report (s.reports.queue.take 12) s.reports.overflow) s).ring ∧
        counterOf u .reportFrames = saturatingSucc (counterOf s .reportFrames)) ∧
      (∀ c d, controllers s.control.node = [c, d] → u.ring = (originate reportKind d
        (.report (s.reports.queue.take 12) s.reports.overflow) (originate reportKind c
          (.report (s.reports.queue.take 12) s.reports.overflow) s)).ring ∧
        counterOf u .reportFrames = saturatingSucc (saturatingSucc (counterOf s .reportFrames))) ∧
      (controllers s.control.node = [] → u.ring = (originate reportKind 255
        (.report (s.reports.queue.take 12) s.reports.overflow) s).ring ∧
        counterOf u .reportFrames = saturatingSucc (counterOf s .reportFrames)) ∧
      keepsBut [.ring, .reports, .counters, .boundary] s u)

/-! ### What every step keeps -/

/-- The state after reset is safe, every entry of its claim lists names a claim of the table, and its lists are in order. -/
def Obligations.ResetIsSafe : Prop := Safe State.reset ∧ entriesHeld State.reset ∧ listsOrdered State.reset

/-- Every step keeps the bounds of the report queue: at most 32 records, no two of one kind and subject (R202). -/
def Obligations.ReportQueueKept : Prop := ∀ s t : State, reportsOk s → step s = .next t → reportsOk t

/-- Every step keeps the bounds of the ring ports: at most 32 frames in an output queue, and none at a port that is not UP
(R2, R14). -/
def Obligations.PortsKept : Prop := ∀ s t : State, portsOk s → step s = .next t → portsOk t

/-- Every step keeps limiter gains, thresholds and release steps in their ranges (R36, R37, R51). -/
def Obligations.LimitersKept : Prop := ∀ s t : State, limitersOk s → step s = .next t → limitersOk t

/-- Every step keeps claim lists at four entries or fewer, keeps every entry of a list naming a claim of the table, and,
where every entry does so, keeps the lists in order of priority and rank and without two entries of one claim; that an entry
which arrives later stands behind those that it does not outrank is InsertionKeepsOrder's (R78, R83, R91). -/
def Obligations.ListsKept : Prop :=
  (∀ s t : State, listsOk s → step s = .next t → listsOk t) ∧
  (∀ s t : State, entriesHeld s → step s = .next t → entriesHeld t) ∧
  (∀ s t : State, entriesHeld s → listsOrdered s → step s = .next t → listsOrdered t)

/-- The node id changes only at a power-on reset, and an UNADDRESSED part with no load in progress stays so until then
(R19). -/
def Obligations.IdentityKept : Prop :=
  ∀ s t : State, (∀ straps, s.pending.head? ≠ some (.powerOnReset straps)) → step s = .next t →
    t.ring.nodeId = s.ring.nodeId ∧
    (s.control.mode = .unaddressed → s.control.load = none → t.control.mode = .unaddressed ∧ t.control.load = none)

end Statements
end

