-- ==== Sys2Proof/Laws/State.lean ====
section
/-! SUPPORT. One lemma for each part of the state under each update of one block's state. -/
namespace Sys2Proof.Machine

/-! `modRing` -/

@[simp] theorem modRing_ring (f : Ring → Ring) (s : State) :
    (modRing f s).ring = f s.ring := rfl
@[simp] theorem modRing_slots (f : Ring → Ring) (s : State) :
    (modRing f s).slots = s.slots := rfl
@[simp] theorem modRing_mix (f : Ring → Ring) (s : State) :
    (modRing f s).mix = s.mix := rfl
@[simp] theorem modRing_scene (f : Ring → Ring) (s : State) :
    (modRing f s).scene = s.scene := rfl
@[simp] theorem modRing_claims (f : Ring → Ring) (s : State) :
    (modRing f s).claims = s.claims := rfl
@[simp] theorem modRing_peer (f : Ring → Ring) (s : State) :
    (modRing f s).peer = s.peer := rfl
@[simp] theorem modRing_intercom (f : Ring → Ring) (s : State) :
    (modRing f s).intercom = s.intercom := rfl
@[simp] theorem modRing_alarm (f : Ring → Ring) (s : State) :
    (modRing f s).alarm = s.alarm := rfl
@[simp] theorem modRing_clips (f : Ring → Ring) (s : State) :
    (modRing f s).clips = s.clips := rfl
@[simp] theorem modRing_lines (f : Ring → Ring) (s : State) :
    (modRing f s).lines = s.lines := rfl
@[simp] theorem modRing_control (f : Ring → Ring) (s : State) :
    (modRing f s).control = s.control := rfl
@[simp] theorem modRing_reports (f : Ring → Ring) (s : State) :
    (modRing f s).reports = s.reports := rfl
@[simp] theorem modRing_counters (f : Ring → Ring) (s : State) :
    (modRing f s).counters = s.counters := rfl
@[simp] theorem modRing_boundary (f : Ring → Ring) (s : State) :
    (modRing f s).boundary = s.boundary := rfl
@[simp] theorem modRing_pending (f : Ring → Ring) (s : State) :
    (modRing f s).pending = s.pending := rfl

/-! `modSlots` -/

@[simp] theorem modSlots_ring (f : Vector Slot 32 → Vector Slot 32) (s : State) :
    (modSlots f s).ring = s.ring := rfl
@[simp] theorem modSlots_slots (f : Vector Slot 32 → Vector Slot 32) (s : State) :
    (modSlots f s).slots = f s.slots := rfl
@[simp] theorem modSlots_mix (f : Vector Slot 32 → Vector Slot 32) (s : State) :
    (modSlots f s).mix = s.mix := rfl
@[simp] theorem modSlots_scene (f : Vector Slot 32 → Vector Slot 32) (s : State) :
    (modSlots f s).scene = s.scene := rfl
@[simp] theorem modSlots_claims (f : Vector Slot 32 → Vector Slot 32) (s : State) :
    (modSlots f s).claims = s.claims := rfl
@[simp] theorem modSlots_peer (f : Vector Slot 32 → Vector Slot 32) (s : State) :
    (modSlots f s).peer = s.peer := rfl
@[simp] theorem modSlots_intercom (f : Vector Slot 32 → Vector Slot 32) (s : State) :
    (modSlots f s).intercom = s.intercom := rfl
@[simp] theorem modSlots_alarm (f : Vector Slot 32 → Vector Slot 32) (s : State) :
    (modSlots f s).alarm = s.alarm := rfl
@[simp] theorem modSlots_clips (f : Vector Slot 32 → Vector Slot 32) (s : State) :
    (modSlots f s).clips = s.clips := rfl
@[simp] theorem modSlots_lines (f : Vector Slot 32 → Vector Slot 32) (s : State) :
    (modSlots f s).lines = s.lines := rfl
@[simp] theorem modSlots_control (f : Vector Slot 32 → Vector Slot 32) (s : State) :
    (modSlots f s).control = s.control := rfl
@[simp] theorem modSlots_reports (f : Vector Slot 32 → Vector Slot 32) (s : State) :
    (modSlots f s).reports = s.reports := rfl
@[simp] theorem modSlots_counters (f : Vector Slot 32 → Vector Slot 32) (s : State) :
    (modSlots f s).counters = s.counters := rfl
@[simp] theorem modSlots_boundary (f : Vector Slot 32 → Vector Slot 32) (s : State) :
    (modSlots f s).boundary = s.boundary := rfl
@[simp] theorem modSlots_pending (f : Vector Slot 32 → Vector Slot 32) (s : State) :
    (modSlots f s).pending = s.pending := rfl

/-! `modMix` -/

@[simp] theorem modMix_ring (f : Mix → Mix) (s : State) :
    (modMix f s).ring = s.ring := rfl
@[simp] theorem modMix_slots (f : Mix → Mix) (s : State) :
    (modMix f s).slots = s.slots := rfl
@[simp] theorem modMix_mix (f : Mix → Mix) (s : State) :
    (modMix f s).mix = f s.mix := rfl
@[simp] theorem modMix_scene (f : Mix → Mix) (s : State) :
    (modMix f s).scene = s.scene := rfl
@[simp] theorem modMix_claims (f : Mix → Mix) (s : State) :
    (modMix f s).claims = s.claims := rfl
@[simp] theorem modMix_peer (f : Mix → Mix) (s : State) :
    (modMix f s).peer = s.peer := rfl
@[simp] theorem modMix_intercom (f : Mix → Mix) (s : State) :
    (modMix f s).intercom = s.intercom := rfl
@[simp] theorem modMix_alarm (f : Mix → Mix) (s : State) :
    (modMix f s).alarm = s.alarm := rfl
@[simp] theorem modMix_clips (f : Mix → Mix) (s : State) :
    (modMix f s).clips = s.clips := rfl
@[simp] theorem modMix_lines (f : Mix → Mix) (s : State) :
    (modMix f s).lines = s.lines := rfl
@[simp] theorem modMix_control (f : Mix → Mix) (s : State) :
    (modMix f s).control = s.control := rfl
@[simp] theorem modMix_reports (f : Mix → Mix) (s : State) :
    (modMix f s).reports = s.reports := rfl
@[simp] theorem modMix_counters (f : Mix → Mix) (s : State) :
    (modMix f s).counters = s.counters := rfl
@[simp] theorem modMix_boundary (f : Mix → Mix) (s : State) :
    (modMix f s).boundary = s.boundary := rfl
@[simp] theorem modMix_pending (f : Mix → Mix) (s : State) :
    (modMix f s).pending = s.pending := rfl

/-! `modScene` -/

@[simp] theorem modScene_ring (f : Scene → Scene) (s : State) :
    (modScene f s).ring = s.ring := rfl
@[simp] theorem modScene_slots (f : Scene → Scene) (s : State) :
    (modScene f s).slots = s.slots := rfl
@[simp] theorem modScene_mix (f : Scene → Scene) (s : State) :
    (modScene f s).mix = s.mix := rfl
@[simp] theorem modScene_scene (f : Scene → Scene) (s : State) :
    (modScene f s).scene = f s.scene := rfl
@[simp] theorem modScene_claims (f : Scene → Scene) (s : State) :
    (modScene f s).claims = s.claims := rfl
@[simp] theorem modScene_peer (f : Scene → Scene) (s : State) :
    (modScene f s).peer = s.peer := rfl
@[simp] theorem modScene_intercom (f : Scene → Scene) (s : State) :
    (modScene f s).intercom = s.intercom := rfl
@[simp] theorem modScene_alarm (f : Scene → Scene) (s : State) :
    (modScene f s).alarm = s.alarm := rfl
@[simp] theorem modScene_clips (f : Scene → Scene) (s : State) :
    (modScene f s).clips = s.clips := rfl
@[simp] theorem modScene_lines (f : Scene → Scene) (s : State) :
    (modScene f s).lines = s.lines := rfl
@[simp] theorem modScene_control (f : Scene → Scene) (s : State) :
    (modScene f s).control = s.control := rfl
@[simp] theorem modScene_reports (f : Scene → Scene) (s : State) :
    (modScene f s).reports = s.reports := rfl
@[simp] theorem modScene_counters (f : Scene → Scene) (s : State) :
    (modScene f s).counters = s.counters := rfl
@[simp] theorem modScene_boundary (f : Scene → Scene) (s : State) :
    (modScene f s).boundary = s.boundary := rfl
@[simp] theorem modScene_pending (f : Scene → Scene) (s : State) :
    (modScene f s).pending = s.pending := rfl

/-! `modClaims` -/

@[simp] theorem modClaims_ring (f : Claims → Claims) (s : State) :
    (modClaims f s).ring = s.ring := rfl
@[simp] theorem modClaims_slots (f : Claims → Claims) (s : State) :
    (modClaims f s).slots = s.slots := rfl
@[simp] theorem modClaims_mix (f : Claims → Claims) (s : State) :
    (modClaims f s).mix = s.mix := rfl
@[simp] theorem modClaims_scene (f : Claims → Claims) (s : State) :
    (modClaims f s).scene = s.scene := rfl
@[simp] theorem modClaims_claims (f : Claims → Claims) (s : State) :
    (modClaims f s).claims = f s.claims := rfl
@[simp] theorem modClaims_peer (f : Claims → Claims) (s : State) :
    (modClaims f s).peer = s.peer := rfl
@[simp] theorem modClaims_intercom (f : Claims → Claims) (s : State) :
    (modClaims f s).intercom = s.intercom := rfl
@[simp] theorem modClaims_alarm (f : Claims → Claims) (s : State) :
    (modClaims f s).alarm = s.alarm := rfl
@[simp] theorem modClaims_clips (f : Claims → Claims) (s : State) :
    (modClaims f s).clips = s.clips := rfl
@[simp] theorem modClaims_lines (f : Claims → Claims) (s : State) :
    (modClaims f s).lines = s.lines := rfl
@[simp] theorem modClaims_control (f : Claims → Claims) (s : State) :
    (modClaims f s).control = s.control := rfl
@[simp] theorem modClaims_reports (f : Claims → Claims) (s : State) :
    (modClaims f s).reports = s.reports := rfl
@[simp] theorem modClaims_counters (f : Claims → Claims) (s : State) :
    (modClaims f s).counters = s.counters := rfl
@[simp] theorem modClaims_boundary (f : Claims → Claims) (s : State) :
    (modClaims f s).boundary = s.boundary := rfl
@[simp] theorem modClaims_pending (f : Claims → Claims) (s : State) :
    (modClaims f s).pending = s.pending := rfl

/-! `modPeer` -/

@[simp] theorem modPeer_ring (f : Peer → Peer) (s : State) :
    (modPeer f s).ring = s.ring := rfl
@[simp] theorem modPeer_slots (f : Peer → Peer) (s : State) :
    (modPeer f s).slots = s.slots := rfl
@[simp] theorem modPeer_mix (f : Peer → Peer) (s : State) :
    (modPeer f s).mix = s.mix := rfl
@[simp] theorem modPeer_scene (f : Peer → Peer) (s : State) :
    (modPeer f s).scene = s.scene := rfl
@[simp] theorem modPeer_claims (f : Peer → Peer) (s : State) :
    (modPeer f s).claims = s.claims := rfl
@[simp] theorem modPeer_peer (f : Peer → Peer) (s : State) :
    (modPeer f s).peer = f s.peer := rfl
@[simp] theorem modPeer_intercom (f : Peer → Peer) (s : State) :
    (modPeer f s).intercom = s.intercom := rfl
@[simp] theorem modPeer_alarm (f : Peer → Peer) (s : State) :
    (modPeer f s).alarm = s.alarm := rfl
@[simp] theorem modPeer_clips (f : Peer → Peer) (s : State) :
    (modPeer f s).clips = s.clips := rfl
@[simp] theorem modPeer_lines (f : Peer → Peer) (s : State) :
    (modPeer f s).lines = s.lines := rfl
@[simp] theorem modPeer_control (f : Peer → Peer) (s : State) :
    (modPeer f s).control = s.control := rfl
@[simp] theorem modPeer_reports (f : Peer → Peer) (s : State) :
    (modPeer f s).reports = s.reports := rfl
@[simp] theorem modPeer_counters (f : Peer → Peer) (s : State) :
    (modPeer f s).counters = s.counters := rfl
@[simp] theorem modPeer_boundary (f : Peer → Peer) (s : State) :
    (modPeer f s).boundary = s.boundary := rfl
@[simp] theorem modPeer_pending (f : Peer → Peer) (s : State) :
    (modPeer f s).pending = s.pending := rfl

/-! `modIntercom` -/

@[simp] theorem modIntercom_ring (f : Intercom → Intercom) (s : State) :
    (modIntercom f s).ring = s.ring := rfl
@[simp] theorem modIntercom_slots (f : Intercom → Intercom) (s : State) :
    (modIntercom f s).slots = s.slots := rfl
@[simp] theorem modIntercom_mix (f : Intercom → Intercom) (s : State) :
    (modIntercom f s).mix = s.mix := rfl
@[simp] theorem modIntercom_scene (f : Intercom → Intercom) (s : State) :
    (modIntercom f s).scene = s.scene := rfl
@[simp] theorem modIntercom_claims (f : Intercom → Intercom) (s : State) :
    (modIntercom f s).claims = s.claims := rfl
@[simp] theorem modIntercom_peer (f : Intercom → Intercom) (s : State) :
    (modIntercom f s).peer = s.peer := rfl
@[simp] theorem modIntercom_intercom (f : Intercom → Intercom) (s : State) :
    (modIntercom f s).intercom = f s.intercom := rfl
@[simp] theorem modIntercom_alarm (f : Intercom → Intercom) (s : State) :
    (modIntercom f s).alarm = s.alarm := rfl
@[simp] theorem modIntercom_clips (f : Intercom → Intercom) (s : State) :
    (modIntercom f s).clips = s.clips := rfl
@[simp] theorem modIntercom_lines (f : Intercom → Intercom) (s : State) :
    (modIntercom f s).lines = s.lines := rfl
@[simp] theorem modIntercom_control (f : Intercom → Intercom) (s : State) :
    (modIntercom f s).control = s.control := rfl
@[simp] theorem modIntercom_reports (f : Intercom → Intercom) (s : State) :
    (modIntercom f s).reports = s.reports := rfl
@[simp] theorem modIntercom_counters (f : Intercom → Intercom) (s : State) :
    (modIntercom f s).counters = s.counters := rfl
@[simp] theorem modIntercom_boundary (f : Intercom → Intercom) (s : State) :
    (modIntercom f s).boundary = s.boundary := rfl
@[simp] theorem modIntercom_pending (f : Intercom → Intercom) (s : State) :
    (modIntercom f s).pending = s.pending := rfl

/-! `modAlarm` -/

@[simp] theorem modAlarm_ring (f : Alarm → Alarm) (s : State) :
    (modAlarm f s).ring = s.ring := rfl
@[simp] theorem modAlarm_slots (f : Alarm → Alarm) (s : State) :
    (modAlarm f s).slots = s.slots := rfl
@[simp] theorem modAlarm_mix (f : Alarm → Alarm) (s : State) :
    (modAlarm f s).mix = s.mix := rfl
@[simp] theorem modAlarm_scene (f : Alarm → Alarm) (s : State) :
    (modAlarm f s).scene = s.scene := rfl
@[simp] theorem modAlarm_claims (f : Alarm → Alarm) (s : State) :
    (modAlarm f s).claims = s.claims := rfl
@[simp] theorem modAlarm_peer (f : Alarm → Alarm) (s : State) :
    (modAlarm f s).peer = s.peer := rfl
@[simp] theorem modAlarm_intercom (f : Alarm → Alarm) (s : State) :
    (modAlarm f s).intercom = s.intercom := rfl
@[simp] theorem modAlarm_alarm (f : Alarm → Alarm) (s : State) :
    (modAlarm f s).alarm = f s.alarm := rfl
@[simp] theorem modAlarm_clips (f : Alarm → Alarm) (s : State) :
    (modAlarm f s).clips = s.clips := rfl
@[simp] theorem modAlarm_lines (f : Alarm → Alarm) (s : State) :
    (modAlarm f s).lines = s.lines := rfl
@[simp] theorem modAlarm_control (f : Alarm → Alarm) (s : State) :
    (modAlarm f s).control = s.control := rfl
@[simp] theorem modAlarm_reports (f : Alarm → Alarm) (s : State) :
    (modAlarm f s).reports = s.reports := rfl
@[simp] theorem modAlarm_counters (f : Alarm → Alarm) (s : State) :
    (modAlarm f s).counters = s.counters := rfl
@[simp] theorem modAlarm_boundary (f : Alarm → Alarm) (s : State) :
    (modAlarm f s).boundary = s.boundary := rfl
@[simp] theorem modAlarm_pending (f : Alarm → Alarm) (s : State) :
    (modAlarm f s).pending = s.pending := rfl

/-! `modClips` -/

@[simp] theorem modClips_ring (f : Clips → Clips) (s : State) :
    (modClips f s).ring = s.ring := rfl
@[simp] theorem modClips_slots (f : Clips → Clips) (s : State) :
    (modClips f s).slots = s.slots := rfl
@[simp] theorem modClips_mix (f : Clips → Clips) (s : State) :
    (modClips f s).mix = s.mix := rfl
@[simp] theorem modClips_scene (f : Clips → Clips) (s : State) :
    (modClips f s).scene = s.scene := rfl
@[simp] theorem modClips_claims (f : Clips → Clips) (s : State) :
    (modClips f s).claims = s.claims := rfl
@[simp] theorem modClips_peer (f : Clips → Clips) (s : State) :
    (modClips f s).peer = s.peer := rfl
@[simp] theorem modClips_intercom (f : Clips → Clips) (s : State) :
    (modClips f s).intercom = s.intercom := rfl
@[simp] theorem modClips_alarm (f : Clips → Clips) (s : State) :
    (modClips f s).alarm = s.alarm := rfl
@[simp] theorem modClips_clips (f : Clips → Clips) (s : State) :
    (modClips f s).clips = f s.clips := rfl
@[simp] theorem modClips_lines (f : Clips → Clips) (s : State) :
    (modClips f s).lines = s.lines := rfl
@[simp] theorem modClips_control (f : Clips → Clips) (s : State) :
    (modClips f s).control = s.control := rfl
@[simp] theorem modClips_reports (f : Clips → Clips) (s : State) :
    (modClips f s).reports = s.reports := rfl
@[simp] theorem modClips_counters (f : Clips → Clips) (s : State) :
    (modClips f s).counters = s.counters := rfl
@[simp] theorem modClips_boundary (f : Clips → Clips) (s : State) :
    (modClips f s).boundary = s.boundary := rfl
@[simp] theorem modClips_pending (f : Clips → Clips) (s : State) :
    (modClips f s).pending = s.pending := rfl

/-! `modLines` -/

@[simp] theorem modLines_ring (f : Lines → Lines) (s : State) :
    (modLines f s).ring = s.ring := rfl
@[simp] theorem modLines_slots (f : Lines → Lines) (s : State) :
    (modLines f s).slots = s.slots := rfl
@[simp] theorem modLines_mix (f : Lines → Lines) (s : State) :
    (modLines f s).mix = s.mix := rfl
@[simp] theorem modLines_scene (f : Lines → Lines) (s : State) :
    (modLines f s).scene = s.scene := rfl
@[simp] theorem modLines_claims (f : Lines → Lines) (s : State) :
    (modLines f s).claims = s.claims := rfl
@[simp] theorem modLines_peer (f : Lines → Lines) (s : State) :
    (modLines f s).peer = s.peer := rfl
@[simp] theorem modLines_intercom (f : Lines → Lines) (s : State) :
    (modLines f s).intercom = s.intercom := rfl
@[simp] theorem modLines_alarm (f : Lines → Lines) (s : State) :
    (modLines f s).alarm = s.alarm := rfl
@[simp] theorem modLines_clips (f : Lines → Lines) (s : State) :
    (modLines f s).clips = s.clips := rfl
@[simp] theorem modLines_lines (f : Lines → Lines) (s : State) :
    (modLines f s).lines = f s.lines := rfl
@[simp] theorem modLines_control (f : Lines → Lines) (s : State) :
    (modLines f s).control = s.control := rfl
@[simp] theorem modLines_reports (f : Lines → Lines) (s : State) :
    (modLines f s).reports = s.reports := rfl
@[simp] theorem modLines_counters (f : Lines → Lines) (s : State) :
    (modLines f s).counters = s.counters := rfl
@[simp] theorem modLines_boundary (f : Lines → Lines) (s : State) :
    (modLines f s).boundary = s.boundary := rfl
@[simp] theorem modLines_pending (f : Lines → Lines) (s : State) :
    (modLines f s).pending = s.pending := rfl

/-! `modControl` -/

@[simp] theorem modControl_ring (f : Control → Control) (s : State) :
    (modControl f s).ring = s.ring := rfl
@[simp] theorem modControl_slots (f : Control → Control) (s : State) :
    (modControl f s).slots = s.slots := rfl
@[simp] theorem modControl_mix (f : Control → Control) (s : State) :
    (modControl f s).mix = s.mix := rfl
@[simp] theorem modControl_scene (f : Control → Control) (s : State) :
    (modControl f s).scene = s.scene := rfl
@[simp] theorem modControl_claims (f : Control → Control) (s : State) :
    (modControl f s).claims = s.claims := rfl
@[simp] theorem modControl_peer (f : Control → Control) (s : State) :
    (modControl f s).peer = s.peer := rfl
@[simp] theorem modControl_intercom (f : Control → Control) (s : State) :
    (modControl f s).intercom = s.intercom := rfl
@[simp] theorem modControl_alarm (f : Control → Control) (s : State) :
    (modControl f s).alarm = s.alarm := rfl
@[simp] theorem modControl_clips (f : Control → Control) (s : State) :
    (modControl f s).clips = s.clips := rfl
@[simp] theorem modControl_lines (f : Control → Control) (s : State) :
    (modControl f s).lines = s.lines := rfl
@[simp] theorem modControl_control (f : Control → Control) (s : State) :
    (modControl f s).control = f s.control := rfl
@[simp] theorem modControl_reports (f : Control → Control) (s : State) :
    (modControl f s).reports = s.reports := rfl
@[simp] theorem modControl_counters (f : Control → Control) (s : State) :
    (modControl f s).counters = s.counters := rfl
@[simp] theorem modControl_boundary (f : Control → Control) (s : State) :
    (modControl f s).boundary = s.boundary := rfl
@[simp] theorem modControl_pending (f : Control → Control) (s : State) :
    (modControl f s).pending = s.pending := rfl

/-! `modReports` -/

@[simp] theorem modReports_ring (f : Reports → Reports) (s : State) :
    (modReports f s).ring = s.ring := rfl
@[simp] theorem modReports_slots (f : Reports → Reports) (s : State) :
    (modReports f s).slots = s.slots := rfl
@[simp] theorem modReports_mix (f : Reports → Reports) (s : State) :
    (modReports f s).mix = s.mix := rfl
@[simp] theorem modReports_scene (f : Reports → Reports) (s : State) :
    (modReports f s).scene = s.scene := rfl
@[simp] theorem modReports_claims (f : Reports → Reports) (s : State) :
    (modReports f s).claims = s.claims := rfl
@[simp] theorem modReports_peer (f : Reports → Reports) (s : State) :
    (modReports f s).peer = s.peer := rfl
@[simp] theorem modReports_intercom (f : Reports → Reports) (s : State) :
    (modReports f s).intercom = s.intercom := rfl
@[simp] theorem modReports_alarm (f : Reports → Reports) (s : State) :
    (modReports f s).alarm = s.alarm := rfl
@[simp] theorem modReports_clips (f : Reports → Reports) (s : State) :
    (modReports f s).clips = s.clips := rfl
@[simp] theorem modReports_lines (f : Reports → Reports) (s : State) :
    (modReports f s).lines = s.lines := rfl
@[simp] theorem modReports_control (f : Reports → Reports) (s : State) :
    (modReports f s).control = s.control := rfl
@[simp] theorem modReports_reports (f : Reports → Reports) (s : State) :
    (modReports f s).reports = f s.reports := rfl
@[simp] theorem modReports_counters (f : Reports → Reports) (s : State) :
    (modReports f s).counters = s.counters := rfl
@[simp] theorem modReports_boundary (f : Reports → Reports) (s : State) :
    (modReports f s).boundary = s.boundary := rfl
@[simp] theorem modReports_pending (f : Reports → Reports) (s : State) :
    (modReports f s).pending = s.pending := rfl

/-! `modCounters` -/

@[simp] theorem modCounters_ring (f : Vector Word32 551 → Vector Word32 551) (s : State) :
    (modCounters f s).ring = s.ring := rfl
@[simp] theorem modCounters_slots (f : Vector Word32 551 → Vector Word32 551) (s : State) :
    (modCounters f s).slots = s.slots := rfl
@[simp] theorem modCounters_mix (f : Vector Word32 551 → Vector Word32 551) (s : State) :
    (modCounters f s).mix = s.mix := rfl
@[simp] theorem modCounters_scene (f : Vector Word32 551 → Vector Word32 551) (s : State) :
    (modCounters f s).scene = s.scene := rfl
@[simp] theorem modCounters_claims (f : Vector Word32 551 → Vector Word32 551) (s : State) :
    (modCounters f s).claims = s.claims := rfl
@[simp] theorem modCounters_peer (f : Vector Word32 551 → Vector Word32 551) (s : State) :
    (modCounters f s).peer = s.peer := rfl
@[simp] theorem modCounters_intercom (f : Vector Word32 551 → Vector Word32 551) (s : State) :
    (modCounters f s).intercom = s.intercom := rfl
@[simp] theorem modCounters_alarm (f : Vector Word32 551 → Vector Word32 551) (s : State) :
    (modCounters f s).alarm = s.alarm := rfl
@[simp] theorem modCounters_clips (f : Vector Word32 551 → Vector Word32 551) (s : State) :
    (modCounters f s).clips = s.clips := rfl
@[simp] theorem modCounters_lines (f : Vector Word32 551 → Vector Word32 551) (s : State) :
    (modCounters f s).lines = s.lines := rfl
@[simp] theorem modCounters_control (f : Vector Word32 551 → Vector Word32 551) (s : State) :
    (modCounters f s).control = s.control := rfl
@[simp] theorem modCounters_reports (f : Vector Word32 551 → Vector Word32 551) (s : State) :
    (modCounters f s).reports = s.reports := rfl
@[simp] theorem modCounters_counters (f : Vector Word32 551 → Vector Word32 551) (s : State) :
    (modCounters f s).counters = f s.counters := rfl
@[simp] theorem modCounters_boundary (f : Vector Word32 551 → Vector Word32 551) (s : State) :
    (modCounters f s).boundary = s.boundary := rfl
@[simp] theorem modCounters_pending (f : Vector Word32 551 → Vector Word32 551) (s : State) :
    (modCounters f s).pending = s.pending := rfl

/-! `modBoundary` -/

@[simp] theorem modBoundary_ring (f : Boundary → Boundary) (s : State) :
    (modBoundary f s).ring = s.ring := rfl
@[simp] theorem modBoundary_slots (f : Boundary → Boundary) (s : State) :
    (modBoundary f s).slots = s.slots := rfl
@[simp] theorem modBoundary_mix (f : Boundary → Boundary) (s : State) :
    (modBoundary f s).mix = s.mix := rfl
@[simp] theorem modBoundary_scene (f : Boundary → Boundary) (s : State) :
    (modBoundary f s).scene = s.scene := rfl
@[simp] theorem modBoundary_claims (f : Boundary → Boundary) (s : State) :
    (modBoundary f s).claims = s.claims := rfl
@[simp] theorem modBoundary_peer (f : Boundary → Boundary) (s : State) :
    (modBoundary f s).peer = s.peer := rfl
@[simp] theorem modBoundary_intercom (f : Boundary → Boundary) (s : State) :
    (modBoundary f s).intercom = s.intercom := rfl
@[simp] theorem modBoundary_alarm (f : Boundary → Boundary) (s : State) :
    (modBoundary f s).alarm = s.alarm := rfl
@[simp] theorem modBoundary_clips (f : Boundary → Boundary) (s : State) :
    (modBoundary f s).clips = s.clips := rfl
@[simp] theorem modBoundary_lines (f : Boundary → Boundary) (s : State) :
    (modBoundary f s).lines = s.lines := rfl
@[simp] theorem modBoundary_control (f : Boundary → Boundary) (s : State) :
    (modBoundary f s).control = s.control := rfl
@[simp] theorem modBoundary_reports (f : Boundary → Boundary) (s : State) :
    (modBoundary f s).reports = s.reports := rfl
@[simp] theorem modBoundary_counters (f : Boundary → Boundary) (s : State) :
    (modBoundary f s).counters = s.counters := rfl
@[simp] theorem modBoundary_boundary (f : Boundary → Boundary) (s : State) :
    (modBoundary f s).boundary = f s.boundary := rfl
@[simp] theorem modBoundary_pending (f : Boundary → Boundary) (s : State) :
    (modBoundary f s).pending = s.pending := rfl

/-! `modPending` -/

@[simp] theorem modPending_ring (f : List Instr → List Instr) (s : State) :
    (modPending f s).ring = s.ring := rfl
@[simp] theorem modPending_slots (f : List Instr → List Instr) (s : State) :
    (modPending f s).slots = s.slots := rfl
@[simp] theorem modPending_mix (f : List Instr → List Instr) (s : State) :
    (modPending f s).mix = s.mix := rfl
@[simp] theorem modPending_scene (f : List Instr → List Instr) (s : State) :
    (modPending f s).scene = s.scene := rfl
@[simp] theorem modPending_claims (f : List Instr → List Instr) (s : State) :
    (modPending f s).claims = s.claims := rfl
@[simp] theorem modPending_peer (f : List Instr → List Instr) (s : State) :
    (modPending f s).peer = s.peer := rfl
@[simp] theorem modPending_intercom (f : List Instr → List Instr) (s : State) :
    (modPending f s).intercom = s.intercom := rfl
@[simp] theorem modPending_alarm (f : List Instr → List Instr) (s : State) :
    (modPending f s).alarm = s.alarm := rfl
@[simp] theorem modPending_clips (f : List Instr → List Instr) (s : State) :
    (modPending f s).clips = s.clips := rfl
@[simp] theorem modPending_lines (f : List Instr → List Instr) (s : State) :
    (modPending f s).lines = s.lines := rfl
@[simp] theorem modPending_control (f : List Instr → List Instr) (s : State) :
    (modPending f s).control = s.control := rfl
@[simp] theorem modPending_reports (f : List Instr → List Instr) (s : State) :
    (modPending f s).reports = s.reports := rfl
@[simp] theorem modPending_counters (f : List Instr → List Instr) (s : State) :
    (modPending f s).counters = s.counters := rfl
@[simp] theorem modPending_boundary (f : List Instr → List Instr) (s : State) :
    (modPending f s).boundary = s.boundary := rfl
@[simp] theorem modPending_pending (f : List Instr → List Instr) (s : State) :
    (modPending f s).pending = f s.pending := rfl

end Sys2Proof.Machine
end

