-- ==== Sys2Proof/Laws/Tables.lean ====
section
/-! SUPPORT. Reading a table after a write of one entry, and the walk over a list of items. -/
namespace Sys2Proof

@[simp] theorem tget_tset_self {α : Type} {n : Nat} (v : Vector α n) (i : Fin n) (a : α) : tget (tset v i a) i = a := by
  simp [tget, tset]

theorem tget_tset_ne {α : Type} {n : Nat} (v : Vector α n) {i j : Fin n} (a : α) (h : i ≠ j) :
    tget (tset v i a) j = tget v j := by
  have h' : (i : Nat) ≠ j := fun e => h (Fin.ext e)
  simp [tget, tset, Vector.getElem_set_ne, h']

theorem tget_tset {α : Type} {n : Nat} (v : Vector α n) (i j : Fin n) (a : α) :
    tget (tset v i a) j = if i = j then a else tget v j := by
  by_cases h : i = j
  · subst h; simp
  · simp [h, tget_tset_ne]

@[simp] theorem tget_tmod_self {α : Type} {n : Nat} (v : Vector α n) (i : Fin n) (f : α → α) :
    tget (tmod v i f) i = f (tget v i) := by simp [tmod]

theorem tget_tmod_ne {α : Type} {n : Nat} (v : Vector α n) {i j : Fin n} (f : α → α) (h : i ≠ j) :
    tget (tmod v i f) j = tget v j := by simp [tmod, tget_tset_ne, h]

theorem tget_tmod {α : Type} {n : Nat} (v : Vector α n) (i j : Fin n) (f : α → α) :
    tget (tmod v i f) j = if i = j then f (tget v j) else tget v j := by
  by_cases h : i = j
  · subst h; simp
  · simp [h, tget_tmod_ne]

@[simp] theorem tget_tmap {α β : Type} {n : Nat} (f : Fin n → α → β) (v : Vector α n) (i : Fin n) :
    tget (tmap f v) i = f i (tget v i) := by simp [tget, tmap]

@[simp] theorem tget_ofFn {α : Type} {n : Nat} (f : Fin n → α) (i : Fin n) : tget (Vector.ofFn f) i = f i := by
  simp [tget]

@[simp] theorem tget_replicate {α : Type} {n : Nat} (a : α) (i : Fin n) : tget (Vector.replicate n a) i = a := by
  simp [tget]

/-- Tables with the same entries are the same. -/
theorem table_ext {α : Type} {n : Nat} {v w : Vector α n} (h : ∀ i, tget v i = tget w i) : v = w := by
  apply Vector.ext
  intro i hi
  exact h ⟨i, hi⟩

namespace Machine

@[simp] theorem forEach_nil {α : Type} (f : α → State → State) (s : State) : forEach [] f s = s := rfl
@[simp] theorem forEach_cons {α : Type} (a : α) (l : List α) (f : α → State → State) (s : State) :
    forEach (a :: l) f s = forEach l f (f a s) := rfl

theorem forEach_append {α : Type} (l m : List α) (f : α → State → State) (s : State) :
    forEach (l ++ m) f s = forEach m f (forEach l f s) := by simp [forEach]

/-- What one change keeps, a walk of such changes keeps. -/
theorem forEach_induct {α : Type} (P : State → Prop) (f : α → State → State) (l : List α)
    (h : ∀ a ∈ l, ∀ s, P s → P (f a s)) (s : State) (hs : P s) : P (forEach l f s) := by
  induction l generalizing s with
  | nil => exact hs
  | cons a l ih =>
    exact ih (fun b hb => h b (List.mem_cons_of_mem _ hb)) _ (h a List.mem_cons_self s hs)

end Machine
end Sys2Proof
end

