-- ==== Sys2Proof/Laws/Ops.lean ====
section
/-! SUPPORT. What each shared operation can do: its result, and the parts of the state it leaves alone. -/
namespace Sys2Proof.Machine

/-! ### Frames in general -/

theorem keepsBut_refl (l : List Part) (s : State) : keepsBut l s s := fun p _ => by cases p <;> rfl

theorem agree_trans {s t u : State} {p : Part} (h : agree s t p) (k : agree t u p) : agree s u p := by
  cases p <;> exact Eq.trans k h

theorem keepsBut_trans {l : List Part} {s t u : State} (h : keepsBut l s t) (k : keepsBut l t u) : keepsBut l s u :=
  fun p hp => agree_trans (h p hp) (k p hp)

theorem keepsBut_mono {l m : List Part} {s t : State} (hl : ∀ p ∈ l, p ∈ m) (h : keepsBut l s t) : keepsBut m s t :=
  fun p hp => h p fun hp' => hp (hl p hp')

/-- A walk whose every change keeps all but some parts does so too. -/
theorem keepsBut_forEach {α : Type} {l : List Part} {f : α → State → State} (h : ∀ a s, keepsBut l s (f a s))
    (xs : List α) (s : State) : keepsBut l s (forEach xs f s) :=
  forEach_induct (keepsBut l s) f xs (fun a _ t ht => keepsBut_trans ht (h a t)) s (keepsBut_refl l s)

theorem keepsBut_modRing (f : Ring → Ring) (s : State) : keepsBut [.ring] s (modRing f s) := by
  intro p hp; cases p <;> first | rfl | simp at hp
theorem keepsBut_modSlots (f : Vector Slot 32 → Vector Slot 32) (s : State) : keepsBut [.slots] s (modSlots f s) := by
  intro p hp; cases p <;> first | rfl | simp at hp
theorem keepsBut_modMix (f : Mix → Mix) (s : State) : keepsBut [.mix] s (modMix f s) := by
  intro p hp; cases p <;> first | rfl | simp at hp
theorem keepsBut_modScene (f : Scene → Scene) (s : State) : keepsBut [.scene] s (modScene f s) := by
  intro p hp; cases p <;> first | rfl | simp at hp
theorem keepsBut_modClaims (f : Claims → Claims) (s : State) : keepsBut [.claims] s (modClaims f s) := by
  intro p hp; cases p <;> first | rfl | simp at hp
theorem keepsBut_modPeer (f : Peer → Peer) (s : State) : keepsBut [.peer] s (modPeer f s) := by
  intro p hp; cases p <;> first | rfl | simp at hp
theorem keepsBut_modIntercom (f : Intercom → Intercom) (s : State) : keepsBut [.intercom] s (modIntercom f s) := by
  intro p hp; cases p <;> first | rfl | simp at hp
theorem keepsBut_modAlarm (f : Alarm → Alarm) (s : State) : keepsBut [.alarm] s (modAlarm f s) := by
  intro p hp; cases p <;> first | rfl | simp at hp
theorem keepsBut_modClips (f : Clips → Clips) (s : State) : keepsBut [.clips] s (modClips f s) := by
  intro p hp; cases p <;> first | rfl | simp at hp
theorem keepsBut_modLines (f : Lines → Lines) (s : State) : keepsBut [.lines] s (modLines f s) := by
  intro p hp; cases p <;> first | rfl | simp at hp
theorem keepsBut_modControl (f : Control → Control) (s : State) : keepsBut [.control] s (modControl f s) := by
  intro p hp; cases p <;> first | rfl | simp at hp
theorem keepsBut_modReports (f : Reports → Reports) (s : State) : keepsBut [.reports] s (modReports f s) := by
  intro p hp; cases p <;> first | rfl | simp at hp
theorem keepsBut_modCounters (f : Vector Word32 551 → Vector Word32 551) (s : State) :
    keepsBut [.counters] s (modCounters f s) := by
  intro p hp; cases p <;> first | rfl | simp at hp
theorem keepsBut_modBoundary (f : Boundary → Boundary) (s : State) : keepsBut [.boundary] s (modBoundary f s) := by
  intro p hp; cases p <;> first | rfl | simp at hp
theorem keepsBut_modPending (f : List Instr → List Instr) (s : State) : keepsBut [.pending] s (modPending f s) := by
  intro p hp; cases p <;> first | rfl | simp at hp

/-! ### Counters (R204) -/

theorem count_keeps (c : Counter) (s : State) : keepsBut [.counters] s (count c s) := keepsBut_modCounters _ s

@[simp] theorem counterOf_count (c : Counter) (s : State) : counterOf (count c s) c = saturatingSucc (counterOf s c) := by
  simp [counterOf, count]

theorem tget_count_ne (c : Counter) (s : State) {r : Fin 551} (h : counterIx c ≠ r) :
    tget (count c s).counters r = tget s.counters r := by simp [count, tget_tmod_ne, h]

theorem countTimes_keeps (c : Counter) (n : Nat) (s : State) : keepsBut [.counters] s (countTimes c n s) := by
  induction n generalizing s with
  | zero => exact keepsBut_refl _ s
  | succ n ih => exact keepsBut_trans (count_keeps c s) (ih (count c s))

/-! ### Output queues (R14, R15) and origination (R13) -/

@[simp] theorem portOf_modPort_self (p : Port) (f : RingPort → RingPort) (s : State) :
    portOf (modPort p f s) p = f (portOf s p) := by cases p <;> rfl

theorem portOf_modPort_ne {p q : Port} (f : RingPort → RingPort) (s : State) (h : p ≠ q) :
    portOf (modPort p f s) q = portOf s q := by cases p <;> cases q <;> first | rfl | exact absurd rfl h

theorem modPort_keeps (p : Port) (f : RingPort → RingPort) (s : State) : keepsBut [.ring] s (modPort p f s) :=
  keepsBut_modRing _ s

theorem arbitrate_keeps (p : Port) (s : State) : keepsBut [.ring] s (arbitrate p s) := by
  unfold arbitrate
  split
  · split
    · exact modPort_keeps _ _ s
    · exact keepsBut_refl _ s
  · exact keepsBut_refl _ s

theorem offer_keeps (p : Port) (f : Frame) (s : State) : keepsBut [.ring, .counters] s (offer p f s) := by
  have c : ∀ x, keepsBut [.ring, .counters] s (count x s) := fun x => keepsBut_mono (by simp) (count_keeps x s)
  unfold offer
  split
  · exact c _
  · split
    · exact c _
    · split
      · exact c _
      · exact keepsBut_mono (by simp) (keepsBut_trans (modPort_keeps p _ s) (arbitrate_keeps p _))

theorem originate_keeps (kind : Byte) (dest : Nat) (body : Body) (s : State) :
    keepsBut [.ring, .counters] s (originate kind dest body s) := by
  unfold originate
  split
  · exact keepsBut_trans (keepsBut_mono (by simp) (keepsBut_modRing _ s))
      (keepsBut_trans (offer_keeps .a _ _) (offer_keeps .b _ _))
  · exact keepsBut_refl _ s

/-! ### Reports (R202) -/

theorem report_keeps (kind : ReportKind) (subject value : Nat) (s : State) :
    keepsBut [.reports, .counters] s (report kind subject value s) := by
  unfold report
  dsimp only
  split
  · exact keepsBut_refl _ s
  · split
    · exact keepsBut_trans (keepsBut_mono (by simp) (keepsBut_modReports _ s)) (keepsBut_mono (by simp) (count_keeps _ _))
    · split
      · exact keepsBut_mono (by simp) (keepsBut_modReports _ s)
      · exact keepsBut_trans (keepsBut_mono (by simp) (keepsBut_modReports _ s)) (keepsBut_mono (by simp) (count_keeps _ _))

/-! ### Slots (R26, R29) -/

theorem modSlot_keeps (i : SlotId) (f : Slot → Slot) (s : State) : keepsBut [.slots] s (modSlot i f s) :=
  keepsBut_modSlots _ s

@[simp] theorem tget_modSlot_self (i : SlotId) (f : Slot → Slot) (s : State) :
    tget (modSlot i f s).slots i = f (tget s.slots i) := by simp [modSlot]

theorem tget_modSlot_ne {i j : SlotId} (f : Slot → Slot) (s : State) (h : i ≠ j) :
    tget (modSlot i f s).slots j = tget s.slots j := by simp [modSlot, tget_tmod_ne, h]

theorem rebind_keeps (b : Binding) (i : SlotId) (s : State) : keepsBut [.slots] s (rebind b i s) := modSlot_keeps i _ s

theorem capture_keeps (i : SlotId) (b : Block) (s : State) : keepsBut [.slots, .counters] s (capture i b s) := by
  unfold capture
  dsimp only
  split
  · exact keepsBut_trans (keepsBut_mono (by simp) (modSlot_keeps i _ s)) (keepsBut_mono (by simp) (count_keeps _ _))
  · exact keepsBut_mono (by simp) (modSlot_keeps i _ s)

/-! ### Claim lists (R78) -/

@[simp] theorem listOf_setList_self (z : ZoneId) (l : List ListEntry) (s : State) : listOf (setList z l s) z = l := by
  simp [listOf, setList]

theorem listOf_setList_ne {z y : ZoneId} (l : List ListEntry) (s : State) (h : z ≠ y) :
    listOf (setList z l s) y = listOf s y := by simp [listOf, setList, tget_tset_ne, h]

theorem noteZone_keeps (quiet : Bool) (z : ZoneId) (s : State) :
    keepsBut [.claims, .reports, .counters] s (noteZone quiet z s) := by
  have m : ∀ f, keepsBut [.claims, .reports, .counters] s (modClaims f s) :=
    fun f => keepsBut_mono (by simp) (keepsBut_modClaims f s)
  unfold noteZone reportUnless
  dsimp only
  split
  · exact keepsBut_refl _ s
  · split
    · exact m _
    · exact keepsBut_trans (m _) (keepsBut_mono (by simp) (report_keeps _ _ _ _))

theorem removeEntry_keeps (quiet : Bool) (c : ClaimId) (z : ZoneId) (s : State) :
    keepsBut [.claims, .reports, .counters] s (removeEntry quiet c z s) :=
  keepsBut_trans (keepsBut_mono (by simp) (keepsBut_modClaims _ s)) (noteZone_keeps quiet z _)

theorem endClaim_of_free {c : ClaimId} {s : State} (reason : EndReason) (h : claimAt s c = none) :
    endClaim reason c s = s := by simp [endClaim, h]

/-! ### The answer of an operation (R190, R197) -/

theorem finishFrame_keeps (v : ControlService) (s : State) : keepsBut answerParts s (finishFrame v s) := by
  have m : ∀ f, keepsBut answerParts s (modControl f s) := fun f => keepsBut_mono (by simp) (keepsBut_modControl f s)
  unfold finishFrame
  dsimp only
  split
  · exact m _
  · exact keepsBut_trans (m _) (keepsBut_mono (by simp) (originate_keeps _ _ _ _))

theorem continueFrame_keeps (v : ControlService) (s : State) : keepsBut answerParts s (continueFrame v s) := by
  unfold continueFrame
  split
  · exact finishFrame_keeps v s
  · split
    · exact keepsBut_trans (keepsBut_mono (by simp) (count_keeps _ s)) (finishFrame_keeps _ _)
    · exact keepsBut_mono (by simp) (keepsBut_modControl _ s)

theorem finishOperation_keeps (owed : Bool) (code : ResultCode) (data : ResultData) (s : State) :
    keepsBut answerParts s (finishOperation owed code data s) := by
  have h : keepsBut answerParts s (let t := modControl (fun c => { c with answer := ⟨operationIndex s, code, data⟩ }) s
      if isRefusal code then count .operationsRefused t else t) := by
    dsimp only
    split
    · exact keepsBut_trans (keepsBut_mono (by simp) (keepsBut_modControl _ s)) (keepsBut_mono (by simp) (count_keeps _ _))
    · exact keepsBut_mono (by simp) (keepsBut_modControl _ s)
  unfold finishOperation
  cases s.control.service with
  | none => exact h
  | some v => exact keepsBut_trans h (continueFrame_keeps _ _)

theorem commandDone_keeps (code : ResultCode) (s : State) : keepsBut answerParts s (commandDone code s) :=
  finishOperation_keeps false code .none s

/-- An operation that the interpreter can carry out is carried out as it is. -/
theorem operation_of_ready {s : State} (f : State → State) (h : ready s) : operation f s = f s := by
  obtain ⟨-, hr, hw⟩ := h
  unfold frameWaits at hw
  simp only [operation, hr, if_true]
  split
  · next v hv => simp_all
  · rfl

/-! ### Boundaries -/

/-- With nothing due and no boundary open there is nothing to settle. -/
theorem settle_of_quiet {s : State} (h : quiet s) : settle s = s := by simp [settle, h.1, h.2]

/-- With nothing due and no boundary open there is nothing to finish. -/
theorem finish_of_quiet {s : State} (h : quiet s) : finish s = s := by simp [finish, h.1, h.2]

/-- Where stages 1 and 2 of the scene unit are not due, they have no turn. -/
theorem sceneTurn_of_none {s : State} (h : Due.sceneWork ∉ s.boundary.due) : sceneTurn s = s := by
  simp [sceneTurn, sceneIsNext, h]

/-- Where they come next, stages 1 and 2 of the scene unit are carried out. -/
theorem sceneTurn_of_next {s : State} (h : sceneIsNext s = true) : sceneTurn s = sceneWork (dropDue .sceneWork s) := by
  simp [sceneTurn, h]

/-- With nothing due and no boundary open there is nothing to end. -/
theorem closeIfDone_of_quiet {s : State} (h : quiet s) : closeIfDone s = s := by
  have t : sceneTurn s = s := sceneTurn_of_none (by simp [h.2])
  simp [closeIfDone, t, h.1]

/-- A boundary with nothing left to carry out and no command to wait for ends. -/
theorem closeIfDone_of_done {s : State} (h : s.boundary.isOpen = true) (d : s.boundary.due = [])
    (m : s.boundary.race.meanwhile = 0) : closeIfDone s = closeBoundary s := by
  have t : sceneTurn s = s := sceneTurn_of_none (by simp [d])
  simp [closeIfDone, t, h, d, m]

/-- A boundary with nothing left to carry out that waits for a further command stays open. -/
theorem closeIfDone_of_waiting {s : State} (d : s.boundary.due = []) (m : s.boundary.race.meanwhile ≠ 0) :
    closeIfDone s = s := by
  have t : sceneTurn s = s := sceneTurn_of_none (by simp [d])
  simp [closeIfDone, t, d, m]

/-- A boundary in progress that admits a command keeps what a reader sees then, and waits for one command less. -/
theorem admitNext_of_open {s : State} (h : s.boundary.isOpen = true) : admitNext s =
    modBoundary (fun b => { b with race := { b.race with meanwhile := b.race.meanwhile - 1 } }) (see s) := by
  simp [admitNext, h]

/-- With no boundary in progress there is none that admits a command. -/
theorem admitNext_of_closed {s : State} (h : s.boundary.isOpen = false) : admitNext s = s := by simp [admitNext, h]

/-- A reader without a moment reads at the end of the boundary, and one at a moment not reached too. -/
@[simp] theorem viewAt_none (b : Boundary) (late : MixView) : viewAt b late none = late := rfl
theorem viewAt_unreached {b : Boundary} {n : Nat} (late : MixView) (h : b.seen[n]? = none) :
    viewAt b late (some n) = late := by simp [viewAt, h]

/-- A reader at a moment that was reached reads what was kept of it, with the generators' blocks of the boundary. -/
theorem viewAt_seen {b : Boundary} {n : Nat} {v : MixView} (late : MixView) (h : b.seen[n]? = some v) :
    viewAt b late (some n) = earlyView v late := by simp [viewAt, h]

/-- A stage of the line supervisor without a moment reads at the end of the boundary, and so does one whose moment was not
reached. -/
@[simp] theorem lineViewAt_none (b : Boundary) (late : MixView) : lineViewAt b late none = late := rfl
theorem lineViewAt_unreached {b : Boundary} {n : Nat} (late : MixView) (h : b.seen.length ≤ n) :
    lineViewAt b late (some n) = late := by simp [lineViewAt, List.drop_eq_nil_of_le h]

/-- A stage of the line supervisor at a moment that was reached, with no window due, reads what was kept of it. -/
theorem lineViewAt_seen {b : Boundary} {n : Nat} {v : MixView} (late : MixView) (h : b.seen[n]? = some v)
    (w : v.windowDue = false) : lineViewAt b late (some n) = v := by
  obtain ⟨k, e⟩ := List.getElem?_eq_some_iff.mp h
  simp [lineViewAt, List.drop_eq_getElem_cons k, e, w]

/-- Of two moments the end of the boundary is the later, and otherwise the greater number. -/
@[simp] theorem later_none_left (m : Option Nat) : later none m = none := rfl
@[simp] theorem later_none_right (m : Option Nat) : later m none = none := by cases m <;> rfl
@[simp] theorem later_some (m n : Nat) : later (some m) (some n) = some (max m n) := rfl

/-- A stage that reads some zone at the end of the boundary has read them all there. -/
@[simp] theorem stageEnd_none : (stageEnd fun _ => none) = none := by decide +kernel

/-- The command of a change that is not due has no effect. -/
theorem takeDue_of_not_due {d : Due} {s : State} (f : State → State) (h : d ∉ s.boundary.due) : takeDue d f s = s := by
  simp [takeDue, h]

/-- The command of a change that is due carries it out, and the boundary ends when it was the last. -/
theorem takeDue_of_due {d : Due} {s : State} (f : State → State) (h : isDue d s) :
    takeDue d f s = closeIfDone (f (dropDue d s)) := by simp [takeDue, show d ∈ s.boundary.due from h]

end Sys2Proof.Machine
end

