-- ==== Sys2Proof/WellFormed.lean ====
section
/-! DEFINITION. Which commands can reach the part at all: the shapes the manual gives to what arrives on its pins and
in its CONTROL frames. `exec` is total and does not ask for well-formedness: the checks say what a sender may send. -/
namespace Sys2Proof

/-- A signed 24-bit sample (section 0.6). -/
def sampleOk (x : Int) : Bool := decide (-8388608 ≤ x) && decide (x ≤ 8388607)

/-- Every sample of the block lies in the signed 24-bit range (section 0.6). -/
def blockOk (b : Block) : Bool := b.toList.all sampleOk

/-- A command the part can be given:
a frame received whole has at least its header and its check (section 1.3);
a microphone block holds 24-bit samples (section 0.6);
a sector read gives 4096 bytes (R170);
a WRITE carries one or more entries (R194). -/
def Instr.wellFormed : Instr → Bool
  | .frameReceived _ bytes _ => decide (12 ≤ bytes.length)
  | .micBlockArrival _ block => blockOk block
  | .flashReadComplete data => data.length == 4096
  | .write entries => !entries.isEmpty
  | .powerOnReset _ => true
  | .signalDetected _ => true
  | .trainingComplete _ => true
  | .trainingTimeout _ => true
  | .signalLost _ _ => true
  | .frameTransmitComplete _ => true
  | .localBoundary _ => true
  | .relabelWindowClose => true
  | .originEntryAgeOut _ => true
  | .sourceLost _ => true
  | .fadeComplete _ => true
  | .cueFire => true
  | .claimRequestTake => true
  | .chimeNoteEnd => true
  | .chimeExpiry _ => true
  | .holdTimeout _ => true
  | .reserveDeadline _ => true
  | .commitDeadline _ => true
  | .releaseDeadline _ => true
  | .reserveService => true
  | .scanStart => true
  | .pollAnswer _ _ => true
  | .missedScan _ => true
  | .stationAbsent _ => true
  | .callNoAnswer _ => true
  | .flashTimerExpiry _ _ => true
  | .toneStepEnd _ => true
  | .silenceStepEnd _ => true
  | .flashWriteComplete => true
  | .playComplete _ _ => true
  | .ampReturn _ _ _ => true
  | .windowClose => true
  | .controlFrameStart => true
  | .standaloneEntry => true
  | .select _ _ _ => true
  | .window _ _ _ _ _ _ => true
  | .writeFields _ => true
  | .writeIf _ _ => true
  | .read _ _ => true
  | .claimStart _ _ _ _ _ _ _ => true
  | .claimEnd _ => true
  | .playClip _ _ _ _ _ _ => true
  | .alarmStart _ _ => true
  | .alarmStop _ => true
  | .bankSwap => true
  | .cueAdd _ _ _ => true
  | .cueClear _ => true
  | .clipOpen _ _ => true
  | .clipWrite _ _ _ => true
  | .clipClose _ => true
  | .clipDelete _ => true
  | .saveImage => true
  | .softReset => true
  | .reload => true
  | .reportEmission => true

end Sys2Proof
end

