-- ==== Sys2Proof/Tests/Slice0.lean ====
section
/-! SUPPORT. Tests: the worked figures of the manual, the refusals of WellFormed, and for every statement with hypotheses a
state and operands that meet them. -/
namespace Sys2Proof.Tests
open Sys2Proof Sys2Proof.Machine

-- One theorem after the other: together they would hold more stacks than the sandbox has memory for.
set_option Elab.async false

/-! ### States to start from -/

/-- A part of node id 1 in RUN, with the built-in tables and nothing at work. -/
def run : State :=
  let s := State.powerOn 1
  { s with
    control := { s.control with mode := .run, load := none }
    clips := { s.clips with reads := [], inFlight := none } }

/-- No reader comes before the changes of its boundary. -/
def noRace : Race := ⟨[], [], [], [], [], 0, none, false⟩

/-- The state with one change due at the boundary in progress. -/
def dueAt (d : Due) (s : State) : State := modBoundary (fun _ => ⟨true, [d], [], noRace⟩) s

/-- The state with port A as given. -/
def portA (link : LinkState) (queue : List Frame) (sending : Option Frame) (s : State) : State :=
  modRing (fun r => { r with portA := ⟨link, queue, sending⟩ }) s

/-- A beacon of node 2: period 9, master 2, timing valid. -/
def beacon : Frame := ⟨1, 2, 255, 5, 63, .bytes [0, 0, 0, 9, 2, 1]⟩

/-- A REPLY frame without payload. -/
def plain : Frame := ⟨4, 2, 9, 5, 63, .bytes []⟩

/-- The bytes of a frame. -/
def wire (f : Frame) : List Byte := wireBytes f

/-! ### Worked figures of the manual -/

/-- CRC-32 of the text 123456789 (R3) and CRC-16 of it (R159). -/
theorem test_crc32 : crc32 [49, 50, 51, 52, 53, 54, 55, 56, 57] = 0xFC891918#32 := by decide +kernel
theorem test_crc16 : crc16 [49, 50, 51, 52, 53, 54, 55, 56, 57] = 0x29B1#16 := by decide +kernel

/-- The default taper at 1, 64, 128, 192, 200 and 255 (R41), and combine(25,700, 16,448) (section 3.4). -/
theorem test_taper : ([1, 64, 128, 192, 200, 255] : List (Fin 256)).map (fun c => (tget defaultTaper c).val) =
    [129, 8224, 16448, 24672, 25700, 32768] := by decide +kernel
theorem test_combine : combine 25700 16448 = 12900 := by decide +kernel

/-- A fade from 40 to 200 over 8 periods holds 100 at its third step (R67). -/
theorem test_fade : fadeCode 40 200 8 3 = 100 := by decide +kernel

/-- The phase increment of 800 Hz (R146). -/
theorem test_increment : phaseIncrement 800 = 71582788#32 := by decide +kernel

/-- Clips at sectors 10 to 29 and 34 to 40: 9000 samples take 41, and 8192 samples take 30 (R165). -/
def twoClips : State := modClips (fun c =>
  { c with directory := tset (tset c.directory 3 ⟨.ready, 10, 20, 40960, 20⟩) 8 ⟨.ready, 34, 7, 14336, 7⟩ }) run
theorem test_firstFit : allocate twoClips (sectorCount 9000) = some 41 ∧ allocate twoClips (sectorCount 8192) = some 30 := by
  decide +kernel

/-- A station's third missed scan makes its absence due, and only that (R122). -/
theorem test_thirdMiss : (takeMiss 5 (modStation 5 (fun x => { x with present := true, missed := 2 }) run)).intercom.stations[5].missed
    = 3 := by decide +kernel

/-! ### The refusals of WellFormed -/

/-- A frame of 11 bytes, a sample above 24 bits, a sector of 4095 bytes and a WRITE of nothing are refused; the shortest
frame, the extreme samples and a whole sector are not. -/
theorem test_refuses_shortFrame : Instr.wellFormed (.frameReceived .a (List.replicate 11 0) noRace) = false ∧
    Instr.wellFormed (.frameReceived .a (List.replicate 12 0) noRace) = true := by decide +kernel
theorem test_refuses_sample : Instr.wellFormed (.micBlockArrival 0 (Vector.replicate 48 8388608)) = false ∧
    Instr.wellFormed (.micBlockArrival 0 (Vector.replicate 48 (-8388608))) = true := by decide +kernel
theorem test_refuses_sector : Instr.wellFormed (.flashReadComplete (List.replicate 4095 0)) = false ∧
    Instr.wellFormed (.flashReadComplete (List.replicate 4096 0)) = true := by decide +kernel
theorem test_refuses_emptyWrite : Instr.wellFormed (.write []) = false ∧ Instr.wellFormed (.write [.level 0]) = true := by
  decide +kernel

/-! ### Witnesses: states and operands that meet the hypotheses of the statements, clause by clause -/

theorem witness_PowerOnReset : (State.powerOn 0).control.mode = .unaddressed ∧
    (State.powerOn 255).control.mode = .unaddressed ∧ (State.powerOn 1).control.mode = .loading ∧
    (State.powerOn 254).control.mode = .loading := by decide +kernel

theorem witness_LinkStates : quiet run ∧ (portOf run .a).link = .down ∧
    (portOf (portA .training [] none run) .a).link = .training ∧ quiet (portA .training [] none run) ∧
    (portOf (portA .up (List.replicate 32 beacon) (some beacon) run) .a).link = .up := by decide +kernel

/-- An AUDIO payload with so many channels named and the samples of one. -/
def audio (channels : Byte) : List Byte := 0 :: channels :: List.replicate 148 0

theorem witness_IntegrityChecks : (portOf (portA .up [] none run) .a).link = .up ∧
    4160 < word16At [1, 2, 255, 0, 0, 0, 16, 65] 6 ∧
    (word16At ((wire beacon).take 8) 6 ≤ 4160 ∧ ((wire beacon).take 8).length ≠ 12 + word16At ((wire beacon).take 8) 6) ∧
    (let l := (wire beacon).dropLast ++ [0];
      word16At l 6 ≤ 4160 ∧ l.length = 12 + word16At l 6 ∧
      BitVec.ofNat 32 (word32At l (8 + word16At l 6)) ≠ frameCheck (frameOf l) ((l.drop 8).take (word16At l 6))) ∧
    (let l := wire { beacon with body := .bytes [0, 0, 0, 9, 2] };
      l.length = 12 + word16At l 6 ∧ word16At l 6 = 5 ∧ minPayload (l.getD 0 0) = 6 ∧ integrity l = .runt) ∧
    (isRunt audioKind (audio 0) = true ∧ isRunt audioKind (audio 9) = true ∧ isRunt audioKind (audio 2) = true ∧
      isRunt audioKind (audio 1) = false) ∧
    (byteAt (wire { beacon with origin := 0 }) 1 = 0 ∧ integrity (wire { beacon with origin := 0 }) = .badOrigin) ∧
    (byteAt (wire { beacon with origin := 255 }) 1 = 255 ∧
      integrity (wire { beacon with origin := 255 }) = .badOrigin) ∧
    byteAt (wire { beacon with origin := 254 }) 1 = 254 := by decide +kernel

/-- A part in a mode with port A UP. -/
def inMode (m : Mode) : State := modControl (fun c => { c with mode := m }) (portA .up [] none run)
theorem witness_FrameClasses :
    (quiet (inMode .run) ∧ running (inMode .run) = true ∧ (portOf (inMode .run) .a).link = .up) ∧
    (integrity (wire { plain with origin := 1 }) = .passed { plain with origin := 1 } [] ∧ run.ring.nodeId = 1) ∧
    (integrity (wire { plain with kind := 8 }) = .passed { plain with kind := 8 } [] ∧ knownKind 8 = false) ∧
    integrity (wire { plain with dest := 1 }) = .passed { plain with dest := 1 } [] ∧
    integrity (wire { plain with dest := 255 }) = .passed { plain with dest := 255 } [] ∧
    (integrity (wire plain) = .passed plain [] ∧ knownKind plain.kind = true) ∧
    (quiet (inMode .loading) ∧ (portOf (inMode .loading) .a).link = .up) ∧
    (quiet (inMode .unaddressed) ∧ (portOf (inMode .unaddressed) .a).link = .up) := by decide +kernel

/-- Node 2's entry with last sequence 100. -/
def heard : State := modRing (fun r => { r with origins := tset r.origins 1 ⟨true, 100, 249⟩ }) run

theorem witness_DuplicateSuppression :
    (tget run.ring.origins (originIx 2)).valid = false ∧ (tget heard.ring.origins (originIx 2)).valid = true ∧
    ((101#16 - (tget heard.ring.origins (originIx 2)).last).toNat = 1) ∧
    ((32867#16 - (tget heard.ring.origins (originIx 2)).last).toNat = 32767) ∧
    ((100#16 - (tget heard.ring.origins (originIx 2)).last).toNat = 0) ∧
    ((32868#16 - (tget heard.ring.origins (originIx 2)).last).toNat = 32768) := by decide +kernel

theorem witness_WireRoundTrip :
    (payloadBytes (.bytes (List.replicate 4160 0))).length ≤ 4160 ∧
    isRunt plain.kind (payloadBytes { plain with origin := 254, dest := 255 }.body) = false ∧ plain.hop ≤ 63 := by
  decide +kernel

theorem witness_ForwardAndAdmit :
    (portOf run .a).link ≠ .up ∧
    (portOf (portA .up (List.replicate 32 plain) (some plain) run) .a).queue.length = 32 ∧
    ((portOf (portA .up (List.replicate 28 plain) (some plain) run) .a).queue.length = 28 ∧
      (⟨2, 2, 255, 5, 0, .bytes []⟩ : Frame).kind = audioKind) ∧
    ((portOf (portA .up (List.replicate 31 plain) (some plain) run) .a).queue.length = 31 ∧ plain.kind ≠ audioKind) ∧
    ((portOf (portA .up [] none run) .a).sending = none ∧ (portOf (portA .up [] none run) .a).link = .up) := by
  decide +kernel

theorem witness_TransmitComplete : urgent beacon = true ∧ urgent plain = false ∧
    (quiet (portA .up [plain] (some beacon) run) ∧
      (portOf (portA .up [plain] (some beacon) run) .a).sending = some beacon) := by decide +kernel

theorem witness_SerialOrder : (1 ≤ 1 ∧ 1 ≤ 2 ^ 31 - 1 ∧ 2 ^ 31 - 1 < 2 ^ 31) ∧ (0 < 1 ∧ 2 ^ 31 ≤ 2 ^ 31) := by decide

theorem witness_BeaconActs : beaconValid [0, 0, 0, 9, 2, 0] = false ∧ beaconValid [0, 0, 0, 9, 2, 1] = true ∧
    run.ring.window = false ∧ run.ring.timing = .holdover ∧
    (modRing (fun r => { r with window := true, timing := .locked }) run).ring.timing = .locked := by decide +kernel

/-- The state whose supervision windows begin at the next boundary. -/
def fresh : State := modLines (fun x => { x with freshStart := true }) run
theorem witness_LocalBoundary : quiet run ∧ run.ring.timing = .holdover ∧
    (modRing (fun r => { r with timing := .locked }) run).ring.timing = .locked ∧
    (running run = true ∧ noRace.holdAfter = none ∧ (∀ ch, (channelOf run ch).program = none) ∧
      run.lines.freshStart = false) ∧
    (running fresh = true ∧ (∀ ch, (channelOf fresh ch).program = none) ∧ fresh.lines.freshStart = true) := by
  decide +kernel
theorem witness_LocalBoundary_steady : (∀ ch, steady run ch) ∧ ∀ ch, steady fresh ch := by
  unfold steady; decide +kernel

theorem witness_IdleBoundary : quiet State.reset ∧ running State.reset = false ∧
    (∀ i, losesSource State.reset i = false) ∧
    (∀ k : OriginIx, (tget (modRing (fun r => { r with origins := tset r.origins 1 ⟨true, 0, 248⟩ }) State.reset).ring.origins
      k).valid = true →
      (tget (modRing (fun r => { r with origins := tset r.origins 1 ⟨true, 0, 248⟩ }) State.reset).ring.origins k).age
        < 249) := by decide +kernel

/-- Node 2's entry at age 250, its age-out due. -/
def aged : State :=
  dueAt (.originAgeOut 1) (modRing (fun r => { r with origins := tset r.origins 1 ⟨true, 0, 250⟩ }) run)
theorem witness_OriginAgesOut : isDue (.originAgeOut 1) aged ∧ (tget aged.ring.origins 1).valid = true ∧
    250 ≤ (tget aged.ring.origins 1).age := by decide +kernel

/-- Slot 0 bound to channel 7 of bundle 3 of node 2, and station slot 26 bound to the PRESENT station 31. -/
def bound : State :=
  modStation 31 (fun x => { x with present := true })
    (rebind (.station 31) 26 (rebind (.ring 2 3 7) 0 run))
theorem witness_Captures :
    (tget bound.slots 0).binding = .ring 2 (byteAt [3, 8] 0) 7 ∧ 7 < byteAt [3, 8] 1 ∧ byteAt [3, 7] 1 ≤ 7 ∧
    (tget bound.slots 1).binding = .unbound ∧
    (quiet bound ∧ running bound = true ∧ (stationOf bound 31).present = true ∧
      (tget bound.slots 26).binding = .station 31) ∧
    ((tget bound.slots 0).fresh = false ∧ (tget (modSlot 26 (fun x => { x with fresh := true }) bound).slots 26).fresh = true)
      := by decide +kernel

/-- Two frames of one origin and bundle in a period: the second overruns the slot, and no other (R29). -/
theorem test_overrun :
    let t := audioCapture 2 [3, 8] (audioCapture 2 [3, 8] bound);
    counterOf t (.slotOverrun 0) = 1 ∧ counterOf t (.slotOverrun 26) = 0 := by decide +kernel

theorem witness_SlotJudgment : (tget run.slots 0).binding = .unbound ∧
    (let s := modSlot 0 (fun x => { x with fresh := true, health := .lost }) bound;
      (tget s.slots 0).binding ≠ .unbound ∧ (tget s.slots 0).fresh = true ∧ (tget s.slots 0).health = .lost) ∧
    ((tget bound.slots 0).fresh = false ∧ (tget bound.slots 0).miss = 0 ∧ (tget bound.slots 0).health ≠ .lost) ∧
    (tget (modSlot 0 (fun x => { x with miss := 1 }) bound).slots 0).miss = 1 ∧
    (tget (modSlot 26 (fun x => { x with miss := 48 }) bound).slots 26).miss = 48 ∧
    (tget (modSlot 26 (fun x => { x with miss := 49 }) bound).slots 26).miss = 49 ∧
    (tget (modSlot 26 (fun x => { x with miss := 50 }) bound).slots 26).miss = 50 := by decide +kernel

/-- A claim of the owner, priority and slot given, LIVE, DUCK, policy ALL, without chime, group, target or hold limit. -/
def claimOf (o : Owner) (p : Nat) (i : SlotId) : Claim :=
  ⟨o, p, 0, .duck, .all, i, false, none, noZones, .live, 0, false, 0, none, 0, false, 0⟩

/-- The state with a claim at a place of the table. -/
def withClaim (c : ClaimId) (cl : Claim) (s : State) : State :=
  modClaims (fun x => { x with table := tset x.table c (some cl) }) s

/-- A DYNAMIC slot 0 one miss from LOST, used by the inbound claim 0. -/
def losing : State :=
  dueAt (.sourceLost 0) (withClaim 0 (claimOf (.peer 2 3) 4 0)
    (modSlot 0 (fun x => { x with mode := some .dynamic, miss := 49 }) bound))
theorem witness_SourceLost :
    (isDue (.sourceLost 0) losing ∧ losesSource losing 0 = true ∧ (tget losing.slots 0).mode = some .dynamic ∧
      losing.peer.service = none ∧ claimAt losing 0 = some (claimOf (.peer 2 3) 4 0) ∧
      (∀ d, (claimAt losing d).isSome = true → d = 0) ∧ losing.reports.queue.length ≤ 6) ∧
    (let s := modPeer (fun p => { p with service := some ⟨⟨2, 3, 0, 4, .duck, .all, false, 2, 0, 0⟩, 0⟩ }) losing;
      losesSource s 0 = true ∧ s.peer.service = some ⟨⟨2, 3, 0, 4, .duck, .all, false, 2, 0, 0⟩, 0⟩) ∧
    (let s := dueAt (.sourceLost 26) (modSlot 26 (fun x => { x with miss := 49 }) bound);
      isDue (.sourceLost 26) s ∧ losesSource s 26 = true ∧ (tget s.slots 26).mode ≠ some .dynamic) := by decide +kernel

theorem witness_Combine : (65535 : Nat) ≤ 65535 := by decide

/-- Zone 0 with one LIVE entry of claim 0. -/
def onAirWith (cl : Claim) (s : State) : State := setList 0 [⟨0, true, true⟩] (withClaim 0 cl s)
theorem witness_Gains :
    onAir (mixView run) 0 = none ∧ viewPriority (mixView run) 0 ≠ 7 ∧
    (let v := mixView (onAirWith (claimOf (.alarm 0) 7 27) run); viewPriority v 0 = 7 ∧
      onAir v 0 = some (⟨0, true, true⟩, claimOf (.alarm 0) 7 27)) ∧
    (let v := mixView (onAirWith { claimOf .management 6 0 with mode := .exclusive } run);
      onAir v 0 = some (⟨0, true, true⟩, { claimOf .management 6 0 with mode := .exclusive })) ∧
    (let s := modSlot 1 (fun x => { x with cls := .showClass })
        (modZone 0 (fun r => { r with cfg := { r.cfg with showZone := true } })
          (onAirWith (claimOf .management 5 0) run));
      onAir (mixView s) 0 = some (⟨0, true, true⟩, claimOf .management 5 0) ∧ (tget s.slots 1).cls = .showClass ∧
      (tget s.mix.zones 0).cfg.showZone = true ∧ (tget s.mix.zones 0).cfg.showStop = 5) ∧
    (tget run.slots 1).cls ≠ .showClass := by decide +kernel

/-- Zone 0 hears slot 27 at full level with a limiter threshold of 1, and zone 1 is disabled. -/
def loud : State :=
  setTarget (.crosspoint 0 27) 255 (modSlot 27 (fun x => { x with block := Vector.replicate 48 8388607 })
    (modZone 1 (fun r => { r with cfg := { r.cfg with enabled := false } })
      (modZone 0 (fun r => { r with cfg := { r.cfg with limiter := 1 } }) run)))
theorem witness_Limiter : (tget loud.mix.zones 0).cfg.enabled = true ∧ (tget loud.mix.zones 1).cfg.enabled = false ∧
    (tget loud.mix.zones 1).gain ≤ 32768 ∧ peakOf (masterBlock (mixView loud) 0) = 8388607 ∧
    targetGain 1 8388607 < (tget loud.mix.zones 0).gain ∧ peakOf (masterBlock (mixView loud) 2) = 0 ∧
    (formZone (mixView loud) 0).clipped = true ∧ (formZone (mixView loud) 2).clipped = false := by decide +kernel

/-- A boundary with nothing left due, its race operand as given. -/
def ending (r : Race) (s : State) : State := modBoundary (fun _ => ⟨true, [], [], r⟩) s
/-- Every zone at one moment. -/
def allAt (n : Nat) : List (ZoneId × Nat) := (everyFin 24).map fun z => (z, n)
/-- Stage 3, 4 and 5 of the line supervisor read every zone at the moments given, and the mix engine has read it before. -/
def staged (a b c : Nat) : Race := { noRace with mixAt := allAt 0, lineAt := allAt a, laneAt := allAt b, unheardAt := allAt c }
/-- Stations 0 and 1 of a call, with their member states. -/
def talking (a b : MemberState) : State := setCall 0 (some ⟨.point, true, [(0, a), (1, b)], 0⟩) run
theorem witness_BoundaryFormsZones :
    (let s := ending { noRace with mixAt := [(23, 0)], speakerAt := [(31, 0)] } run;
      s.boundary.isOpen = true ∧ s.boundary.due = [] ∧ running s = true ∧ s.boundary.race.meanwhile = 0 ∧
      moment s.boundary.race.mixAt 0 = none ∧ moment s.boundary.race.speakerAt 0 = none ∧ s.boundary.race.lineAt = [] ∧
      bundleChannels s = 0) ∧
    (let s := see (ending { noRace with lineAt := [(23, 0)] } run);
      (∀ z : ZoneId, z ≠ 23 → moment s.boundary.race.lineAt z = none) ∧ moment s.boundary.race.lineAt 23 = some 0 ∧
      s.boundary.seen[0]? = some (mixView run) ∧ (mixView run).windowDue = false ∧ s.boundary.race.laneAt = []) ∧
    (let s := see (see (see (ending (staged 0 1 2) run)));
      (∀ z : ZoneId, moment s.boundary.race.lineAt z = some 0 ∧ moment s.boundary.race.mixAt z = some 0 ∧
        moment s.boundary.race.laneAt z = some 1 ∧ moment s.boundary.race.unheardAt z = some 2) ∧
      s.boundary.seen[1]? = some (mixView run) ∧ s.boundary.seen[2]? = some (mixView run)) ∧
    (let s := see (ending { noRace with mixAt := [(23, 0)], meanwhile := 0 + 1 } run);
      s.boundary.isOpen = true ∧ s.boundary.due = [] ∧ s.boundary.race.meanwhile = 0 + 1) ∧
    (let s := see (ending { noRace with mixAt := [(23, 0)] } run);
      s.boundary.isOpen = true ∧ s.boundary.due = [] ∧ s.boundary.race.meanwhile = 0 ∧
      moment s.boundary.race.mixAt 23 = some 0 ∧ s.boundary.seen[0]? = some (mixView run)) ∧
    ((ending noRace run).boundary.race.mixAt = [] ∧ (tget run.mix.zones 0).cfg.supervision = false) ∧
    (tget (modZone 23 (fun r => { r with cfg := { r.cfg with supervision := true } }) run).mix.zones 23).cfg.supervision
      = true ∧
    bundleChannels (modPeer (fun p => { p with tx := tset p.tx 3 (some ⟨0, 23, true, 1⟩) }) run) ≠ 0 ∧
    callOf run 0 = none ∧
    callOf (talking .held .within) 0 = some (0, ⟨.point, true, [(0, .held), (1, .within)], 0⟩, .held) ∧
    callOf (talking .within .held) 0 = some (0, ⟨.point, true, [(0, .within), (1, .held)], 0⟩, .within) ∧
    callOf (talking .within .within) 0 = some (0, ⟨.point, true, [(0, .within), (1, .within)], 0⟩, .within) ∧
    (0 : ZoneId).val = (stationOf run 0).cfg.home := by decide +kernel

theorem witness_BoundaryFormsZones_moments : max 0 (max 0 1) = 1 ∧ max 0 (max 0 1) ≤ 2 ∧
    moment (staged 0 0 0).mixAt 23 = some 0 ∧ moment noRace.mixAt 23 = none := by decide +kernel

/-- Station slot 26 of the PRESENT station 31, fresh, its hold limit ending the page's claim at this boundary. -/
def lastBlock : State :=
  onAirWith { claimOf (.station 31) 4 26 with target := tset noZones 0 true, hold := some 0 }
    (setTarget (.crosspoint 0 26) 255
      (modSlot 26 (fun x => { x with fresh := true, block := Vector.replicate 48 4096 }) bound))
/-- A zone read before the end of the claim hears the captured block; one read at the end does not (R31, R43). -/
theorem test_readBeforeTimeout : (match exec (.localBoundary { noRace with mixAt := [(0, 0)] }) lastBlock,
      exec (.localBoundary noRace) lastBlock with
    | .next s, .next t => (tget (settle s).mix.zoneOut 0).toList != List.replicate 48 0 &&
        (tget (settle t).mix.zoneOut 0).toList == List.replicate 48 0 && (claimAt (settle s) 0).isNone
    | _, _ => false) = true := by decide +kernel

/-! #### Scenes and claims -/

/-- A crosspoint fade of 2 periods after its first step, alone in the table. -/
def fading : State := modScene (fun x => { x with fades := [⟨.crosspoint 0 0, 0, 255, 2, 1⟩] }) run
/-- Zone 0, a show zone that stops shows from priority 5, with a LIVE claim of priority 5 and not held yet. -/
def showing : State :=
  modZone 0 (fun r => { r with cfg := { r.cfg with showZone := true } }) (onAirWith (claimOf .management 5 0) run)
/-- Zone 23 held, with no claim, a cue due. -/
def holding : State := dueAt .cueFire (modScene (fun x => { x with held := tset noZones 23 true }) run)
theorem witness_Fades :
    (1 ≤ 1 ∧ 1 ≤ 1 ∧ (0 : Code) ≤ 255) ∧
    (let f : Fade := ⟨.master 0, 255, 0, 2, 0⟩;
      fadeOn (modScene (fun x => { x with fades := [f] }) run) (.master 0) = some f ∧ f.elapsed + 1 < f.total) ∧
    (let s := dueAt (.fadeComplete (.crosspoint 0 0)) fading;
      isDue (.fadeComplete (.crosspoint 0 0)) s ∧ fadeOn s (.crosspoint 0 0) = some ⟨.crosspoint 0 0, 0, 255, 2, 1⟩ ∧
      lastStep ⟨.crosspoint 0 0, 0, 255, 2, 1⟩ = true ∧ suspended s = false) ∧
    ((∀ z, showHold run z = tget run.scene.held z) ∧ run.control.mode ≠ .unaddressed ∧ run.reports.queue.length ≤ 7 ∧
      suspended run = false) ∧
    (showHold showing 0 ≠ tget showing.scene.held 0 ∧ showing.reports.queue.length ≤ 7 ∧ suspended showing = false ∧
      suspended (evaluateHold showing) = true) ∧
    (suspended holding = true ∧ suspended (evaluateHold holding) = false ∧ isDue .cueFire holding) ∧
    (quiet run ∧ running run = true ∧ noRace.holdAfter = none ∧ ∀ ch, (channelOf run ch).program = none) := by
  decide +kernel

/-- A cue list whose only cue is due at the present period. -/
def cued (e : CueEffect) : State := dueAt .cueFire (modScene (fun x => { x with cues := [⟨7, 0, e⟩] }) run)
theorem cued_noFade (e : CueEffect) (t : FadeTarget) : ¬isDue (.fadeComplete t) (cued e) := by
  simp [isDue, cued, dueAt, modBoundary]
theorem witness_CueFires :
    (isDue .cueFire (cued .swap) ∧ suspended (cued .swap) = false ∧
      takeCue (cued .swap) (cued .swap).scene.cues = some (⟨7, 0, .swap⟩, [])) ∧
    takeCue (cued (.level 23 31 255 0)) (cued (.level 23 31 255 0)).scene.cues = some (⟨7, 0, .level 23 31 255 0⟩, []) ∧
    takeCue (cued (.master 23 0 0)) (cued (.master 23 0 0)).scene.cues = some (⟨7, 0, .master 23 0 0⟩, []) ∧
    (takeCue (cued (.level 0 0 255 1)) (cued (.level 0 0 255 1)).scene.cues = some (⟨7, 0, .level 0 0 255 1⟩, []) ∧
      targetCode (cued (.level 0 0 255 1)) (.crosspoint 0 0) ≠ 255 ∧ (cued (.level 0 0 255 1)).scene.fades.length < 16 ∧
      fadeOn (cued (.level 0 0 255 1)) (.crosspoint 0 0) = none) ∧
    targetCode (cued (.master 23 255 9)) (.master 23) = 255 := by decide +kernel

/-- Fades of zone 3 in n places of the table, and one of the master of zone 23, or not. -/
def fadesOn (n : Nat) (master : Bool) (s : State) : State :=
  modScene (fun x => { x with
    fades := ((List.range n).map fun i => ⟨.crosspoint 3 (finUpTo 31 i), 0, 255, 9, 1⟩) ++
      if master then [⟨.master 23, 0, 255, 9, 1⟩] else [] }) s
theorem witness_CueFires_table :
    (let s := fadesOn 15 true (cued (.master 23 0 9));
      (fadeOn s (.master 23)).isSome = true ∧ targetCode s (.master 23) ≠ 0 ∧ 16 ≤ s.scene.fades.length) ∧
    (let s := fadesOn 16 false (cued (.master 23 0 9));
      fadeOn s (.master 23) = none ∧ targetCode s (.master 23) ≠ 0 ∧ 16 ≤ s.scene.fades.length ∧
      takeCue s s.scene.cues = some (⟨7, 0, .master 23 0 9⟩, [])) ∧
    ((fadesOn 2 true run).scene.fades.filter fun f => isCrosspoint f.target).length = 2 := by decide +kernel

/-- A cue list of 16 cues. -/
def fullCues : State := modScene (fun x => { x with cues := List.replicate 16 ⟨7, 0, .swap⟩ }) run
theorem witness_SceneOperations : ready run ∧ cueEffect (.master 24 0 0) = none ∧
    (ready fullCues ∧ cueEffect .swap ≠ none ∧ 16 ≤ fullCues.scene.cues.length) ∧
    (cueEffect (.level 23 31 0 0) = some (.level 23 31 0 0) ∧ run.scene.cues.length < 16) ∧
    ((∃ x ∈ fullCues.scene.cues, x.number = 7) ∧ ∀ x ∈ fullCues.scene.cues, x.number ≠ 8) := by decide +kernel

theorem witness_InsertionKeepsOrder :
    (let s := withClaim 1 (claimOf .management 6 0) (withClaim 0 (claimOf .management 4 0) run);
      claimAt s 1 = some (claimOf .management 6 0) ∧ (claimAt s 0).isSome = true) ∧
    ([⟨0, true, true⟩] : List ListEntry).Pairwise
      (standsBefore (withClaim 1 (claimOf .management 6 0) (withClaim 0 (claimOf .management 4 0) run))) :=
  ⟨by decide +kernel, by simp⟩

/-- Zone 0 has a full list of the claims 0 to 3, of priorities 5 to 2; claim 3 holds zone 23 too, or not. Claim 4 has the
priority given. -/
def fullList (p : Nat) (other : Bool) : State :=
  setList 23 (if other then [⟨3, true, true⟩] else [])
    (setList 0 [⟨0, true, true⟩, ⟨1, true, false⟩, ⟨2, true, false⟩, ⟨3, true, false⟩]
      (forEach [(0, 5), (1, 4), (2, 3), (3, 2), (4, p)] (fun x => withClaim x.1 (claimOf .management x.2 0)) run))
theorem witness_InsertionKeepsOrder_full :
    (∀ p other, 4 ≤ (listOf (fullList p other) 0).length ∧
      (listOf (fullList p other) 0).getLast? = some ⟨3, true, false⟩ ∧
      claimAt (fullList p other) 3 = some (claimOf .management 2 0) ∧
      claimAt (fullList p other) 4 = some (claimOf .management p 0) ∧
      (listOf (fullList p other) 0).dropLast.map (·.claim) = [0, 1, 2]) ∧ (3 : ClaimId) ∉ ([0, 1, 2] : List ClaimId) ∧
    outranks (claimOf .management 6 0) (claimOf .management 2 0) = true ∧
    outranks (claimOf .management 2 0) (claimOf .management 2 0) = false ∧
    entryIn (listOf (fullList 6 true) 23) 3 ≠ none ∧
    (∀ y : ZoneId, y ≠ 0 → entryIn (listOf (fullList 6 false) y) 3 = none) ∧ (listOf (fullList 6 true) 23).length < 4 := by
  refine ⟨fun p other => ⟨?_, ?_, ?_, rfl, ?_⟩, ?_, ?_, ?_, ?_, ?_, ?_⟩
  all_goals first | (cases other <;> rfl) | decide +kernel

/-- The RESERVE of node 2, tag 3, in service for a slot. -/
def inService (i : SlotId) (s : State) : State :=
  modPeer (fun p => { p with service := some ⟨⟨2, 3, 31, 4, .duck, .all, true, 2, 0, 0⟩, i⟩ }) s
theorem witness_originTold : (claimOf (.peer 2 3) 4 0).owner = .peer 2 3 ∧ inServiceFor run 2 3 = false ∧
    inServiceFor (inService 22 run) 2 3 = true := by decide +kernel

/-- An inbound claim evicted from its only zone: its origin is told once, and its slot is unbound (R84, R117). -/
theorem test_evictsInbound :
    let t := insertEntry 4 true 0 (withClaim 3 (claimOf (.peer 2 3) 2 22) (fullList 6 false));
    claimAt t 3 = none ∧ counterOf t .inboundPreempted = 1 ∧ (tget t.slots 22).binding = .unbound := by decide +kernel

/-- A claim inserted first in a full list: the last claim loses the zone, or ends where it holds no other (R82, R84). -/
theorem test_evicts :
    let t := insertEntry 4 true 0 (fullList 6 true);
    let u := insertEntry 4 true 0 (fullList 6 false);
    (listOf t 0).map (·.claim) = [4, 0, 1, 2] ∧ ((claimAt t 3).map (·.lost)) = some 1 ∧ claimAt u 3 = none ∧
    counterOf t (.entriesEvicted 0) = 1 := by decide +kernel

/-- A STATIC slot 0 bound to the ring, and no claim. -/
def boundRun : State := rebind (.ring 2 0 0) 0 run
/-- A management start request for group 0 on slot 0. -/
def wanted (chime : Bool) : StartRequest := ⟨.management, 4, 0, .duck, .all, chime, some 0, .group 0, 0, false⟩

/-- The request waits, for group 0 of zones 0 and 23, with a first chime note of one period. -/
def requested (chime : Bool) : State :=
  modClaims (fun x =>
    { x with
      queue := [.start (wanted chime)]
      groups := tset x.groups 0 ⟨tset (tset noZones 0 true) 23 true, []⟩
      chimeTable := tset x.chimeTable 0 ⟨800, 255, 1⟩ }) run
/-- The request of a frame in service, whose second operation it is. -/
def framedRequest (s : State) : State :=
  modClaims (fun x => { x with queue := [.start { wanted true with framed := true }] })
    (modControl (fun c => { c with service := some ⟨2, 7, 2, 2, 1, [], false, true⟩ }) s)
theorem witness_ClaimStarts :
    (quiet run ∧ run.claims.queue = []) ∧
    (quiet (requested true) ∧ running (requested true) = true ∧ playerOfSlot 0 = none ∧
      requestPeers (requested true) (wanted true) = []) ∧
    (let s := modClaims (fun x => { x with table := Vector.replicate 48 (some (claimOf .management 4 0)) }) (requested true);
      freeClaim s = none ∧ ∀ z, ∀ e ∈ listOf s z, (claimAt s e.claim).isSome = true) ∧
    (freeClaim (requested true) = some 0 ∧
      (∀ z, ∀ e ∈ listOf (requested true) z, (claimAt (requested true) e.claim).isSome = true) ∧
      isNoZones (enabledZones (requested true) (requestZones (requested true) (wanted true))) = false ∧
      (∀ z, tget (enabledZones (requested true) (requestZones (requested true) (wanted true))) z = true →
        listOf (requested true) z = []) ∧ entriesOf (requested true) 0 (fun _ => true) = [] ∧
      0 < chimeLength (requested true).claims.chimeTable) ∧
    (freeClaim (requested false) = some 0 ∧ (wanted false).chime = false) ∧
    (let s := modClaims (fun x => { x with groups := run.claims.groups }) (requested true);
      freeClaim s = some 0 ∧ isNoZones (enabledZones s (requestZones s (wanted true))) = true ∧
      entriesOf s 0 (fun _ => true) = []) ∧
    (framedRequest (requested true)).claims.queue = [.start { wanted true with framed := true }] := by decide +kernel

/-- A request of policy BEST or ALL. -/
def peeredRequest (chime best : Bool) : StartRequest := { wanted chime with policy := if best then .best else .all }
/-- It waits; its group has two peers; entries 0 and 2 are in use, and 4 to 7 where few are
free. -/
def peered (chime few best : Bool) : State :=
  let other : OutEntry := ⟨.live, 40, 9, 0, none, 0⟩
  forEach ([0, 2] ++ if few then [1, 4, 5, 6, 7] else []) (fun t => setEntry t (some other))
    (modClaims (fun x =>
      { x with
        queue := [.start (peeredRequest chime best)]
        groups := tmod x.groups 0 fun g => { g with peers := [⟨2, 5⟩, ⟨3, 6⟩] } }) (requested chime))
theorem witness_ClaimStarts_peers :
    (∀ chime few b, (peered chime few b).claims.queue = [.start (peeredRequest chime b)] ∧
      requestPeers (peered chime few b) (peeredRequest chime b) = [⟨2, 5⟩, ⟨3, 6⟩] ∧
      enoughPeers (peered chime few b) 2 (some 0) = !few ∧ freeClaim (peered chime few b) = some 0 ∧
      entriesOf (peered chime few b) 0 (fun _ => true) = []) ∧
    isNoZones (enabledZones (peered true true true) (requestZones (peered true true true) (peeredRequest true true))) =
      false ∧ 0 < chimeLength (peered true true true).claims.chimeTable ∧
    (tget (peered true false false).slots 0).binding = .unbound ∧
    tget (peered true false false).peer.tx 0 = none ∧ (tget boundRun.slots 0).binding = .ring 2 0 0 := by decide +kernel

/-- Two peers take the free entries 1 and 3, and the claim takes transmit channel 0 (R101, R102, R103). -/
theorem test_handsOn : (match exec .claimRequestTake (peered true false false) with
    | .next t => ((entryAt t 1).map fun e => (e.peer, e.group)) == some (2, 5) && (entryAt t 0).isSome &&
        ((entryAt t 3).map fun e => (e.peer, e.channel)) == some (3, some 0) && counterOf t .reservesSent == 2 &&
        ((tget t.peer.tx 0).map fun r => r.peers) == some 2
    | _ => false) = true := by decide +kernel

/-- Channel 0 holds the alarm claim 0, of zone 23, and its GAIN of claim c waits, for the zones 0 and 23. -/
def gaining (c : ClaimId) : State :=
  modChannel 0 (fun x => { x with claim := some 0, request := .gain })
    (modClaims (fun x => { x with queue := [.gain 0 c (tset (tset noZones 0 true) 23 true)] })
      (setList 23 [⟨0, true, true⟩] (withClaim 0 { claimOf (.alarm 0) 7 27 with target := tset noZones 23 true } run)))
theorem witness_ClaimStarts_gain :
    (∀ c, quiet (gaining c) ∧ running (gaining c) = true ∧ (channelOf (gaining c) 0).owed = noZones) ∧
    (channelOf (gaining 1) 0).claim ≠ some 1 ∧
    ((channelOf (gaining 0) 0).claim = some 0 ∧
      claimAt (gaining 0) 0 = some { claimOf (.alarm 0) 7 27 with target := tset noZones 23 true } ∧
      listOf (gaining 0) 0 = [] ∧ entryIn (listOf (gaining 0) 23) 0 ≠ none) := by decide +kernel

/-- The page of station 31 waits, for group 0 of zones 0 and 23, the station within conference 3. -/
def paged (chime : Bool) : State :=
  modClaims (fun x => { x with queue := [.start { wanted chime with owner := .station 31, slot := none }] })
    (modIntercom (fun x => { x with calls := tset x.calls 15 (some ⟨.conf 3, true, [(0, .within), (31, .within)], 0⟩) })
      (modStation 31 (fun x => { x with page := some ⟨7, true, none⟩ }) (requested chime)))
/-- Every place of the claim table is taken. -/
def noPlace (s : State) : State := modClaims (fun x => { x with table := Vector.replicate 48 (some (claimOf .management 4 0)) }) s
theorem witness_ClaimStarts_page :
    (∀ chime, quiet (paged chime) ∧ running (paged chime) = true ∧ (∀ z, listOf (paged chime) z = []) ∧
      (paged chime).claims.queue = [.start { wanted chime with owner := .station 31, slot := none }] ∧
      (stationOf (paged chime) 31).page = some ⟨7, true, none⟩ ∧
      requestPeers (paged chime) { wanted chime with owner := .station 31, slot := none } = [] ∧
      freeClaim (paged chime) = some 0 ∧ freeStationSlot (paged chime) = some 23 ∧
      entriesOf (paged chime) 0 (fun _ => true) = [] ∧
      isNoZones (enabledZones (paged chime) (requestZones (paged chime) (wanted chime))) = false) ∧
    0 < chimeLength (paged true).claims.chimeTable ∧ chimeLength run.claims.chimeTable = 0 ∧
    freeClaim (noPlace (paged true)) = none ∧ freeStationSlot (forEach stationSlots (rebind (.station 0)) (paged true)) = none ∧
    isNoZones (enabledZones run (requestZones run (wanted true))) = true := by decide +kernel

/-- A page that is taken: its slot, its page in progress and its member state (R28, R135, R136). -/
theorem test_pageTaken : (match exec .claimRequestTake (paged true) with
    | .next t => (tget t.slots 23).binding == .station 31 && (stationOf t 31).page == some ⟨7, true, some 0⟩ &&
        ((tget t.intercom.calls 15).map (·.members)) == some [(0, .within), (31, .held)]
    | _ => false) = true := by decide +kernel

/-- The START of channel 1 waits, for the zones 0 and 23, or for none; zone 0 has a claim of the same priority and rank. -/
def alarmRequest (zs : ZoneSet) : StartRequest := ⟨.alarm 1, 7, 3, .exclusive, .all, false, some 28, .zones zs, 0, false⟩
def alarming (zs : ZoneSet) : State :=
  modChannel 1 (fun x => { x with program := some 7, request := .start })
    (modClaims (fun x => { x with queue := [.start (alarmRequest zs)] })
      (setList 0 [⟨47, true, true⟩] (withClaim 47 { claimOf (.alarm 0) 7 27 with rank := 3 } run)))
theorem witness_ClaimStarts_alarm :
    (∀ zs, (alarming zs).claims.queue = [.start (alarmRequest zs)]) ∧
    (let zs := tset (tset noZones 0 true) 23 true;
      quiet (alarming zs) ∧ running (alarming zs) = true ∧ (channelOf (alarming zs) 1).claim = none ∧
      (channelOf (alarming zs) 1).owed = noZones ∧ freeClaim (alarming zs) = some 0 ∧
      (∀ z, (listOf (alarming zs) z).length < 4) ∧
      isNoZones (enabledZones (alarming zs) (requestZones (alarming zs) (alarmRequest zs))) = false ∧
      (∀ z, ∀ e ∈ listOf (alarming zs) z, (claimAt (alarming zs) e.claim).isSome = true)) ∧
    isNoZones (enabledZones (alarming noZones) (requestZones (alarming noZones) (alarmRequest noZones))) = true ∧
    freeClaim (noPlace (alarming noZones)) = none := by
  refine ⟨fun _ => rfl, ?_⟩; decide +kernel

/-- The START of the RESERVE in service waits, for group 31 of zones 0 and 23, with a chime or without; zone 0 has a claim of
priority 6, or zone 23 has too. -/
def inboundStart (chime : Bool) : StartRequest := ⟨.peer 2 3, 4, 0, .duck, .all, chime, some 22, .group 31, 0, false⟩
def granting (chime one both : Bool) : State :=
  let first := fun b => if b then [⟨47, true, true⟩] else []
  modPeer (fun p => { p with service := some ⟨⟨2, 3, 31, 4, .duck, .all, chime, 2, 0, 0⟩, 22⟩ })
    (modClaims (fun x =>
      { x with
        queue := [.start (inboundStart chime)]
        chimeTable := tset x.chimeTable 0 ⟨800, 255, 1⟩
        groups := tset x.groups 31 ⟨tset (tset noZones 0 true) 23 true, []⟩ })
      (setList 23 (first both) (setList 0 (first one) (withClaim 47 (claimOf .management 6 0) run))))
theorem witness_ClaimStarts_inbound :
    (∀ chime one both, (granting chime one both).claims.queue = [.start (inboundRequest
        ⟨2, 3, 31, 4, .duck, .all, chime, 2, 0, 0⟩ 31 22)] ∧ quiet (granting chime one both) ∧
      running (granting chime one both) = true ∧ freeClaim (granting chime one both) = some 0 ∧
      (∀ z, (listOf (granting chime one both) z).length < 4) ∧
      (zonesOf (enabledZones (granting chime one both) (requestZones (granting chime one both)
        (inboundStart chime)))) = [0, 23]) ∧
    (let intact := fun one both => (([0, 23] : List ZoneId).filter fun z =>
        takesFirst (granting true one both).claims.table (createdClaim (granting true one both) (inboundStart true) 22)
          (listOf (granting true one both) z)).length;
      intact false false = 2 ∧ intact true false = 1 ∧ intact true true = 0) ∧
    0 < chimeLength (granting true false false).claims.chimeTable ∧
    ((listOf (granting false false false) 0 = [] ∧ listOf (granting false false false) 23 = []) ∧
      entriesOf (granting false false false) 0 (fun _ => true) = [] ∧ playerOfSlot 22 = none) ∧
    freeClaim (noPlace (granting true false false)) = none := by decide +kernel

/-- An inbound claim that is first in one zone of two is answered PARTIAL and waits; first in none it is refused (R113). -/
theorem test_granting : (match exec .claimRequestTake (portA .up [] none (granting true true false)),
      exec .claimRequestTake (portA .up [] none (granting true true true)) with
    | .next t, .next u => ((claimAt t 0).map (·.waiting)) == some true && counterOf t .inboundServed == 1 &&
        ((portOf t .a).sending.map (·.body)) == some (.bytes [4, 3, 1, 1, 1, 2]) && (claimAt u 0).isNone &&
        ((portOf u .a).sending.map (·.body)) == some (.bytes [4, 3, 1, 2, 0, 2]) && t.peer.service.isNone
    | _, _ => false) = true := by decide +kernel

/-- The chime generator at the end of a row; rows 0 and 1 are notes. -/
def chiming (row : Fin 4) : State :=
  dueAt .chimeNoteEnd (modClaims (fun x =>
    { x with
      chimeTable := tset (tset x.chimeTable 0 ⟨800, 255, 5⟩) 1 ⟨600, 255, 5⟩
      chimeGen := ⟨some (row, 5), 0⟩ }) run)
theorem witness_ChimeNoteEnds :
    (isDue .chimeNoteEnd (chiming 0) ∧ (tget (chiming 0).claims.chimeTable 0).duration ≤ 5 ∧
      isNote (chiming 0).claims.chimeTable 1 = true) ∧
    ((tget (chiming 1).claims.chimeTable 1).duration ≤ 5 ∧ isNote (chiming 1).claims.chimeTable 2 = false) ∧
    (tget (chiming 3).claims.chimeTable 3).duration ≤ 5 := by decide +kernel

/-- A RESERVING management claim of zone 0 whose chime timer is 0. -/
def tolling : Claim :=
  { claimOf .management 4 0 with chime := true, state := .reserving, target := tset noZones 0 true }
/-- Its state, with the entry of zone 0 intact or not, and its expiry due. -/
def tolled (intact : Bool) : State := dueAt (.chimeExpiry 0) (setList 0 [⟨0, false, intact⟩] (withClaim 0 tolling run))
/-- The same claim of policy BEST with entries of zones 0 and 23, intact or not, and zones lost. -/
def tollingBest (lost : Nat) : Claim := { tolling with policy := .best, target := tset tolling.target 23 true, lost := lost }
def tolledBest (a b : Bool) (lost : Nat) : State :=
  setList 23 [⟨0, false, b⟩] (setList 0 [⟨0, false, a⟩] (withClaim 0 (tollingBest lost) (dueAt (.chimeExpiry 0) run)))
theorem witness_ChimeExpires :
    (isDue (.chimeExpiry 0) (tolled true) ∧ claimAt (tolled true) 0 = some tolling ∧ chimesNow tolling = true ∧
      tolling.timer = 0 ∧ tolling.policy = .all ∧ playerOfSlot tolling.slot = none) ∧
    (entriesOf (tolled true) 0 (fun _ => true) = [] ∧ tolling.handed = 0 ∧ allIntact (tolled true) 0 tolling = true) ∧
    allIntact (tolled false) 0 tolling = false ∧
    entriesOf (setEntry 7 (some ⟨.reserveSent, 0, 2, 0, none, 0⟩) (tolled true)) 0 (· == .reserveSent) ≠ [] ∧
    (let s := tolledBest true true 0;
      claimAt s 0 = some (tollingBest 0) ∧ chimesNow (tollingBest 0) = true ∧ entriesOf s 0 (fun _ => true) = [] ∧
      entryIn (listOf s 0) 0 = some ⟨0, false, true⟩ ∧ entryIn (listOf s 23) 0 = some ⟨0, false, true⟩ ∧
      entryIn (listOf s 1) 0 = none ∧ (tollingBest 0).lost = 0 ∧ (tollingBest 0).noPeers = false) ∧
    (entryIn (listOf (tolledBest true false 0) 0) 0 = some ⟨0, false, true⟩ ∧
      entryIn (listOf (tolledBest true false 0) 23) 0 = some ⟨0, false, false⟩ ∧ 0 < (tollingBest 1).lost) ∧
    (∀ z, (entryIn (listOf (tolledBest false false 0) z) 0).all (fun e => e.intact == false) = true) := by decide +kernel

/-- The claim of `tolled`, of policy BEST or ALL, with the number of peers that it was handed; entry 7 is its only one,
RESERVED. -/
def tollingPeers (best : Bool) (handed : Nat) : Claim :=
  { tolling with policy := if best then .best else .all, handed := handed }
def tolledPeers (best : Bool) (handed : Nat) : State :=
  setEntry 7 (some ⟨.reserved, 0, 2, 0, some 3, 0⟩) (withClaim 0 (tollingPeers best handed) (tolled true))
theorem witness_ChimeExpires_peers :
    (∀ b, claimAt (tolledPeers b 1) 0 = some (tollingPeers b 1) ∧ isDue (.chimeExpiry 0) (tolledPeers b 1) ∧
      entriesOf (tolledPeers b 1) 0 (· == .reserveSent) = [] ∧
      (entriesOf (tolledPeers b 1) 0 (· == .reserved)).length = (tollingPeers b 1).handed) ∧
    allIntact (tolledPeers false 1) 0 (tollingPeers false 1) = true ∧
    (entriesOf (tolledPeers false 2) 0 (· == .reserved)).length ≠ (tollingPeers false 2).handed ∧
    entryIn (listOf (tolledPeers true 1) 0) 0 = some ⟨0, false, true⟩ ∧
    (entriesOf (tolledPeers true 2) 0 (fun _ => true)).length < (tollingPeers true 2).handed ∧
    (tollingPeers true 1).handed ≤ (entriesOf (tolledPeers true 1) 0 (fun _ => true)).length := by decide +kernel

/-- What the commit of a BEST claim leaves where one zone lost its entry: a LIVE entry in the other alone (R89). -/
theorem test_commitBest :
    let t := expireChime 0 (tolledBest true false 0);
    listOf t 0 = [⟨0, true, true⟩] ∧ listOf t 23 = [] ∧ counterOf t .commitsPartial = 1 ∧
    (⟨.claimPartial, 0, 1, 0⟩ : Report) ∈ t.reports.queue := by decide +kernel

/-- Four claims of the four kinds of owner, the last at place 47. -/
def owned : State :=
  withClaim 47 (claimOf .management 4 0) (withClaim 2 (claimOf (.peer 2 3) 4 1)
    (withClaim 1 (claimOf (.alarm 0) 7 27) (withClaim 0 (claimOf (.station 0) 4 23) run)))
theorem witness_ClaimEnds : ready owned ∧ (48 : Nat) ≤ 48 ∧ claimAt owned 3 = none ∧
    claimAt owned 1 = some (claimOf (.alarm 0) 7 27) ∧ claimAt owned 2 = some (claimOf (.peer 2 3) 4 1) ∧
    claimAt owned 0 = some (claimOf (.station 0) 4 23) ∧ claimAt owned 47 = some (claimOf .management 4 0) ∧
    (let s := dueAt (.holdTimeout 0) (withClaim 0 { claimOf .management 4 0 with hold := some 5, elapsed := 5 } run);
      isDue (.holdTimeout 0) s ∧ claimAt s 0 = some { claimOf .management 4 0 with hold := some 5, elapsed := 5 } ∧
      holdReached { claimOf .management 4 0 with hold := some 5, elapsed := 5 } = true) := by decide +kernel

/-- Transmit channel 3 of claim 0, held or not, with the number of its entries; entry 7 names it. -/
def linked (hold : Bool) (n : Nat) : State :=
  setEntry 7 (some ⟨.live, 0, 2, 0, some 3, 0⟩) (modPeer (fun p => { p with tx := tset p.tx 3 (some ⟨0, 0, hold, n⟩) }) run)
theorem witness_ClaimEnds_links : (∀ hold n, entryAt (linked hold n) 7 = some ⟨.live, 0, 2, 0, some 3, 0⟩ ∧
      tget (linked hold n).peer.tx 3 = some ⟨0, 0, hold, n⟩) ∧ (some 3 : Option TxId) ≠ some 2 := by
  refine ⟨fun hold n => ⟨rfl, rfl⟩, by decide⟩

/-- Entry 7 in a state, its deadline now, for claim 0. -/
def outstanding (d : Due) (e : OutState) (cl : ClaimState) : State :=
  dueAt d (setEntry 7 (some ⟨e, 0, 2, 0, none, 0⟩) (withClaim 0 { claimOf .management 4 0 with state := cl } run))
theorem witness_PeerDeadlines :
    (let s := outstanding (.reserveDeadline 7) .reserveSent .reserving;
      isDue (.reserveDeadline 7) s ∧ entryAt s 7 = some ⟨.reserveSent, 0, 2, 0, none, 0⟩ ∧
      reached 0 s.ring.period = true ∧ claimAt s 0 = some { claimOf .management 4 0 with state := .reserving }) ∧
    (let s := outstanding (.commitDeadline 7) .commitSent .live;
      isDue (.commitDeadline 7) s ∧ entryAt s 7 = some ⟨.commitSent, 0, 2, 0, none, 0⟩ ∧
      claimAt s 0 = some (claimOf .management 4 0)) ∧
    (let s := outstanding (.releaseDeadline 7) .releaseSent .live;
      isDue (.releaseDeadline 7) s ∧ entryAt s 7 = some ⟨.releaseSent, 0, 2, 0, none, 0⟩) ∧
    ((∀ t : TagId, t.val ≠ 8) ∧ ∀ t : TagId, entryAt run t = none) ∧
    (let s := outstanding (.reserveDeadline 7) .reserveSent .live;
      isDue (.reserveDeadline 7) s ∧ entryAt s 7 = some ⟨.reserveSent, 0, 2, 0, none, 0⟩ ∧
      claimAt s 0 = some (claimOf .management 4 0) ∧ (claimOf .management 4 0).waiting = false) ∧
    (1 < 2 ∧ (claimOf .management 4 0).state = .live) ∧
    (entryAt (outstanding .cueFire .reserveSent .live) 7 = some ⟨.reserveSent, 0, 2, 0, none, 0⟩ ∧
      claimAt (outstanding .cueFire .reserveSent .live) 0 = some (claimOf .management 4 0)) ∧
    ((0 : Nat) ≠ 7 ∧ ¬(OutState.reserved = .reserveSent ∧ (1 : Nat) = 1) ∧ OutState.reserved ≠ .releaseSent) := by
  decide +kernel

/-- A RESERVE of node 2 for a group. -/
def reserve (g : Nat) : InReserve := ⟨2, 3, g, 4, .duck, .all, false, 2, 0, 0⟩
/-- It waits; group 31 has zone 0, and slot 22 is DYNAMIC or not. -/
def serving (g : Nat) (mode : SlotMode) (n : Nat) : State :=
  modSlot 22 (fun x => { x with mode := some mode }) (modPeer (fun p => { p with inbound := [reserve g] })
    (modClaims (fun x =>
      { x with
        groups := tset x.groups 31 ⟨tset noZones 0 true, []⟩
        queue := List.replicate n (.start (wanted false)) }) run))
/-- An inbound claim of node 2, tag 3, that waits for its COMMIT or is LIVE, with its entry of zone 0 intact or not. -/
def inbound (waiting intact : Bool) : Claim × State :=
  let c := { claimOf (.peer 2 3) 4 0 with
    state := if waiting then .reserving else .live, waiting := waiting, target := tset noZones 0 true }
  (c, setList 0 [⟨0, !waiting, intact⟩] (withClaim 0 c (rebind (.ring 2 0 0) 0 run)))
theorem witness_ReserveService :
    (quiet (serving 32 .static 0) ∧ running (serving 32 .static 0) = true ∧
      inboundClaim (serving 32 .static 0) 2 3 = none ∧ reserveGroup (serving 32 .static 0) (reserve 32) = none) ∧
    (reserveGroup (serving 31 .static 0) (reserve 31) = some 31 ∧ freeDynamicSlot (serving 31 .static 0) = none) ∧
    (freeDynamicSlot (serving 31 .dynamic 13) = some 22 ∧ (serving 31 .dynamic 13).claims.queue.length < 14) ∧
    14 ≤ (serving 31 .dynamic 14).claims.queue.length ∧
    (byteAt [5, 3, 0, 0] 0 = 5 ∧ ([1, 3, 0, 4, 0, 0, 0, 0, 2, 0] : List Byte).length < 11 ∧
      ([4, 3, 1, 0, 1] : List Byte).length < 6 ∧ ([2, 3, 0] : List Byte).length < 4) ∧
    (run.peer.inbound.length < 8 ∧
      8 ≤ (modPeer (fun p => { p with inbound := List.replicate 8 (reserve 31) }) run).peer.inbound.length) ∧
    (∀ w i, inboundClaim (inbound w i).2 2 3 = some 0 ∧ claimAt (inbound w i).2 0 = some (inbound w i).1 ∧
      entriesOf (inbound w i).2 0 (fun _ => true) = [] ∧ playerOfSlot (inbound w i).1.slot = none) ∧
    (allIntact (inbound true true).2 0 (inbound true true).1 = true ∧
      allIntact (inbound true false).2 0 (inbound true false).1 = false) ∧
    (modPeer (fun p => { p with service := some ⟨reserve 31, 22⟩ }) run).peer.service = some ⟨reserve 31, 22⟩ ∧
    ((serving 31 .static 0).peer.inbound = [] ++ reserve 31 :: [] ∧ (serving 31 .static 0).peer.service = none) := by
  decide +kernel

/-- The commit of an inbound claim, and the end of one refused (R115). -/
theorem test_takeCommit :
    let t := takeClaimFrame 2 1 [2, 3, 0, 0] (inbound true true).2;
    let u := takeClaimFrame 2 1 [2, 3, 0, 0] (inbound true false).2;
    listOf t 0 = [⟨0, true, true⟩] ∧ counterOf t .commitsDone = 1 ∧ claimAt u 0 = none ∧
    (tget u.slots 0).binding = .unbound := by decide +kernel

/-! #### Stations -/

/-- Call 0 ringing and call 1 connected, with flash timers of 1 and 2. -/
def ringing : State :=
  dueAt .scanStart (modStation 31 (fun x => { x with flash := tset (tset x.flash 0 1) 7 2 })
    (setCall 1 (some ⟨.conf 3, true, [(4, .within)], 0⟩)
      (setCall 0 (some ⟨.point, false, [(0, .calling), (1, .ringing)], 1⟩) run)))
theorem witness_ScanStarts : isDue .scanStart ringing ∧
    callAt ringing 0 = some ⟨.point, false, [(0, .calling), (1, .ringing)], 1⟩ ∧
    callAt ringing 1 = some ⟨.conf 3, true, [(4, .within)], 0⟩ ∧ tget (stationOf ringing 31).flash 0 = 1 ∧
    tget (stationOf ringing 31).flash 7 = 2 ∧
    (ringsOut (dueAt .scanStart run) = [] ∧ flashesOut (dueAt .scanStart run) = []) := by decide +kernel

/-- A call of stations 0 and 31, connected or not, or no call. -/
def inCall (c : Option Bool) : State :=
  setCall 3 (c.map fun b => ⟨.point, b, if b then [(0, .within), (31, .within)] else [(0, .calling), (31, .ringing)], 0⟩) run
/-- Key 7 of station 0 with a function, in a state. -/
def lampKey (f : KeyFn) (s : State) : Lamp :=
  lampOf (modIntercom (fun x => { x with keymap := tmod x.keymap 0 fun r => tset r 7 f }) s) 0 7
/-- Lamps by the key's function: CALL, ANSWER, END, JOIN, PAGE and the alarm keys (R139). -/
theorem test_lamps :
    ([none, some false, some true].map fun c => lampKey (.call 31) (inCall c)) = [.off, .flashSlow, .on] ∧
    lampKey (.call 30) (inCall (some true)) = .off ∧ lampKey .answer (inCall (some false)) = .off ∧
    lampKey .endCall (inCall (some false)) = .on ∧ lampKey (.join 3) (inCall (some true)) = .off ∧
    lampKey (.join 3) (setCall 3 (some ⟨.conf 3, true, [(0, .within)], 0⟩) run) = .on ∧
    lampKey .answer (setCall 3 (some ⟨.point, false, [(31, .calling), (0, .ringing)], 5⟩) run) = .flashFast := by decide +kernel
theorem test_lamps_page :
    let key : KeyFn := .page 0 4 .duck .all false false;
    let at7 := fun c => setPage 0 (some ⟨7, false, c⟩) (withClaim 1 { claimOf (.station 0) 4 23 with state := .reserving }
      (withClaim 0 (claimOf (.station 0) 4 23) run));
    ([none, some 0, some 1].map fun c => lampKey key (at7 c)) = [.flashSlow, .on, .flashSlow] ∧
    lampKey key run = .off ∧ lampKey (.alarmStart 7 255) run = .off ∧
    lampKey (.alarmStop 7) (modAlarm (fun a => { a with list := [⟨7, noZones, none, 0⟩] }) run) = .on := by decide +kernel

/-- Station 31 PRESENT with a missed-scan count and the state of key 0. -/
def present (missed : Nat) (pending : Bool) : State :=
  modStation 31 (fun x => { x with present := true, missed := missed, keys := tset x.keys 0 ⟨false, pending⟩ }) run
theorem witness_PollOutcomes : quiet run ∧ running run = true ∧ (stationOf run 31).present = false ∧
    ((stationOf (present 0 false) 31).present = true ∧
      ∀ k, (tget (stationOf (present 0 false) 31).keys k).pending = false) ∧
    ((tget (stationOf (present 2 true) 31).keys 0).pending = true ∧
      (∀ j, j ≠ 0 → (tget (stationOf (present 2 true) 31).keys j).pending = false ∧
        false = (tget (stationOf (present 2 true) 31).keys j).down) ∧
      tget (tget (present 2 true).intercom.keymap 31) 0 = .none ∧ (stationOf (present 2 true) 31).page = none) ∧
    ((tget (stationOf (present 0 false) 31).keys 0).down = false ∧ quiet (present 0 false) ∧
      running (present 0 false) = true) ∧
    (stationOf (present 0 true) 31).missed ≤ 2 ∧ (stationOf (present 2 true) 31).missed = 2 := by decide +kernel

/-- Key 7 of station 0 calls station 31, which is PRESENT or not. -/
def callable (b : Bool) : State :=
  modIntercom (fun x => { x with keymap := tmod x.keymap 0 fun r => tset r 7 (.call 31) })
    (modStation 31 (fun x => { x with present := b }) run)
/-- Key 7 of station 0 with a function. -/
def keyed (f : KeyFn) (s : State) : State :=
  modIntercom (fun x => { x with keymap := tmod x.keymap 0 fun r => tset r 7 f }) s
/-- Every call record in use, by conferences of station 2. -/
def fullCalls (s : State) : State :=
  modIntercom (fun x => { x with calls := Vector.replicate 16 (some ⟨.conf 0, true, [(2, .within)], 0⟩) }) s
/-- A page in progress of station 0, by a key. -/
def paging (k : KeyId) (latch : Bool) (c : Option ClaimId) (s : State) : State := setPage 0 (some ⟨k, latch, c⟩) s
/-- Conference 3 with n members. -/
def conf3 (n : Nat) : Call := ⟨.conf 3, true, List.replicate n (1, .within), 0⟩
theorem witness_KeysPressed :
    (tget (tget (callable true).intercom.keymap 0) 7 = .call 31 ∧ pageOfKey (callable true) 0 7 true = false ∧
      callOf (callable true) 0 = none ∧ (stationOf (callable true) 31).present = true ∧
      callOf (callable true) 31 = none ∧ freeCall (callable true) = some 0) ∧
    (tget (tget run.intercom.keymap 0) 7 = .none ∧ pageOfKey run 0 7 true = false ∧ pageOfKey run 0 7 false = false) ∧
    callOf (setCall 0 (some ⟨.conf 0, true, [(0, .within)], 0⟩) (callable true)) 0 ≠ none ∧
    (stationOf (callable false) 31).present = false ∧
    callOf (setCall 0 (some ⟨.conf 0, true, [(31, .within)], 0⟩) (callable true)) 31 ≠ none ∧
    (callOf (fullCalls (callable true)) 0 = none ∧ callOf (fullCalls (callable true)) 31 = none ∧
      freeCall (fullCalls (callable true)) = none) ∧
    (tget (tget (keyed .answer run).intercom.keymap 0) 7 = .answer ∧
      callOf (setCall 15 (some ⟨.point, false, [(1, .calling), (0, .ringing)], 5⟩) run) 0 =
        some (15, ⟨.point, false, [(1, .calling), (0, .ringing)], 5⟩, .ringing)) ∧
    (tget (tget (keyed .endCall run).intercom.keymap 0) 7 = .endCall ∧
      callOf (setCall 15 (some ⟨.point, false, [(0, .calling), (1, .ringing)], 5⟩) run) 0 =
        some (15, ⟨.point, false, [(0, .calling), (1, .ringing)], 5⟩, .calling) ∧
      callOf (setCall 15 (some ⟨.conf 3, true, [(1, .within), (0, .held)], 0⟩) run) 0 =
        some (15, ⟨.conf 3, true, [(1, .within), (0, .held)], 0⟩, .held) ∧
      callOf (setCall 15 (some ⟨.conf 3, true, [(0, .within)], 0⟩) run) 0 =
        some (15, ⟨.conf 3, true, [(0, .within)], 0⟩, .within)) ∧
    (tget (tget (keyed (.join 3) run).intercom.keymap 0) 7 = .join 3 ∧ conference run 3 = none ∧ freeCall run = some 0 ∧
      conference (fullCalls run) 3 = none ∧ freeCall (fullCalls run) = none) ∧
    (conference (setCall 0 (some (conf3 5)) run) 3 = some (0, conf3 5) ∧ (conf3 5).members.length = 5 ∧
      callOf (setCall 0 (some (conf3 5)) run) 0 = none ∧
      conference (setCall 0 (some (conf3 6)) run) 3 = some (0, conf3 6) ∧ (conf3 6).members.length = 6 ∧
      callOf (setCall 0 (some (conf3 6)) run) 0 = none) := by decide +kernel

theorem witness_KeysPressed_pages :
    (tget (tget (keyed (.page 31 4 .duck .all true false) run).intercom.keymap 0) 7 = .page 31 4 .duck .all true false ∧
      (stationOf run 0).page = none ∧ running run = true ∧ run.claims.queue.length < 14 ∧
      14 ≤ (modClaims (fun x => { x with queue := List.replicate 14 (.start (wanted false)) }) run).claims.queue.length ∧
      (stationOf (paging 0 false none run) 0).page ≠ none ∧ pageOfKey (paging 0 false none run) 0 7 true = false) ∧
    (tget (tget (keyed (.alarmStart 7 255) run).intercom.keymap 0) 7 = .alarmStart 7 255 ∧
      tget (tget (keyed (.alarmStop 7) run).intercom.keymap 0) 7 = .alarmStop 7 ∧ hasAuthority run 0 = false ∧
      hasAuthority (modStation 0 (fun x => { x with cfg := { x.cfg with alarmAuthority := true } }) run) 0 = true ∧
      (startAlarm 7 255 run).1.isSome = true ∧ alarmEntry run 7 = none ∧
      (stopAlarm 7 (modAlarm (fun a => { a with list := [⟨7, noZones, none, 0⟩] }) run)).1.isNone = true ∧
      (startAlarm 7 0 (modAlarm (fun a => { a with
        programs := tset a.programs 7 ⟨0, 0, [.stop]⟩, list := [⟨7, noZones, none, 0⟩] }) run)).1.isNone = true) ∧
    (∀ latch, pageOfKey (paging 7 latch none run) 0 7 latch = true ∧
      (stationOf (paging 7 latch none run) 0).page = some ⟨7, latch, none⟩ ∧
      (stationOf (paging 7 latch (some 0) (withClaim 0 (claimOf (.station 0) 4 23) run)) 0).page =
        some ⟨7, latch, some 0⟩ ∧
      claimAt (paging 7 latch (some 0) (withClaim 0 (claimOf (.station 0) 4 23) run)) 0 =
        some (claimOf (.station 0) 4 23)) := by decide +kernel

/-- Station 31 at its third missed scan, in a two-party call or in none. -/
def leaving (c : Option Call) : State := dueAt (.stationAbsent 31) (setCall 0 c (present 3 false))
theorem witness_StationChanges :
    (isDue (.stationAbsent 31) (leaving none) ∧ (stationOf (leaving none) 31).present = true ∧
      (stationOf (leaving none) 31).missed = 3 ∧ (stationOf (leaving none) 31).page = none ∧
      callOf (leaving none) 31 = none) ∧
    callOf (leaving (some ⟨.point, true, [(0, .within), (31, .within)], 0⟩)) 31 =
      some (0, ⟨.point, true, [(0, .within), (31, .within)], 0⟩, .within) ∧
    callOf (leaving (some ⟨.conf 3, true, [(0, .within), (31, .within)], 0⟩)) 31 =
      some (0, ⟨.conf 3, true, [(0, .within), (31, .within)], 0⟩, .within) ∧
    (callOf (leaving (some ⟨.conf 3, true, [(31, .within)], 0⟩)) 31 =
      some (0, ⟨.conf 3, true, [(31, .within)], 0⟩, .within)) ∧
    (let s := setPage 31 (some ⟨0, true, some 47⟩) (withClaim 47 (claimOf (.station 31) 4 26)
        (leaving (some ⟨.point, true, [(0, .within), (31, .held)], 0⟩)));
      (stationOf s 31).page = some ⟨0, true, some 47⟩ ∧ claimAt s 47 = some (claimOf (.station 31) 4 26) ∧
      callOf s 31 = some (0, ⟨.point, true, [(0, .within), (31, .held)], 0⟩, .held) ∧ s.reports.queue = [] ∧
      (∀ j, j ≠ 0 → callAt s j = none)) ∧
    (let s := setPage 31 (some ⟨0, true, none⟩) (leaving none);
      isDue (.stationAbsent 31) s ∧ (stationOf s 31).page = some ⟨0, true, none⟩ ∧ callOf s 31 = none) ∧
    (let s := dueAt (.callNoAnswer 15) (setCall 15 (some ⟨.point, false, [(0, .calling), (1, .ringing)], 0⟩) run);
      isDue (.callNoAnswer 15) s ∧ callAt s 15 = some ⟨.point, false, [(0, .calling), (1, .ringing)], 0⟩) ∧
    (let s := dueAt (.flashTimer 31 7) (modStation 31 (fun x => { x with flash := tset x.flash 7 1 }) run);
      isDue (.flashTimer 31 7) s ∧ tget (stationOf s 31).flash 7 = 1) := by decide +kernel

/-- The reports of a station that becomes ABSENT with a page claim and in a call (R133; log entry 12). -/
theorem test_absence : (becomeAbsent 31 (setPage 31 (some ⟨0, true, some 47⟩) (withClaim 47 (claimOf (.station 31) 4 26)
      (leaving (some ⟨.point, true, [(0, .within), (31, .held)], 0⟩))))).reports.queue =
    [⟨.claimEnd, 47, 4, 0⟩, ⟨.callEnd, 0, 3, 0⟩, ⟨.stationPresence, 31, 0, 0⟩] := by decide +kernel

/-! #### Alarms, clips and lanes -/

/-- Channel 0 runs program 0, made of a first step that has ended and the steps given, with the only entry of the list. -/
def sounding (first : AlarmStep) (steps : List AlarmStep) (d : Due) : State :=
  dueAt d (modAlarm (fun a =>
    { a with
      programs := tset a.programs 0 ⟨0, 0, first :: steps⟩
      list := [⟨0, noZones, some 0, 0⟩]
      channels := tset a.channels 0 { freeChannel with program := some 0 } }) run)
theorem witness_StepEnds :
    (let s := sounding (.tone 100 255 1 0) [.tone 4000 255 1 0] (.toneStepEnd 0);
      isDue (.toneStepEnd 0) s ∧ toneEnded s 0 = true ∧ stepAt s 0 1 = some (.tone 4000 255 1 0)) ∧
    (let s := sounding (.silent 1) [.silent 1] (.silenceStepEnd 0);
      isDue (.silenceStepEnd 0) s ∧ silenceEnded s 0 = true ∧ stepAt s 0 1 = some (.silent (0 + 1))) ∧
    (let s := sounding (.tone 100 255 1 0) [.repeatTo 0 1] (.toneStepEnd 0);
      stepAt s 0 1 = some (.repeatTo 0 1) ∧ tget (channelOf s 0).repeats (repeatIx 1) < 1 ∧
      stepAt s 0 0 = some (.tone 100 255 1 0)) ∧
    (let s := sounding (.tone 100 255 1 0) [] (.toneStepEnd 0);
      stepAt s 0 1 = none ∧ (channelOf s 0).program = some 0 ∧ (channelOf s 0).request = .none) ∧
    stepAt (sounding (.tone 100 255 1 0) [.stop] (.toneStepEnd 0)) 0 1 = some .stop := by decide +kernel

/-- Program 7 is one TONE step, and group 31 has zone 0. -/
def armed : State :=
  modClaims (fun x =>
    { x with
      groups := tset x.groups 31 ⟨tset noZones 0 true, []⟩
      queue := List.replicate 15 (.start (wanted false)) })
    (modAlarm (fun a => { a with programs := tset a.programs 7 ⟨7, 31, [.tone 100 255 1 0]⟩ }) run)
/-- The list holds entries; channels 0 and 1 run programs 0 and 1, channel 0 with a claim. -/
def listed (l : List AlarmEntry) : State :=
  modAlarm (fun a =>
    { a with
      list := l
      channels := #v[{ freeChannel with program := some 0, claim := some 1 }, { freeChannel with program := some 1 }] }) armed
def running2 : List AlarmEntry := [⟨0, noZones, some 0, 0⟩, ⟨1, noZones, some 1, 1⟩]
/-- A pattern of the positions 0 and 2 of the frames of any origin; it stops program 7. -/
def hit : PatternEntry :=
  ⟨true, tset (tset (Vector.replicate 64 false) 0 true) 2 true, crc16 [49, 50], 0, .stop 7, false⟩
def patterned (chained : Bool) : State :=
  modAlarm (fun a => { a with patterns := tset a.patterns 0 { hit with chained := chained } }) run
theorem witness_AlarmStartAndStop :
    (ready armed ∧ (8 : Nat) ≤ 8) ∧ (programOf armed 0).steps = [] ∧
    ((programOf armed 7).steps = .tone 100 255 1 0 :: [] ∧ alarmEntry armed 7 = none) ∧
    isNoZones (startZones armed 7 0) = true ∧ isNoZones (startZones armed 7 255) = false ∧
    (armed.alarm.list = [] ∧ (channelOf armed 0).program = none ∧ armed.claims.queue.length < 16) ∧
    (let s := modAlarm (fun a => { a with list := [⟨7, noZones, some 1, 0⟩] }) armed;
      ready s ∧ s.alarm.list = [⟨7, noZones, some 1, 0⟩]) ∧
    (let s := listed [⟨7, tset noZones 0 true, none, 0⟩];
      alarmEntry s 7 = some ⟨7, tset noZones 0 true, none, 0⟩ ∧
      isNoZones (diffZones (startZones s 7 31) (tset noZones 0 true)) = true) ∧
    (let s := listed [⟨7, noZones, some 0, 0⟩];
      alarmEntry s 7 = some ⟨7, noZones, some 0, 0⟩ ∧ isNoZones (diffZones (startZones s 7 31) noZones) = false ∧
      (channelOf s 0).request = .none ∧ (channelOf s 0).claim = some 1 ∧ s.claims.queue.length < 16 ∧
      (channelOf (modChannel 0 (fun x => { x with request := .start }) s) 0).request ≠ .none) ∧
    (let s := listed [⟨0, noZones, none, 0⟩, ⟨1, noZones, none, 0⟩, ⟨2, noZones, none, 0⟩, ⟨3, noZones, none, 0⟩];
      4 ≤ s.alarm.list.length ∧ s.alarm.list.getLast? = some ⟨3, noZones, none, 0⟩ ∧ alarmEntry s 7 = none ∧
      rankOf s ⟨3, noZones, none, 0⟩ < (programOf s 7).rank ∧ (programOf s 4).rank ≤ rankOf s ⟨3, noZones, none, 0⟩) ∧
    (listed running2).alarm.list = running2 ∧ (channelOf (listed running2) 0).program = some 0 ∧
    (channelOf (listed running2) 1).program = some 1 ∧ (listed running2).reports.queue = [] ∧
    (channelOf (listed running2) 1).request = .none ∧
    patternMatches hit [0, 2] 2 [49, 0, 50] = true ∧ maskPositions 64 (Vector.replicate 64 true) ≠ [] ∧
    (∀ x ∈ patternsTested run, patternMatches (tget run.alarm.patterns x.1) x.2 2 [49, 0, 50] = false) ∧
    (∀ chained, patternsTested (patterned chained) = [] ++ (0, [0, 2]) :: (patternsTested (patterned chained)).drop 1) ∧
    (∀ chained, ∀ y ∈ (patternsTested (patterned chained)).drop 1,
      patternMatches (tget (patterned chained).alarm.patterns y.1) y.2 2 [49, 0, 50] = false) := by decide +kernel

/-- A program that outranks the later RUNNING one of two takes its channel, and the other waits (R151). -/
theorem test_preempts :
    let t := (startAlarm 7 31 (listed running2)).2;
    t.alarm.list.map (fun x => (x.program, x.channel)) = [(7, some 1), (0, some 0), (1, none)] ∧
    counterOf t .alarmPreemptions = 1 ∧ (⟨.alarmStarted, 1, 2, 0⟩ : Report) ∈ t.reports.queue := by decide +kernel

/-- The flash port with an operation in flight and one write waiting behind it. -/
def flashing (op : FlashOp) (w : List WriteRequest) : State :=
  modPlayer 1 (fun x => { x with state := .starting, buffers := tset x.buffers 0 ⟨some 0, false, []⟩ })
    (modClips (fun c => { c with inFlight := some op, writes := w }) run)
theorem witness_FlashCompletes :
    (let s := flashing (.read ⟨.player 1 0, 10, 0⟩) [];
      quiet s ∧ s.clips.reads = [] ∧ (playerOf s 1).state ≠ .idle ∧
      (tget (playerOf s 1).buffers (bufferIx 0)).sector = some 0) ∧
    (flashing (.read ⟨.nobody, 10, 0⟩) []).clips.inFlight = some (.read ⟨.nobody, 10, 0⟩) ∧
    (flashing (.write 10 []) [⟨.clip 10 [], 0, true, 0⟩]).clips.writes = [⟨.clip 10 [], 0, true, 0⟩] ∧
    (flashing (.write 8 []) [⟨.directory, 0, true, 0⟩]).clips.writes = [⟨.directory, 0, true, 0⟩] ∧
    (flashing (.write 6 []) [⟨.image [], 6, true, 0⟩]).clips.writes = [⟨.image [], 6, true, 0⟩] ∧
    (flashing (.write 7 []) [⟨.image [], 7, true, 0⟩]).clips.inFlight = some (.write 7 []) := by decide +kernel

/-- The flash port is free or busy, with these reads and writes waiting. -/
def arbiting (op : Option FlashOp) (r : List ReadRequest) (w : List WriteRequest) : State :=
  modClips (fun c => { c with inFlight := op, reads := r, writes := w }) run
theorem witness_FlashCompletes_arbiter :
    (let s := arbiting (some (.read ⟨.nobody, 10, 0⟩)) [⟨.player 1 0, 10, 1⟩] [];
      quiet s ∧ s.clips.inFlight = some (.read ⟨.nobody, 10, 0⟩)) ∧
    (let w : List WriteRequest := [⟨.clip 10 [], 0, true, 0⟩, ⟨.directory, 0, false, 2⟩];
      (arbiting (some (.write 10 [])) [⟨.player 1 0, 10, 1⟩] w).clips.writes = w) ∧
    (heldBack [⟨.clip 10 [], 0, false, 0⟩] ⟨.player 1 0, 10, 1⟩ ∧
      ¬heldBack [⟨.clip 10 [], 0, false, 2⟩] ⟨.player 1 0, 10, 1⟩ ∧
      heldBack [⟨.directory, 1, true, 0⟩] ⟨.directory 1, 9, 1⟩ ∧ ¬heldBack [⟨.directory, 1, true, 0⟩] ⟨.directory 0, 8, 1⟩ ∧
      heldBack [⟨.image [], 7, true, 0⟩] ⟨.image 7, 7, 1⟩ ∧ ¬heldBack [⟨.image [], 7, true, 0⟩] ⟨.image 6, 6, 1⟩) ∧
    (nextSector run ⟨.clip 10 [7], 0, false, 0⟩ 10 [7] ∧ nextSector run ⟨.image [7], 0, false, 0⟩ 0 [7]) := by
  simp [heldBack, nextSector]; decide +kernel

/-- A read waits behind the earlier write of its sector, and goes before another write (R170). -/
theorem test_arbiter :
    let next := fun r => (arbitrateFlash (arbiting none r [⟨.clip 10 [7], 0, false, 0⟩])).clips.inFlight;
    next [⟨.player 1 0, 10, 1⟩, ⟨.player 0 0, 11, 2⟩] = some (.read ⟨.player 0 0, 11, 2⟩) ∧
    next [⟨.player 1 0, 10, 1⟩] = some (.write 10 [7]) := by decide +kernel

/-- A load whose read for a requester is in flight, of a reload or at power-on, with tables that wait or none. -/
def loading (r : Reader) (power : Bool) (x : Option ImageTables) : State :=
  { modClips (fun c => { c with inFlight := some (.read ⟨r, 7, 7⟩) }) run with
    control := { run.control with mode := .loading, load := some ⟨power, [], x, []⟩ } }
theorem witness_LoadEnds :
    (∀ power, quiet (loading (.image 7) power none) ∧ (loading (.image 7) power none).control.mode = .loading ∧
      (loading (.image 7) power none).clips.inFlight = some (.read ⟨.image 7, 7, 7⟩) ∧
      (loading (.image 7) power none).control.load = some ⟨power, [], none, []⟩ ∧
      (loading (.image 7) power none).reports.queue = [] ∧ (loading (.image 7) power none).clips.reads = [] ∧
      (loading (.image 7) power none).clips.writes = []) ∧
    (loading (.directory 0) true (some builtIn)).clips.inFlight = some (.read ⟨.directory 0, 7, 7⟩) ∧
    (loading (.directory 1) true (some builtIn)).control.load = some ⟨true, [], some builtIn, []⟩ ∧
    (let s := modZone 23 (fun r => { r with cfg := { r.cfg with supervision := true } }) run;
      (tget s.mix.zones 23).cfg.supervision = true ∧ (tget builtIn.zones 23).supervision = false) := by decide +kernel

/-- The state with a read in flight at the flash port. -/
def busyPort (s : State) : State := modClips (fun c => { c with inFlight := some (.read ⟨.nobody, 0, 0⟩) }) s

/-- Player 1 has played its 48 samples out for an owner. -/
def played (o : PlayerOwner) : State :=
  dueAt (.playComplete 1) (withClaim 0 (claimOf .management 4 30)
    (modPlayer 1 (fun x => { x with state := .playing, owner := o, samples := 48, position := 48 }) run))
theorem witness_PlayCompletes :
    (isDue (.playComplete 1) (played (.management (some 0))) ∧
      playedOut (playerOf (played (.management (some 0))) 1) = true ∧
      claimAt (played (.management (some 0))) 0 = some (claimOf .management 4 30)) ∧
    ((playerOf (played (.alarm 1)) 1).owner = .alarm 1 ∧ atClip (played (.alarm 1)) 1 = false) ∧
    (let s := modAlarm (fun a =>
        { a with
          programs := tset a.programs 7 ⟨0, 0, [.clip 0, .tone 4000 255 1 0]⟩
          channels := tset a.channels 1 { freeChannel with program := some 7, claim := some 0 } }) (played (.alarm 1));
      atClip s 1 = true ∧ stepAt s 1 ((channelOf s 1).step + 1) = some (.tone 4000 255 1 0)) ∧
    (let s := modPlayer 0 (fun _ => ⟨.playing, .alarm 0, 0, 4097, 3, 10, 2000,
        #v[⟨some 0, true, List.replicate 4096 1⟩, ⟨some 1, true, List.replicate 4096 2⟩]⟩) (busyPort run);
      (∀ n : Fin 48, bufferReady (playerOf s 0) (2000 + n.val) = true) ∧ (2000 + 48) / 2048 = 1 ∧
      1 + 1 < (playerOf s 0).sectors ∧ s.clips.inFlight ≠ none ∧
      bufferReady (playerOf (modPlayer 0 (fun x => { x with position := 4048 }) s) 0) 4096 = false) ∧
    (1952 + 48) / 2048 = 1952 / 2048 := by decide +kernel

theorem witness_FirstFit : allocate run 8182 = some 10 ∧ allocate run 8183 = none := by decide +kernel

/-- Clip 63 in a state, with two sectors at 10. -/
def clipIn (c : ClipState) : State := modClips (fun x => { x with directory := tset x.directory 63 ⟨c, 10, 2, 4096, 1⟩ }) run
/-- The state with n clip sectors waiting to be written. -/
def writing (n : Nat) (s : State) : State := modClips (fun c => { c with writes := List.replicate n ⟨.clip 10 [], 0, false, 0⟩ }) s
theorem witness_ClipOperations :
    (ready run ∧ (64 : Nat) ≤ 64) ∧ (clipAt (clipIn .ready) 63).state ≠ .empty ∧
    ((clipAt (clipIn .opened) 0).state = .empty ∧ anyOpen (clipIn .opened) = true) ∧
    ((clipAt run 63).state = .empty ∧ anyOpen run = false ∧ sectorCount 16756737 = 8183 ∧ sectorCount 16756736 = 8182) ∧
    ((clipAt (clipIn .opened) 63).state = .opened ∧ (clipAt (clipIn .opened) 63).sectors ≤ 2 ∧
      1 < (clipAt (clipIn .opened) 63).sectors) ∧
    (writing 4 (clipIn .opened)).clips.writes.length = 4 ∧
    (let s := busyPort (writing 3 (clipIn .opened));
      s.clips.writes.length < 4 ∧ s.clips.inFlight ≠ none ∧ 1 ∉ s.clips.writtenSet ∧ s.control.saving = false) ∧
    (modControl (fun c => { c with saving := true }) (clipIn .opened)).control.saving = true ∧
    canQueueDirectory (clipIn .opened).clips.writes = true ∧
    canQueueDirectory (writing 4 (clipIn .opened)).clips.writes = false ∧
    ((writing 3 run).clips.writes.getLast? = some ⟨.clip 10 [], 0, false, 0⟩ ∧ run.clips.writes = []) ∧
    playerHolds (modPlayer 1 (fun x => { x with clip := 63, owner := .management none }) (clipIn .ready)) 63 = true ∧
    playerHolds (clipIn .ready) 63 = false := by decide +kernel

/-- A delete of an OPEN clip removes its writes that have not begun, and no other, and asks for a directory write (R168). -/
theorem test_deleteOpen : (match exec (.clipDelete 63) (modClips (fun c => { c with
      inFlight := some (.write 10 [])
      writes := [⟨.clip 10 [], 0, true, 0⟩, ⟨.clip 11 [], 0, false, 1⟩, ⟨.clip 12 [], 0, false, 2⟩] }) (clipIn .opened)) with
    | .next t => t.clips.writes.map (·.kind) == [.clip 10 [], .clip 12 [], .directory]
    | _ => false) = true := by decide +kernel

/-- The access pointer at a place of a table. -/
def at' (t : TableName) (row column : Nat) (s : State) : State :=
  modControl (fun c => { c with
    pointer := ⟨t, row, column, 0, (tableDims t).1 - 1, 0, (tableDims t).2 - 1, .rowFirst⟩ }) s

/-- The window at its 256th boundary: spare lane 24 whole or not, all its returns normal. -/
def window (whole : Bool) : State :=
  dueAt .windowClose (modRecord 24 (fun r => { r with whole := whole, returns := 256, loadSum := 256 * 500 })
    (modLines (fun x => { x with windowCount := 256 }) run))
/-- Zones 3 and 5 name lane 24 as backup, and their primary lines are OPEN. -/
def faulted : State :=
  forEach [3, 5] (fun z s => modRecord (laneOfZone z) (fun r => { r with state := some .openLine })
    (modZone z (fun r => { r with cfg := { r.cfg with backup := some 24 } }) s)) run
/-- Every zone is read in one state. -/
def readAll (s : State) : ZoneId → MixView := fun _ => mixView s
/-- The same with a LIVE claim of zone 5. -/
def claimed5 : State := setList 5 [⟨0, true, true⟩] (withClaim 0 (claimOf .management 4 0) faulted)
/-- Zone 3 under supervision, without a backup lane, and with a pilot of 77. -/
def rewritten : ZoneEntry := { defaultZone with supervision := true, pilot := 77 }
/-- A WRITE that falls after stage 3 of a boundary, and before stage 4: spare 24 still serves zone 3, and the lane of zone 3
carries the new pilot; where stage 3 comes after it, spare 24 serves zone 5 (R43, R178, R183). -/
theorem test_stagesRace : (match
      exec (.localBoundary { staged 0 9 9 with meanwhile := 1 }) (at' .zone 3 0 faulted),
      exec (.localBoundary { noRace with meanwhile := 1 }) (at' .zone 3 0 faulted) with
    | .next s, .next t => (match exec (.write [.zone rewritten]) s, exec (.write [.zone rewritten]) t with
      | .next u, .next v => (recordOf (settle u) 24).served == some 3 && tget (tget (settle u).lines.laneOut 3) 0 == 77 &&
          (recordOf (settle v) 24).served == some 5
      | _, _ => false)
    | _, _ => false) = true := by decide +kernel
/-- The same write between stage 3 and the mix engine's reading of zone 3: its lane is sent as the zone block is handed over,
so stage 4 comes after the write though its own moment is before it (R43, R178). -/
theorem test_laneAfterMix : (match
      exec (.localBoundary { staged 0 0 9 with mixAt := [(3, 9)], meanwhile := 1 }) (at' .zone 3 0 faulted),
      exec (.localBoundary { staged 0 0 9 with meanwhile := 1 }) (at' .zone 3 0 faulted) with
    | .next s, .next t => (match exec (.write [.zone rewritten]) s, exec (.write [.zone rewritten]) t with
      | .next u, .next v => tget (tget (settle u).lines.laneOut 3) 0 == 77 && tget (tget (settle v).lines.laneOut 3) 0 == 0
      | _, _ => false)
    | _, _ => false) = true := by decide +kernel
theorem witness_LineWindow : quiet run ∧ isDue .windowClose (window true) ∧ 256 ≤ (window true).lines.windowCount ∧
    isSupervised (window true) 23 = false ∧
    (isSupervised (window true) 24 = true ∧ (recordOf (window true) 24).whole = true ∧
      verdictOf (judgingZone (window true).mix.zones 24) (recordOf (window true) 24) = .normal) ∧
    (recordOf (window false) 24).whole = false ∧
    ((tget (modLane 24 (fun x => { x with back := some (1023, .overtemp) }) run).lines.lanes 24).back =
        some (1023, .overtemp) ∧ (tget run.lines.lanes 24).back = none ∧ isSupervised run 24 = true) ∧
    (let z := defaultZone;
      (verdictOf z { recordOf run 24 with returns := 240 } = .ampAbsent ∧
        verdictOf z { recordOf run 24 with returns := 241 } = .short) ∧
      (z.shortLimit < z.nominalLow ∧ z.nominalLow ≤ z.nominalHigh ∧ z.nominalHigh < z.openLimit)) ∧
    (candidates (readAll faulted) 24 = [3, 5] ∧ servedChoice (readAll faulted) faulted 24 = some 3 ∧
      servedChoice (readAll claimed5) faulted 24 = some 5 ∧ inFault (recordOf faulted 24).state = false ∧
      (recordOf faulted 24).served = none ∧
      (let s := modRecord 24 (fun r => { r with served := some 3 }) faulted;
        servedChoice (readAll claimed5) s 24 = some 5 ∧ (recordOf s 24).served = some 3 ∧ (5 : ZoneId) ≠ 3 ∧
        inFault (tget (mixView claimed5).lineStates (laneOfZone 3)) = true ∧
        (let v := readAll (modRecord (laneOfZone 3) (fun r => { r with state := some .normal }) claimed5);
          inFault (tget (v 3).lineStates (laneOfZone 3)) = false ∧ servedChoice v s 24 = some 5)) ∧
      (let s := modRecord 24 (fun r => { r with state := some .short, served := some 3 }) faulted;
        servedChoice (readAll faulted) s 24 = none) ∧
      inFault (recordOf (modRecord 24 (fun r => { r with state := some .short }) faulted) 24).state = true ∧
      candidates (readAll run) 24 = [] ∧ inFault (tget (mixView run).lineStates (laneOfZone 3)) = false) ∧
    (pilotOf (readAll run) 24 = some 4096 ∧ pilotSample 4096 0 = 4096) ∧
    (tget run.lines.unheard 23 = false ∧ (tget run.lines.unheard 23 ≠ true)) := by decide +kernel

/-! #### Control frames and reports -/

/-- A CONTROL frame of node 2 with n operations waits, in the mode given, with node 3 as the only controller or none. -/
def framed (n : Byte) (m : Mode) (controller : Fin 256) : State :=
  modControl (fun c =>
    { c with mode := m, queue := [⟨2, [7, n]⟩], node := { c.node with controllerA := controller } }) run
theorem witness_ControlFrames :
    acceptedOrigin (framed 0 .run 3) 2 = false ∧
    (acceptedOrigin (framed 0 .standalone 0) 2 = true ∧ (framed 0 .standalone 0).control.mode = .standalone) ∧
    acceptedOrigin (framed 0 .run 2) 2 = true ∧
    (quiet (framed 0 .run 0) ∧ running (framed 0 .run 0) = true ∧ (framed 0 .run 0).control.service = none ∧
      byteAt [7, 0] 1 = 0) ∧
    (byteAt [7, 1] 1 = 1 ∧ byteAt [7, 16] 1 = 16 ∧ byteAt [7, 17] 1 = 17) ∧
    (run.control.service = none ∧ isRefusal .busy = true ∧ isRefusal .ok = false) ∧
    (let v : ControlService := ⟨2, 7, 2, 2, 0, [], false, false⟩;
      v.index + 1 < v.count ∧ v.index + 1 < v.decodable ∧ { v with count := 1 }.count ≤ v.index + 1 ∧
      { v with decodable := 1 }.decodable ≤ v.index + 1 ∧
      (modControl (fun c => { c with service := some v }) run).control.service = some v) ∧
    (let s := dueAt .standaloneEntry (modControl (fun c => { c with timer := c.node.timeout }) run);
      isDue .standaloneEntry s ∧ timerExpired s = true) := by decide +kernel

theorem witness_AccessPointer : ready run ∧
    (31 < (tableDims .keymap).1 ∧ 7 < (tableDims .keymap).2) ∧
    ((tableDims .counters).1 ≤ 551 ∧ (tableDims .counters).2 ≤ 1) ∧
    ((23 : Nat) ≤ 23 ∧ 23 < (tableDims .matrix).1 ∧ 31 < (tableDims .matrix).2) ∧
    inWindow ⟨.matrix, 23, 31, 0, 23, 0, 31, .columnFirst⟩ := by unfold inWindow; decide +kernel

theorem witness_Writes :
    (ready (at' .matrix 23 31 run) ∧ (at' .matrix 23 31 run).control.pointer.table = .matrix) ∧
    ((at' .zone 23 0 run).control.pointer.table = .zone ∧ (23 : ZoneId) = finUpTo 23 23 ∧
      (tget run.mix.zones 23).cfg.enabled = defaultZone.enabled ∧
      (tget run.mix.zones 23).cfg.supervision = defaultZone.supervision ∧ fadeOn run (.master 23) = none) ∧
    (tget run.mix.zones 0).cfg.enabled = true ∧
    (let s := at' .zone 23 0 (setList 23 [⟨47, true, true⟩] (withClaim 47 (claimOf (.peer 2 3) 4 22) run));
      listOf s 23 = [⟨47, true, true⟩] ∧ claimAt s 47 = some (claimOf (.peer 2 3) 4 22) ∧
      (∀ y, y ≠ 23 → entryIn (listOf s y) 47 = none)) ∧
    (readOnlyAt .source 23 = true ∧ readOnlyAt .counters 550 = true ∧ readOnlyAt .source 22 = false) ∧
    (let s := withClaim 0 (claimOf .management 4 22) run;
      writtenBinding .static (.ring 2 0 0) ≠ (tget s.slots 22).binding ∧ slotInUse s 22 = true ∧
      writtenBinding .static .none = (tget s.slots 22).binding ∧ (tget s.slots 22).mode = some .static) := by decide +kernel

/-- Program 7 is in the alarm request list. -/
def listed7 (s : State) : State := modAlarm (fun a => { a with list := [⟨7, noZones, none, 0⟩] }) s
theorem witness_Writes_rows :
    ((at' .source 22 0 run).control.pointer.table = .source ∧ (at' .source 22 0 run).control.pointer.row = 22 ∧
      slotInUse (at' .source 22 0 run) 22 = false ∧
      writtenBinding .static (.ring 2 0 0) ≠ (tget (at' .source 22 0 run).slots 22).binding) ∧
    ((at' .group 31 0 run).control.pointer.row = 31 ∧ (List.replicate 4 (⟨0, 32⟩ : PeerRef)).length ≤ 4 ∧
      4 < (List.replicate 5 (⟨0, 32⟩ : PeerRef)).length) ∧
    (at' .chime 3 0 run).control.pointer.row = 3 ∧ (at' .station 31 0 run).control.pointer.row = 31 ∧
    ((at' .keymap 31 7 run).control.pointer.row = 31 ∧ (at' .keymap 31 7 run).control.pointer.column = 7) ∧
    (alarmEntry (at' .alarmProgram 7 0 run) 7 = none ∧ (at' .alarmProgram 7 0 run).control.pointer.row = 7) ∧
    (let s := listed7 (at' .alarmProgram 7 0 run);
      alarmEntry s 7 ≠ none ∧ alarmEntry s 0 = none ∧ (advancePointer s.control.pointer).row = 0) ∧
    (at' .pattern 3 0 run).control.pointer.row = 3 ∧ (at' .node 0 0 run).control.pointer.table = .node ∧
    (let p := (at' .taper 254 0 run).control.pointer;
      p.table = .taper ∧ p.advance = .rowFirst ∧ p.lastColumn ≤ p.column ∧ p.firstColumn = p.column ∧
      p.row + ([7, 9] : List Gain).length ≤ p.lastRow + 1 ∧ p.lastRow ≤ 255) := by decide +kernel
theorem witness_Writes_malformed (g : Gain) : Entry.level 0 ≠ .gain g := nofun

/-- Zone 23 with its enable, its supervision and a running master fade, the pointer on it; both alarm channels run an entry
of it, and a GAIN of channel 1 waits. -/
def rewriting (enabled supervised fade : Bool) : State :=
  at' .zone 23 0 (modScene (fun x => { x with fades := if fade then [⟨.master 23, 0, 255, 9, 1⟩] else [] })
    (modChannel 1 (fun x => { x with program := some 1, request := .gain })
      (modChannel 0 (fun x => { x with program := some 0, claim := some 0 })
        (modAlarm (fun a => { a with list := [⟨1, tset noZones 23 true, some 1, 0⟩, ⟨0, tset noZones 23 true, some 0, 1⟩] })
          (modZone 23 (fun r => { r with cfg := { r.cfg with enabled := enabled, supervision := supervised } })
            run)))))
theorem witness_Writes_zone :
    (let s := rewriting false false false;
      ready s ∧ (tget s.mix.zones 23).cfg.enabled = false ∧ defaultZone.enabled = true ∧
      (tget s.mix.zones 23).cfg.supervision = defaultZone.supervision ∧ fadeOn s (.master 23) = none ∧
      s.alarm.list.filterMap (fun x => if tget x.zones 23 then x.channel else none) = [1, 0] ∧
      ([1, 0] : List ChanId).Nodup ∧
      s.claims.queue.length + 2 ≤ 16 ∧ (channelOf s 1).request ≠ .none ∧ (channelOf s 0).request = .none ∧
      (channelOf s 0).claim = some 0) ∧
    (let s := rewriting true true false;
      (tget s.mix.zones 23).cfg.enabled = defaultZone.enabled ∧ (tget s.mix.zones 23).cfg.supervision = true ∧
      (recordOf s (laneOfZone 23)).state = none ∧
      (recordOf (modRecord 23 (fun r => { r with state := some .short }) s) (laneOfZone 23)).state ≠ none) ∧
    ((tget (rewriting true false false).mix.zones 23).cfg.supervision = false ∧
      { defaultZone with supervision := true }.supervision = true) ∧
    (fadeOn (rewriting true false true) (.master 23) = some ⟨.master 23, 0, 255, 9, 1⟩ ∧
      clampZone (tget (rewriting true false true).mix.zones 23).cfg = (tget (rewriting true false true).mix.zones 23).cfg ∧
      (rewriting true false true).control.pointer.row = 23) := by decide +kernel

/-- A zone that is enabled: channel 0 offers a GAIN of it, and channel 1, whose request waits, owes it (R38, R154). -/
theorem test_enableZone : (match exec (.write [.zone defaultZone]) (rewriting false false false) with
    | .next t => t.claims.queue == [.gain 0 0 (tset noZones 23 true)] && tget (channelOf t 1).owed 23
    | _ => false) = true := by decide +kernel

/-- The program of the second row is written although that of the first is refused, and the pointer passes both (R143,
R194). -/
theorem test_writeTwo : (match exec (.write [.program ⟨9, 0, []⟩, .program ⟨9, 0, []⟩]) (listed7 (at' .alarmProgram 7 0 run)) with
    | .next t => t.control.answer.code == .inUse && (tget t.alarm.programs 0).rank == 7
    | _ => false) = true := by decide +kernel

theorem witness_ConditionalWrites :
    (let s := at' .source 22 0 run;
      ready s ∧ (22 : SlotId).val = s.control.pointer.row ∧ (tget s.slots 22).cls ≠ .voiceClass) ∧
    (let s := withClaim 0 (claimOf .management 4 22) (at' .source 22 0 run);
      ready s ∧ slotInUse s 22 = true ∧ (tget s.slots 22).mode ≠ some .dynamic ∧
      writtenBinding ((tget s.slots 22).mode.getD .static) (.ring 2 0 0) ≠ (tget s.slots 22).binding) ∧
    (ready (at' .counters 550 0 run) ∧ readOnlyAt (at' .counters 550 0 run).control.pointer.table 550 = true) ∧
    (ready (listed7 (at' .alarmProgram 7 0 run)) ∧ alarmEntry (listed7 (at' .alarmProgram 7 0 run)) 7 ≠ none) ∧
    (let s := at' .taper 255 0 run;
      ready s ∧ (255 : Code).val = s.control.pointer.row ∧ tget s.mix.taper 255 = 32768 ∧ tget s.mix.taper 255 ≠ 0) := by
  decide +kernel

/-- A WRITE-IF that hits a program of the alarm list is refused IN-USE, and the pointer goes on (R143, R195). -/
theorem test_writeIfRefused : (match exec (.writeIf (.program (tget run.alarm.programs 7)) (.program ⟨9, 0, []⟩))
      (listed7 (at' .alarmProgram 7 0 run)) with
    | .next t => t.control.answer.code == .inUse && t.control.pointer.row == 0 && (tget t.alarm.programs 7).rank == 0
    | _ => false) = true := by decide +kernel

theorem witness_Reads : ready run ∧ (run.control.pointer.table ≠ .counters) ∧
    ((at' .counters 550 0 run).control.pointer.table = .counters ∧ run.control.service = none) := by decide +kernel

/-- n management start requests wait. -/
def crowded (n : Nat) (s : State) : State := modClaims (fun x => { x with queue := List.replicate n (.start (wanted false)) }) s
theorem witness_ManagementRequests :
    (ready (crowded 13 run) ∧ claimStartSlot run 23 = none ∧ claimStartSlot run 22 = some 22 ∧ (32 : Nat) ≤ 32) ∧
    ((crowded 13 run).claims.queue.length < 14 ∧ 14 ≤ (crowded 14 run).claims.queue.length) ∧
    ((31 : GroupId).val = 31 ∧ (clipAt run 63).state ≠ .ready) ∧
    ((clipAt (clipIn .ready) 63).state = .ready ∧ freePlayer (clipIn .ready) = some 0 ∧
      freePlayer (modPlayer 1 (fun x => { x with owner := .management none })
        (modPlayer 0 (fun x => { x with owner := .management none }) (clipIn .ready))) = none) ∧
    (ready (crowded 14 (clipIn .ready)) ∧ freePlayer (crowded 14 (clipIn .ready)) = some 0 ∧
      14 ≤ (crowded 14 (clipIn .ready)).claims.queue.length ∧ (clipIn .ready).clips.reads = [] ∧
      (clipIn .ready).clips.inFlight = none) := by decide +kernel

theorem witness_SaveAndResets : ready run ∧ (writing 4 run).clips.writes.length = 4 ∧
    (run.control.saving = false ∧ (busyPort (writing 3 run)).clips.writes.length < 4 ∧
      (busyPort (writing 3 run)).clips.inFlight ≠ none) ∧
    (alarmRunning (sounding .stop [] .cueFire) = true ∧ alarmRunning run = false) ∧
    (ready boundRun ∧ (tget boundRun.slots 0).mode = some .static ∧ (tget boundRun.slots 0).binding = .ring 2 0 0 ∧
      (∀ k, claimAt boundRun k = none) ∧ boundRun.peer.service = none ∧ ∀ k, entryAt boundRun k = none) := by
  decide +kernel

/-- A report queue of n records, each of a zone of its own. -/
def reporting (n : Nat) : State :=
  modReports (fun r => { r with queue := (List.range n).map fun i => ⟨.zoneState, i, 0, 0⟩ }) run
theorem witness_ReportPlacement :
    (State.powerOn 0).control.mode = .unaddressed ∧ run.control.mode ≠ .unaddressed ∧
    ((reporting 1).reports.queue = [] ++ ⟨.zoneState, 0, 0, 0⟩ :: [] ∧ (reporting 1).reports.queue.length ≤ 32 ∧
      (reporting 1).reports.queue.Pairwise fun a b => ¬(a.kind = b.kind ∧ a.subject = b.subject)) ∧
    ((∀ r ∈ (reporting 31).reports.queue, ¬(r.kind = .zoneState ∧ r.subject = 31)) ∧
      (reporting 31).reports.queue.length < 32) ∧
    ((∀ r ∈ (reporting 32).reports.queue, ¬(r.kind = .zoneState ∧ r.subject = 32)) ∧
      32 ≤ (reporting 32).reports.queue.length) := by decide +kernel

/-- An emission is due, with n records and the controllers given. -/
def emitting (n : Nat) (a b : Fin 256) : State :=
  modControl (fun c => { c with node := { c.node with controllerA := a, controllerB := b } })
    (dueAt .reportEmission (modReports (fun r => { r with interval := 10 }) (reporting n)))
theorem witness_ReportEmission :
    (isDue .reportEmission (emitting 0 0 0) ∧ intervalReached (emitting 0 0 0) = true ∧
      (emitting 0 0 0).reports.queue = []) ∧
    ((emitting 13 0 0).reports.queue ≠ [] ∧ controllers (emitting 13 0 0).control.node = []) ∧
    controllers (emitting 13 2 2).control.node = [2] ∧ controllers (emitting 13 2 3).control.node = [2, 3] := by
  decide +kernel

/-! #### What every step keeps -/

/-- The queue with a cue operation in front. -/
def queued (i : Instr) (s : State) : State := modPending (fun _ => [i]) s
theorem witness_ReportQueueKept : (reportsOk run ∧ (queued .bankSwap run).pending = [.bankSwap]) := by
  unfold reportsOk; decide +kernel
theorem witness_PortsKept : portsOk (queued .bankSwap run) := by intro p; cases p <;> decide +kernel
theorem witness_LimitersKept : limitersOk (queued .bankSwap run) :=
  ⟨by unfold zonesOk; decide +kernel, fun v h => by cases h⟩
theorem witness_ListsKept : listsOk (queued .bankSwap run) ∧ entriesHeld (queued .bankSwap run) :=
  ⟨by unfold listsOk; decide +kernel, by unfold entriesHeld; decide +kernel⟩
theorem witness_ListsKept_order : listsOrdered (queued .bankSwap run) :=
  fun z => by rw [show listOf (queued .bankSwap run) z = [] from by revert z; decide +kernel]; simp
theorem witness_IdentityKept : (∀ straps, (queued .bankSwap (State.powerOn 0)).pending.head? ≠ some (.powerOnReset straps)) ∧
    (State.powerOn 0).control.mode = .unaddressed ∧ (State.powerOn 0).control.load = none :=
  ⟨by simp [queued, modPending], by decide +kernel⟩

end Sys2Proof.Tests
end

section
namespace Sys2Proof.Machine

/-! ### Counters and ports (R2, R14, R204) -/

@[simp] theorem portOf_count (c : Counter) (p : Port) (s : State) : portOf (count c s) p = portOf s p := by cases p <;> rfl

@[simp] theorem portOf_countTimes (c : Counter) (n : Nat) (p : Port) (s : State) :
    portOf (countTimes c n s) p = portOf s p := by
  induction n generalizing s with
  | zero => rfl
  | succ n ih => exact (ih _).trans (portOf_count c p s)

/-- A port that leaves UP has nothing queued and nothing in transmission (R2). -/
@[simp] theorem portOf_dropTraffic (p : Port) (cut : Bool) (s : State) :
    portOf (dropTraffic p cut s) p = { portOf s p with queue := [], sending := none } := by
  unfold dropTraffic
  dsimp only
  split_ifs <;> simp

end Sys2Proof.Machine
end

section
namespace Sys2Proof.Machine

/-! ### What every step but a power-on reset retains -/

/-- The part has no node id of its own to use and no image load in progress (R19). -/
def dormant (s : State) : Prop := s.control.mode = .unaddressed ∧ s.control.load = none

/-- The bounds of one ring port: its queue, and nothing to send while it is not UP (R2, R14). -/
def portOk (x : RingPort) : Prop := x.queue.length ≤ 32 ∧ (x.link ≠ .up → x.queue = [] ∧ x.sending = none)

/-- From one state to another the part keeps its node id, stays dormant, and keeps the bounds of its ports. -/
structure Retains (s t : State) : Prop where
  nodeId : t.ring.nodeId = s.ring.nodeId
  dormancy : dormant s → dormant t
  ports : portsOk s → portsOk t

protected theorem Retains.refl (s : State) : Retains s s := ⟨rfl, id, id⟩

protected theorem Retains.trans {s t u : State} (h : Retains s t) (k : Retains t u) : Retains s u :=
  ⟨k.nodeId.trans h.nodeId, k.dormancy ∘ h.dormancy, k.ports ∘ h.ports⟩

/-- A part that runs is not dormant. -/
theorem not_dormant_of_running {s : State} (h : running s = true) : ¬dormant s := by
  rintro ⟨hm, -⟩
  simp [running, hm] at h

/-! #### What the arbiter leaves (R15) -/

theorem takeUrgent_length {q rest : List Frame} {f : Frame} (h : takeUrgent q = some (f, rest)) :
    rest.length + 1 = q.length := by
  induction q generalizing rest with
  | nil => cases h
  | cons x xs ih =>
    unfold takeUrgent at h
    split at h
    · cases h; rfl
    · obtain ⟨y, hy, e⟩ := Option.map_eq_some_iff.mp h
      cases e
      exact congrArg (· + 1) (ih hy)

theorem chooseFrame_length {q rest : List Frame} {f : Frame} (h : chooseFrame q = some (f, rest)) :
    rest.length + 1 = q.length := by
  unfold chooseFrame at h
  split at h
  · next x hx => cases h; exact takeUrgent_length hx
  · split at h
    · cases h
    · cases h; rfl

/-! #### Updates of one block, counters and reports -/

section
variable {s t : State} (h : Retains s t)
include h

protected theorem Retains.modSlots {f} : Retains s (modSlots f t) := ⟨h.nodeId, h.dormancy, h.ports⟩
protected theorem Retains.modMix {f} : Retains s (modMix f t) := ⟨h.nodeId, h.dormancy, h.ports⟩
protected theorem Retains.modScene {f} : Retains s (modScene f t) := ⟨h.nodeId, h.dormancy, h.ports⟩
protected theorem Retains.modClaims {f} : Retains s (modClaims f t) := ⟨h.nodeId, h.dormancy, h.ports⟩
protected theorem Retains.modPeer {f} : Retains s (modPeer f t) := ⟨h.nodeId, h.dormancy, h.ports⟩
protected theorem Retains.modIntercom {f} : Retains s (modIntercom f t) := ⟨h.nodeId, h.dormancy, h.ports⟩
protected theorem Retains.modAlarm {f} : Retains s (modAlarm f t) := ⟨h.nodeId, h.dormancy, h.ports⟩
protected theorem Retains.modClips {f} : Retains s (modClips f t) := ⟨h.nodeId, h.dormancy, h.ports⟩
protected theorem Retains.modLines {f} : Retains s (modLines f t) := ⟨h.nodeId, h.dormancy, h.ports⟩
protected theorem Retains.modReports {f} : Retains s (modReports f t) := ⟨h.nodeId, h.dormancy, h.ports⟩
protected theorem Retains.modCounters {f} : Retains s (modCounters f t) := ⟨h.nodeId, h.dormancy, h.ports⟩
protected theorem Retains.modBoundary {f} : Retains s (modBoundary f t) := ⟨h.nodeId, h.dormancy, h.ports⟩
protected theorem Retains.modPending {f} : Retains s (modPending f t) := ⟨h.nodeId, h.dormancy, h.ports⟩

protected theorem Retains.modControl {f : Control → Control} (hm : ∀ c, (f c).mode = c.mode := by intro; rfl)
    (hl : ∀ c, (f c).load = c.load := by intro; rfl) : Retains s (modControl f t) :=
  ⟨h.nodeId, fun d => ⟨(hm _).trans (h.dormancy d).1, (hl _).trans (h.dormancy d).2⟩, h.ports⟩

/-- A part that is not dormant may take any mode and load. -/
theorem Retains.setControl (hd : ¬dormant s) {f : Control → Control} : Retains s (modControl f t) :=
  ⟨h.nodeId, fun d => absurd d hd, h.ports⟩

/-- A change of the ring that is none of the node id and the ports. -/
protected theorem Retains.modRing {f : Ring → Ring} (hi : ∀ r, (f r).nodeId = r.nodeId := by intro; rfl)
    (ha : ∀ r, (f r).portA = r.portA := by intro; rfl) (hb : ∀ r, (f r).portB = r.portB := by intro; rfl) :
    Retains s (modRing f t) :=
  ⟨(hi _).trans h.nodeId, h.dormancy, fun o p => by
    have k := h.ports o p
    cases p <;> simpa [portOf, ha, hb] using k⟩

/-- A change of one port that keeps its bounds. -/
protected theorem Retains.modPort {p : Port} {f : RingPort → RingPort} (hp : portOk (portOf t p) → portOk (f (portOf t p))) :
    Retains s (modPort p f t) := by
  refine ⟨by rw [← h.nodeId]; cases p <;> rfl, h.dormancy, fun o q => ?_⟩
  change portOk _
  by_cases e : p = q
  · subst e
    simpa using hp (h.ports o p)
  · rw [portOf_modPort_ne f t e]
    exact h.ports o q

protected theorem Retains.ite {c : Prop} [Decidable c] {u : State} (k : Retains s u) :
    Retains s (if c then t else u) := by
  split
  · exact h
  · exact k

/-- The second component of a pair is the state that it names. -/
theorem Retains.snd {α : Type} {a : α} : Retains s (a, t).2 := h

protected theorem Retains.count {c} : Retains s (count c t) := h.modCounters

protected theorem Retains.countTimes {c : Counter} {n : Nat} : Retains s (countTimes c n t) := by
  induction n generalizing t with
  | zero => exact h
  | succ n ih => exact ih h.count

/-- What each change of a walk retains, the walk retains. -/
protected theorem Retains.forEach {α : Type} {l : List α} {f : α → State → State}
    (hf : ∀ a u, Retains s u → Retains s (f a u)) : Retains s (forEach l f t) :=
  forEach_induct (Retains s) f l (fun a _ u => hf a u) t h

protected theorem Retains.report {kind : ReportKind} {subject value : Nat} :
    Retains s (report kind subject value t) := by
  unfold Machine.report
  dsimp only
  split_ifs
  · exact h
  · exact h.modReports.count
  · exact h.modReports
  · exact h.modReports.count

/-! #### Output queues and origination (R13 to R15) -/

protected theorem Retains.arbitrate {p : Port} : Retains s (arbitrate p t) := by
  unfold Machine.arbitrate
  split
  · next hu =>
    split
    · next f rest hc =>
      refine h.modPort fun ⟨hl, _⟩ => ⟨?_, fun k => absurd hu.1 k⟩
      have := chooseFrame_length hc
      simp only
      omega
    · exact h
  · exact h

protected theorem Retains.offer {p : Port} {f : Frame} : Retains s (offer p f t) := by
  unfold Machine.offer
  split_ifs with hl hq _
  · exact h.count
  · exact h.count
  · exact h.count
  · refine (h.modPort fun _ => ⟨?_, fun k => absurd k hl⟩).arbitrate
    simp
    omega

protected theorem Retains.originate {kind : Byte} {dest : Nat} {body : Body} : Retains s (originate kind dest body t) := by
  unfold Machine.originate
  split
  · exact h.modRing.offer.offer
  · exact h

end
end Sys2Proof.Machine
end

section
namespace Sys2Proof.Machine

section
variable {s t : State} (h : Retains s t)
include h

/-! #### The answer of an operation (R190, R197) -/

protected theorem Retains.finishFrame {v : ControlService} : Retains s (finishFrame v t) := by
  unfold Machine.finishFrame
  exact .ite h.modControl h.modControl.originate

protected theorem Retains.continueFrame {v : ControlService} : Retains s (continueFrame v t) := by
  unfold Machine.continueFrame
  exact .ite h.finishFrame (.ite h.count.finishFrame h.modControl)

protected theorem Retains.finishOperation {owed : Bool} {code : ResultCode} {data : ResultData} :
    Retains s (finishOperation owed code data t) := by
  have k : Retains s (if isRefusal code then
      Machine.count .operationsRefused (Machine.modControl (fun c => { c with answer := ⟨operationIndex t, code, data⟩ }) t)
    else Machine.modControl (fun c => { c with answer := ⟨operationIndex t, code, data⟩ }) t) :=
    .ite h.modControl.count h.modControl
  unfold Machine.finishOperation
  cases t.control.service with
  | none => exact k
  | some v => exact k.continueFrame

protected theorem Retains.commandDone {code : ResultCode} : Retains s (commandDone code t) := h.finishOperation

protected theorem Retains.claimAnswer {framed : Bool} {code : ResultCode} {data : ResultData} :
    Retains s (claimAnswer framed code data t) := by
  unfold Machine.claimAnswer
  exact .ite h.finishOperation (.ite h.modControl.count h.modControl)

/-! #### Source slots (chapter 2) -/

protected theorem Retains.modSlot {i : SlotId} {f : Slot → Slot} : Retains s (modSlot i f t) := h.modSlots

protected theorem Retains.rebind {b : Binding} {i : SlotId} : Retains s (rebind b i t) := h.modSlot

protected theorem Retains.capture {i : SlotId} {b : Block} : Retains s (capture i b t) := by
  unfold Machine.capture
  exact .ite h.modSlots.count h.modSlots

protected theorem Retains.audioCapture {origin : Nat} {payload : List Byte} :
    Retains s (audioCapture origin payload t) := by
  unfold Machine.audioCapture
  split
  · exact h.count
  · exact h.forEach fun _ _ k => k.capture

protected theorem Retains.judgeSlot {i : SlotId} : Retains s (judgeSlot i t) := by
  unfold Machine.judgeSlot
  exact .ite h (.ite (.ite h.modSlots.report h.modSlots) (.ite h.modSlots.count (.ite h.modSlots.count h)))

/-! #### The clip store (chapter 9) -/

protected theorem Retains.arbitrateFlash : Retains s (arbitrateFlash t) := by
  unfold Machine.arbitrateFlash
  refine .ite h ?_
  split
  · exact h.modClips
  · split
    · exact h
    · split
      · exact h
      · exact h.modClips

protected theorem Retains.requestRead {reader : Reader} {sector : Nat} : Retains s (requestRead reader sector t) :=
  h.modClips.arbitrateFlash

protected theorem Retains.queueWrite {kind : WriteKind} : Retains s (queueWrite kind t) := h.modClips.arbitrateFlash

protected theorem Retains.queueDirectory : Retains s (queueDirectory t) := by
  unfold Machine.queueDirectory
  split
  · exact .ite h h.queueWrite
  · exact h.queueWrite

protected theorem Retains.stopPlayer {p : ChanId} : Retains s (stopPlayer p t) := by
  unfold Machine.stopPlayer
  exact .ite h h.modClips

protected theorem Retains.startPlayer {p : ChanId} {owner : PlayerOwner} {clip : ClipId} :
    Retains s (startPlayer p owner clip t) := by
  have k : ∀ {f}, Retains s (modPlayer p f t) := h.modClips
  unfold Machine.startPlayer
  exact .ite k.requestRead.requestRead k.requestRead

protected theorem Retains.fillBuffer {p : ChanId} {sector : Nat} {data : List Byte} :
    Retains s (fillBuffer p sector data t) := by
  unfold Machine.fillBuffer
  exact .ite h.modClips h

protected theorem Retains.enterSector {p : ChanId} {j : Nat} : Retains s (enterSector p j t) := by
  have k : ∀ {f}, Retains s (modPlayer p f t) := h.modClips
  unfold Machine.enterSector
  exact .ite k.requestRead k

protected theorem Retains.modPlayer {p : ChanId} {f : Player → Player} : Retains s (modPlayer p f t) := h.modClips

protected theorem Retains.playBlock {p : ChanId} : Retains s (playBlock p t) := by
  have k : ∀ {f}, Retains s (if underruns (playerOf t p) then Machine.count (.clipUnderruns p) (Machine.modSlots f t)
      else Machine.modSlots f t) := .ite h.modSlots.count h.modSlots
  unfold Machine.playBlock
  exact .ite k.modPlayer.enterSector k.modPlayer

protected theorem Retains.setClip {c : ClipId} {e : DirEntry} : Retains s (setClip c e t) := h.modClips.report

/-! #### The outstanding claim file (chapter 6) -/

protected theorem Retains.sendClaim {dest : Nat} {payload : List Byte} : Retains s (sendClaim dest payload t) :=
  h.originate

protected theorem Retains.sendAnswer {origin tag answered : Nat} {code : AnswerCode} {granted requested : Nat} :
    Retains s (sendAnswer origin tag answered code granted requested t) := h.originate

protected theorem Retains.setEntry {g : TagId} {e : Option OutEntry} : Retains s (setEntry g e t) := h.modPeer

protected theorem Retains.freeEntry {g : TagId} : Retains s (freeEntry g t) := by
  unfold Machine.freeEntry
  split
  · exact h
  · split
    · exact h.setEntry.modPeer
    · exact h.setEntry

protected theorem Retains.releaseEntry {g : TagId} : Retains s (releaseEntry g t) := by
  unfold Machine.releaseEntry
  split
  · exact h.setEntry.sendClaim
  · exact h

protected theorem Retains.releasePeers {c : ClaimId} : Retains s (releasePeers c t) := by
  unfold Machine.releasePeers Machine.clearHold
  exact (h.forEach fun _ _ k => k.releaseEntry).modPeer

protected theorem Retains.commitEntry {g : TagId} : Retains s (commitEntry g t) := by
  unfold Machine.commitEntry
  split
  · exact h.setEntry.sendClaim
  · exact h

protected theorem Retains.commitPeers {c : ClaimId} : Retains s (commitPeers c t) :=
  h.forEach fun _ _ k => k.commitEntry

protected theorem Retains.takeEntry {c : ClaimId} {k : Option TxId} {p : PeerRef} : Retains s (takeEntry c k p t) := by
  unfold Machine.takeEntry
  split
  · exact h.setEntry
  · exact h

protected theorem Retains.sendReserve {cl : Claim} {ref : Nat × Nat × Nat} {g : TagId} :
    Retains s (sendReserve cl ref g t) := by
  unfold Machine.sendReserve
  split
  · exact h.sendClaim.count
  · exact h

protected theorem Retains.handOnPeers {c : ClaimId} {cl : Claim} {peers : List PeerRef} :
    Retains s (handOnPeers c cl peers t) := by
  have walk : ∀ {u}, Retains s u → Retains s (forEach peers (takeEntry c (handOnChannel t cl.slot)) u) :=
    fun k => k.forEach fun _ _ k => k.takeEntry
  have send : ∀ {u l ref}, Retains s u → Retains s (forEach l (sendReserve cl ref) u) :=
    fun k => k.forEach fun _ _ k => k.sendReserve
  unfold Machine.handOnPeers
  refine send (walk ?_).modClaims
  split
  · exact h.modPeer
  · exact h

protected theorem Retains.sendBundle : Retains s (sendBundle t) := by
  unfold Machine.sendBundle
  exact .ite h h.originate

/-! #### Zone claims (chapter 5) -/

protected theorem Retains.reportUnless {quiet : Bool} {kind : ReportKind} {subject value : Nat} :
    Retains s (reportUnless quiet kind subject value t) := .ite h h.report

protected theorem Retains.noteZone {quiet : Bool} {z : ZoneId} : Retains s (noteZone quiet z t) := by
  unfold Machine.noteZone
  exact .ite h h.modClaims.reportUnless

protected theorem Retains.setList {z : ZoneId} {l : List ListEntry} : Retains s (setList z l t) := h.modClaims

protected theorem Retains.modClaim {c : ClaimId} {f : Claim → Claim} : Retains s (modClaim c f t) := h.modClaims

protected theorem Retains.modStation {st : StationId} {f : Station → Station} : Retains s (modStation st f t) :=
  h.modIntercom

protected theorem Retains.modChannel {ch : ChanId} {f : Channel → Channel} : Retains s (modChannel ch f t) := h.modAlarm

protected theorem Retains.removeEntry {quiet : Bool} {c : ClaimId} {z : ZoneId} :
    Retains s (removeEntry quiet c z t) := h.setList.noteZone

protected theorem Retains.flashKey {st : StationId} {k : KeyId} : Retains s (flashKey st k t) := h.modStation

protected theorem Retains.flashPage {st : StationId} {c : ClaimId} : Retains s (flashPage st c t) := by
  unfold Machine.flashPage
  split
  · exact .ite h.flashKey h
  · exact h

protected theorem Retains.tellStation {st : StationId} {c : ClaimId} {reason : EndReason} :
    Retains s (tellStation st c reason t) := by
  have k : Retains s (if flashingEnd reason then Machine.flashPage st c t else t) := .ite h.flashPage h
  unfold Machine.tellStation mapMember
  exact k.modStation.modIntercom

protected theorem Retains.tellOrigin {node tag requested : Nat} {reason : EndReason} :
    Retains s (tellOrigin node tag requested reason t) := .ite h.sendAnswer.count h

protected theorem Retains.releaseSlot {c : ClaimId} {cl : Claim} {reason : EndReason} :
    Retains s (releaseSlot c cl reason t) := by
  unfold Machine.releaseSlot
  split
  · exact h.rebind
  · exact h.rebind
  · exact h
  · split
    · exact .ite h.stopPlayer h
    · exact h

protected theorem Retains.tellOwner {c : ClaimId} {cl : Claim} {reason : EndReason} :
    Retains s (tellOwner c cl reason t) := by
  unfold Machine.tellOwner
  split
  · exact h.tellStation.releasePeers
  · exact h.releasePeers
  · exact h.modChannel
  · exact h.tellOrigin

protected theorem Retains.endClaim {reason : EndReason} {c : ClaimId} : Retains s (endClaim reason c t) := by
  unfold Machine.endClaim
  split
  · exact h
  · exact (h.forEach fun _ _ k => k.removeEntry).releaseSlot.modClaims.tellOwner.reportUnless

protected theorem Retains.loseEntry {c : ClaimId} : Retains s (loseEntry c t) := by
  unfold Machine.loseEntry
  exact .ite h.modClaim h.modClaim.endClaim

protected theorem Retains.insertEntry {c : ClaimId} {live : Bool} {z : ZoneId} : Retains s (insertEntry c live z t) := by
  unfold Machine.insertEntry
  split
  · exact h
  · refine .ite h.setList.noteZone ?_
    split
    · exact h.setList.noteZone.count.loseEntry
    · exact h.modClaim.count

protected theorem Retains.disableZone {z : ZoneId} : Retains s (disableZone z t) :=
  h.forEach fun _ _ k => k.removeEntry.count.loseEntry

protected theorem Retains.startPlayback {c : ClaimId} {cl : Claim} : Retains s (startPlayback c cl t) := by
  unfold Machine.startPlayback
  split
  · exact .ite h.startPlayer h
  · exact h

protected theorem Retains.commitDone {c : ClaimId} {cl : Claim} : Retains s (commitDone c cl t) :=
  h.count.modClaim.commitPeers.startPlayback

protected theorem Retains.commitRefused {c : ClaimId} : Retains s (commitRefused c t) := h.endClaim.count

protected theorem Retains.tellPartial {c : ClaimId} {cl : Claim} : Retains s (tellPartial c cl t) := by
  unfold Machine.tellPartial
  split
  · exact h.flashPage
  · exact h

protected theorem Retains.commitZones {c : ClaimId} {l : List ZoneId} : Retains s (forEach l (commitZone c) t) :=
  h.forEach fun _ _ k => k.setList.noteZone

protected theorem Retains.commitAll {c : ClaimId} {cl : Claim} : Retains s (commitAll c cl t) := by
  unfold Machine.commitAll
  exact .ite h.commitZones.commitDone h.commitRefused

protected theorem Retains.commitBest {c : ClaimId} {cl : Claim} : Retains s (commitBest c cl t) := by
  have k : ∀ {l m}, Retains s (Machine.commitDone c cl (forEach m (removeEntry false c) (forEach l (commitZone c) t))) :=
    (h.commitZones.forEach fun _ _ k => k.removeEntry).commitDone
  unfold Machine.commitBest
  exact .ite h.commitRefused (.ite k.report.count.tellPartial k)

protected theorem Retains.commitTest {c : ClaimId} : Retains s (commitTest c t) := by
  unfold Machine.commitTest
  split
  · exact h
  · split
    · exact h.commitAll
    · exact h.commitBest

protected theorem Retains.commitDue {c : ClaimId} : Retains s (commitDue c t) := by
  unfold Machine.commitDue
  split
  · exact h
  · exact .ite h.modClaim h.commitTest

protected theorem Retains.peerSettled {c : ClaimId} : Retains s (peerSettled c t) := by
  unfold Machine.peerSettled
  split
  · exact h
  · exact .ite h.modClaim.commitTest h

protected theorem Retains.offerRequest {r : Request} : Retains s (offerRequest r t) := .ite h.modClaims h.count

protected theorem Retains.withdrawRequest {o : Owner} : Retains s (withdrawRequest o t) := h.modClaims

protected theorem Retains.tellCreated {c : ClaimId} {cl : Claim} : Retains s (tellCreated c cl t) := by
  unfold Machine.tellCreated
  split
  · exact h.rebind.modStation.modIntercom
  · split
    · exact h.modPlayer
    · exact h
  · exact h.modChannel
  · exact h

protected theorem Retains.createClaim {c : ClaimId} {cl : Claim} : Retains s (createClaim c cl t) := by
  unfold Machine.createClaim
  exact .ite h.modClaims.count.tellCreated.modClaims h.modClaims.count.tellCreated

protected theorem Retains.handOnClaim {c : ClaimId} {cl : Claim} {peers : List PeerRef} :
    Retains s (handOnClaim c cl peers t) := by
  have k : Retains s (if peers.isEmpty || cl.noPeers then t else Machine.handOnPeers c cl peers t) := .ite h h.handOnPeers
  unfold Machine.handOnClaim
  extract_lets u
  split
  · exact h
  · exact .ite h.commitDue h.modClaim
  · exact .ite k.commitDue k

protected theorem Retains.carryOut {c : ClaimId} {cl : Claim} {peers : List PeerRef} :
    Retains s (carryOut c cl peers t).2 := by
  have k : Retains s (forEach (zonesOf cl.target) (insertEntry c !cl.chime) (Machine.createClaim c cl t)) :=
    h.createClaim.forEach fun _ _ k => k.insertEntry
  unfold Machine.carryOut
  dsimp only
  split_ifs
  · exact h.createClaim.endClaim
  · exact k.handOnClaim
  · exact k.handOnClaim
  · exact k.endClaim

protected theorem Retains.startClaim {r : StartRequest} : Retains s (startClaim r t).2 := by
  have k : Retains s (if peerShort t r then Machine.count .peerShortage t else t) := .ite h.count h
  unfold Machine.startClaim
  split
  · exact h.count
  · split
    · exact h.count
    · dsimp only
      split
      · exact k.count
      · exact k.carryOut

protected theorem Retains.gainZones {ch : ChanId} {c : ClaimId} {zs : ZoneSet} : Retains s (gainZones ch c zs t) := by
  unfold Machine.gainZones
  exact .ite (h.forEach fun _ _ k => k.modClaim.insertEntry) h

end
end Sys2Proof.Machine
end

section
namespace Sys2Proof.Machine

-- The lemmas of this part are elaborated one after another: all at once they ask for more threads than the check's
-- memory limit leaves room for.
set_option Elab.async false

section
variable {s t : State} (h : Retains s t)
include h

/-! #### The peer unit (chapter 6) -/

protected theorem Retains.lateFailure {c : ClaimId} : Retains s (lateFailure c t) := by
  unfold Machine.lateFailure
  split
  · exact .ite h.report.count.tellPartial h
  · exact h

protected theorem Retains.failEntry {g : TagId} {e : OutEntry} : Retains s (failEntry g e t) :=
  h.freeEntry.lateFailure.peerSettled

protected theorem Retains.entryReserved {g : TagId} {e : OutEntry} : Retains s (entryReserved g e t) := by
  unfold Machine.entryReserved
  refine Retains.peerSettled ?_
  split
  · exact .ite h.setEntry.count.commitEntry h.setEntry.count
  · exact h.setEntry.count

protected theorem Retains.answerFor {g : TagId} {e : OutEntry} {a : Answer} : Retains s (answerFor g e a t) := by
  unfold Machine.answerFor releaseAnswered unsolicitedAnswer reserveAnswered commitAnswered
  refine .ite (Retains.freeEntry (.ite h.count h)) (.ite (.ite h.count.failEntry h.count) (.ite ?_ (.ite ?_ h.count)))
  · exact .ite h.entryReserved h.count.failEntry
  · exact .ite h.setEntry.count (.ite h.failEntry h.count)

protected theorem Retains.takeAnswer {a : Answer} : Retains s (takeAnswer a t) := by
  unfold Machine.takeAnswer
  split
  · exact h.answerFor
  · exact h.count

protected theorem Retains.peerTimeout {g : TagId} {e : OutEntry} : Retains s (peerTimeout g e t) :=
  h.freeEntry.sendClaim.count.lateFailure.peerSettled

protected theorem Retains.enqueueReserve {r : InReserve} : Retains s (enqueueReserve r t) := by
  unfold Machine.enqueueReserve
  exact .ite h.count.sendAnswer h.modPeer

protected theorem Retains.clearService : Retains s (clearService t) := h.modPeer

protected theorem Retains.abandonService {v : InService} : Retains s (abandonService v t) :=
  h.clearService.withdrawRequest.rebind

protected theorem Retains.answerCreated {r : InReserve} {c : ClaimId} : Retains s (answerCreated r c t) := by
  unfold Machine.answerCreated
  split
  · exact h
  · exact .ite h.sendAnswer.count (.ite h.sendAnswer.count h.endClaim.sendAnswer)

protected theorem Retains.answerReserve {v : InService} {o : Started} : Retains s (answerReserve v o t) := by
  unfold Machine.answerReserve
  refine Retains.clearService ?_
  split
  · exact h.rebind.sendAnswer
  · exact h.sendAnswer
  · exact h.answerCreated

protected theorem Retains.requestInbound {r : InReserve} {g : GroupId} {slot : SlotId} :
    Retains s (requestInbound r g slot t) := by
  unfold Machine.requestInbound
  exact .ite h.rebind.modPeer.offerRequest h.rebind.modPeer.offerRequest.rebind.clearService.sendAnswer

protected theorem Retains.serveReserve {r : InReserve} : Retains s (serveReserve r t) := by
  unfold Machine.serveReserve
  split
  · exact h.sendAnswer
  · split
    · exact h.sendAnswer
    · exact h.requestInbound

protected theorem Retains.endReused {r : InReserve} : Retains s (endReused r t) := by
  unfold Machine.endReused
  split
  · exact h.endClaim
  · exact h

protected theorem Retains.serveNext : Retains s (serveNext t) := by
  unfold Machine.serveNext
  split
  · exact .ite h.modPeer.endReused.serveReserve h
  · exact h

protected theorem Retains.commitInbound {origin tag : Nat} {c : ClaimId} {cl : Claim} :
    Retains s (commitInbound origin tag c cl t) := by
  unfold Machine.commitInbound
  dsimp only
  split
  · exact h.modClaim.commitTest.sendAnswer
  · exact h.modClaim.commitTest.sendAnswer

protected theorem Retains.takeCommit {origin tag : Nat} : Retains s (takeCommit origin tag t) := by
  unfold Machine.takeCommit
  split
  · exact h.sendAnswer
  · split
    · exact h.sendAnswer
    · exact .ite h.commitInbound h.sendAnswer

protected theorem Retains.releaseInbound {origin tag : Nat} : Retains s (releaseInbound origin tag t) := by
  unfold Machine.releaseInbound
  split
  · exact h.endClaim.sendAnswer
  · exact h.sendAnswer

protected theorem Retains.takeRelease {origin tag : Nat} : Retains s (takeRelease origin tag t) := by
  unfold Machine.takeRelease
  split
  · exact .ite h.abandonService.sendAnswer (.ite h.modPeer.sendAnswer h.releaseInbound)
  · exact .ite h.modPeer.sendAnswer h.releaseInbound

protected theorem Retains.takeClaimFrame {origin dest : Nat} {payload : List Byte} :
    Retains s (takeClaimFrame origin dest payload t) := by
  unfold Machine.takeClaimFrame
  refine .ite h.count ?_
  split
  · exact h.enqueueReserve
  · exact h.takeCommit
  · exact h.takeRelease
  · exact h.takeAnswer

protected theorem Retains.loseDynamic {i : SlotId} : Retains s (loseDynamic i t) := by
  have k : Retains s (loseDynamic.endOnSlot i t) := h.forEach fun _ _ k => k.endClaim
  unfold Machine.loseDynamic
  split
  · exact .ite h.abandonService.sendAnswer k
  · exact k

/-! #### The alarm sequencer (chapter 8) -/

protected theorem Retains.rewriteSlot {ch : ChanId} : Retains s (rewriteSlot ch t) := by
  unfold Machine.rewriteSlot
  split
  · exact h.modClaim
  · exact h

protected theorem Retains.takePlayer {p : ChanId} : Retains s (takePlayer p t) := by
  have k : Retains s (takePlayer.withdrawPlayback p t) := by
    unfold takePlayer.withdrawPlayback
    split
    · exact h.modClaims.claimAnswer
    · exact h
  unfold Machine.takePlayer
  split
  · exact h.endClaim.stopPlayer
  · exact k.stopPlayer
  · exact h

protected theorem Retains.standAt {ch : ChanId} {k on off silent : Nat} : Retains s (standAt ch k on off silent t) :=
  h.modChannel.rewriteSlot

protected theorem Retains.stallAt {ch : ChanId} {k : Nat} : Retains s (stallAt ch k t) := h.modChannel.count

protected theorem Retains.skipClip {ch : ChanId} {n : ClipId} : Retains s (skipClip ch n t) := by
  unfold Machine.skipClip
  split
  · exact h.report.count
  · exact h

/-- The steps that a channel passes as it enters one retain what each of them does. -/
protected theorem Retains.enterStep {ch : ChanId} {budget k : Nat} : Retains s (enterStep ch budget k t).2 := by
  induction budget generalizing k t with
  | zero =>
    unfold Machine.enterStep
    split
    · exact h.standAt.modChannel
    · exact h.standAt
    · dsimp only
      split
      · exact h.takePlayer.startPlayer.standAt
      · exact h.stallAt
    · exact h.stallAt
    · exact h.stallAt
  | succ b ih =>
    unfold Machine.enterStep
    split
    · exact h.standAt.modChannel
    · exact h.standAt
    · dsimp only
      split
      · exact h.takePlayer.startPlayer.standAt
      · exact ih h.skipClip
    · exact ih h.modChannel
    · exact h

protected theorem Retains.offerStart {ch : ChanId} : Retains s (offerStart ch t) := by
  unfold Machine.offerStart
  exact .ite h.offerRequest.modChannel h.offerRequest

protected theorem Retains.offerGain {ch : ChanId} {c : ClaimId} {zs : ZoneSet} : Retains s (offerGain ch c zs t) := by
  unfold Machine.offerGain
  exact .ite h.offerRequest.modChannel h.offerRequest

protected theorem Retains.addZones {ch : ChanId} {zs : ZoneSet} : Retains s (addZones ch zs t) := by
  unfold Machine.addZones
  refine .ite h.modChannel ?_
  split
  · exact h.offerGain
  · exact h.offerStart

protected theorem Retains.requestAnswered {ch : ChanId} : Retains s (requestAnswered ch t) := by
  unfold Machine.requestAnswered
  refine .ite h.modChannel ?_
  split
  · exact h.modChannel.offerGain
  · exact h.modChannel.offerStart

protected theorem Retains.stopChannel {ch : ChanId} {reason : EndReason} : Retains s (stopChannel ch reason t) := by
  have w : Retains s (if (channelOf t ch).request = .none then t else Machine.withdrawRequest (.alarm ch) t) :=
    .ite h h.withdrawRequest
  have stop : ∀ {u}, Retains s u → Retains s (if (playerOf u ch).owner = .alarm ch then Machine.stopPlayer ch u else u) :=
    fun k => .ite k.stopPlayer k
  unfold Machine.stopChannel
  refine (stop ?_).modChannel
  split
  · exact w.endClaim
  · exact w

protected theorem Retains.removeAlarm {p : ProgramId} : Retains s (removeAlarm p t) := h.modAlarm

protected theorem Retains.completeProgram {ch : ChanId} : Retains s (completeProgram ch t) := by
  unfold Machine.completeProgram
  split
  · exact h.stopChannel.removeAlarm.report.count
  · exact h

protected theorem Retains.beginWithin {budget : Nat} {p : ProgramId} {ch : ChanId} :
    Retains s (beginWithin budget p ch t).2 := by
  unfold Machine.beginWithin modEntry
  dsimp only
  split
  · exact h.modAlarm.modChannel.enterStep.report.count.completeProgram
  · exact h.modAlarm.modChannel.enterStep.offerStart.report.count

protected theorem Retains.handOn {n : Nat} {used : Option (ChanId × Nat)} : Retains s (handOn n used t) := by
  induction n generalizing used t with
  | zero => exact h
  | succ n ih =>
    unfold Machine.handOn
    split
    · exact ih h.beginWithin
    · exact h

protected theorem Retains.refuseAlarm {p : ProgramId} {r : AlarmRefusal} : Retains s (refuseAlarm p r t).2 :=
  h.report.count

protected theorem Retains.retrigger {p : ProgramId} {e : AlarmEntry} {zs : ZoneSet} : Retains s (retrigger p e zs t) := by
  unfold Machine.retrigger modEntry
  refine .ite h.count ?_
  dsimp only
  split
  · exact h.modAlarm.count.addZones
  · exact h.modAlarm.count

protected theorem Retains.discardAlarm {e : AlarmEntry} : Retains s (discardAlarm e t) := by
  unfold Machine.discardAlarm
  dsimp only
  split
  · exact h.stopChannel.removeAlarm.report.count
  · exact h.removeAlarm.report.count

protected theorem Retains.preempt {p : ProgramId} {old : AlarmEntry} {ch : ChanId} : Retains s (preempt p old ch t) := by
  unfold Machine.preempt modEntry
  exact h.stopChannel.modAlarm.count.beginWithin.handOn

protected theorem Retains.tryPreempt {p : ProgramId} : Retains s (tryPreempt p t) := by
  unfold Machine.tryPreempt
  refine .ite ?_ h
  split
  · split
    · exact .ite h.preempt h
    · exact h
  · exact h

protected theorem Retains.insertEntryOf {p : ProgramId} {zs : ZoneSet} {before : List ProgramId} :
    Retains s (insertEntryOf p zs before t) := by
  unfold Machine.insertEntryOf
  exact h.modAlarm.handOn.tryPreempt.forEach fun _ _ k => k.report

protected theorem Retains.newAlarm {p : ProgramId} {zs : ZoneSet} : Retains s (newAlarm p zs t).2 := by
  unfold Machine.newAlarm
  dsimp only
  split
  · dsimp only
    exact h.insertEntryOf
  · split
    · split
      · dsimp only
        exact h.discardAlarm.insertEntryOf
      · exact h.refuseAlarm
    · exact h.refuseAlarm

protected theorem Retains.startAlarm {p : ProgramId} {g : Nat} : Retains s (startAlarm p g t).2 := by
  unfold Machine.startAlarm
  dsimp only
  split
  · exact h.refuseAlarm
  · split
    · dsimp only
      exact h.retrigger
    · split
      · exact h.refuseAlarm
      · exact h.newAlarm

protected theorem Retains.stopAlarm {p : ProgramId} : Retains s (stopAlarm p t).2 := by
  unfold Machine.stopAlarm
  split
  · exact h.refuseAlarm
  · dsimp only
    split
    · exact h.stopChannel.removeAlarm.report.count.handOn
    · exact h.removeAlarm.report.count.handOn

protected theorem Retains.enableZone {z : ZoneId} : Retains s (enableZone z t) := by
  unfold Machine.enableZone
  refine h.forEach fun e u k => ?_
  split
  · exact .ite k.addZones k
  · exact k

protected theorem Retains.patternAct {origin : Nat} {p : PatternId} : Retains s (patternAct origin p t) := by
  unfold Machine.patternAct
  dsimp only
  split
  · exact h.report.count.startAlarm
  · exact h.report.count.stopAlarm

protected theorem Retains.takeAlarmFrame {origin : Nat} {payload : List Byte} :
    Retains s (takeAlarmFrame origin payload t) := h.count.forEach fun _ _ k => k.patternAct

/-! #### The zone mix (chapter 3) -/

protected theorem Retains.modZone {z : ZoneId} {f : Zone → Zone} : Retains s (modZone z f t) := h.modMix

protected theorem Retains.deliverZone {z : ZoneId} {x : Formed} : Retains s (deliverZone z x t) := by
  have k : ∀ {f g}, Retains s (if x.clipped then Machine.count (.zoneClip z) (Machine.modMix f (Machine.modZone z g t))
      else Machine.modMix f (Machine.modZone z g t)) := .ite h.modZone.modMix.count h.modZone.modMix
  unfold Machine.deliverZone
  exact .ite k.count k

/-! #### The intercom controller (chapter 7) -/

protected theorem Retains.setRinger {b : Bool} {st : StationId} : Retains s (setRinger b st t) := h.modStation

protected theorem Retains.setCall {i : CallId} {c : Option Call} : Retains s (setCall i c t) := h.modIntercom

protected theorem Retains.pollNext {st : StationId} : Retains s (pollNext st t) := by
  unfold Machine.pollNext
  split
  · exact h.modStation
  · exact h

protected theorem Retains.endCall {reason : CallReason} {i : CallId} : Retains s (endCall reason i t) := by
  unfold Machine.endCall
  split
  · exact h
  · exact (h.forEach fun _ _ k => k.setRinger).setCall.reportUnless

protected theorem Retains.removeMember {i : CallId} {c : Call} {st : StationId} : Retains s (removeMember i c st t) :=
  h.setCall

protected theorem Retains.refuseKey {st : StationId} {k : KeyId} {r : KeyRefusal} : Retains s (refuseKey st k r t) :=
  h.report.flashKey.count

protected theorem Retains.ignoreKey : Retains s (ignoreKey t) := h.count

protected theorem Retains.callKey {a : StationId} {k : KeyId} {b : StationId} : Retains s (callKey a k b t) := by
  unfold Machine.callKey
  refine .ite h.refuseKey (.ite h.refuseKey ?_)
  split
  · exact h.refuseKey
  · exact h.setCall.setRinger.count

protected theorem Retains.answerKey {b : StationId} : Retains s (answerKey b t) := by
  unfold Machine.answerKey
  split
  · exact h.setCall.setRinger.count
  · exact h.ignoreKey

protected theorem Retains.endKey {st : StationId} : Retains s (endKey st t) := by
  unfold Machine.endKey
  split
  · exact h.ignoreKey
  · split
    · exact .ite h.endCall h.endCall
    · exact .ite h.removeMember h.removeMember.endCall

protected theorem Retains.joinKey {st : StationId} {k : KeyId} {n : Nat} : Retains s (joinKey st k n t) := by
  unfold Machine.joinKey
  refine .ite h.refuseKey ?_
  split
  · exact .ite h.setCall h.refuseKey
  · split
    · exact h.setCall.count
    · exact h.refuseKey

protected theorem Retains.setPage {st : StationId} {p : Option Page} : Retains s (setPage st p t) := h.modStation

protected theorem Retains.pageKey {st : StationId} {k : KeyId} {group priority : Nat} {mode : ClaimMode}
    {policy : Policy} {chime latch : Bool} : Retains s (pageKey st k group priority mode policy chime latch t) := by
  unfold Machine.pageKey
  exact .ite h.refuseKey (.ite h.offerRequest.count.setPage h.offerRequest.count.refuseKey)

protected theorem Retains.endPage {st : StationId} {reason : EndReason} : Retains s (endPage st reason t) := by
  unfold Machine.endPage
  split
  · exact h
  · dsimp only
    split
    · exact h.setPage.endClaim
    · exact h.setPage.withdrawRequest

protected theorem Retains.pageRefused {st : StationId} : Retains s (pageRefused st t) := by
  unfold Machine.pageRefused
  split
  · exact h
  · exact h.setPage.refuseKey

protected theorem Retains.alarmKey {st : StationId} {k : KeyId} {f : State → Option AlarmRefusal × State}
    (hf : Retains s (f t).2) : Retains s (alarmKey st k f t) := by
  unfold Machine.alarmKey alarmKeyDone
  refine .ite ?_ h.refuseKey
  split
  · exact hf.flashKey
  · exact hf

protected theorem Retains.pressFunction {st : StationId} {k : KeyId} : Retains s (pressFunction st k t) := by
  unfold Machine.pressFunction
  split
  · exact h
  · exact h
  · exact h.callKey
  · exact h.answerKey
  · exact h.endKey
  · exact h.joinKey
  · exact h.pageKey
  · exact h.alarmKey h.startAlarm
  · exact h.alarmKey h.stopAlarm

protected theorem Retains.pressKey {st : StationId} {k : KeyId} : Retains s (pressKey st k t) :=
  .ite h.endPage h.pressFunction

protected theorem Retains.releaseKey {st : StationId} {k : KeyId} : Retains s (releaseKey st k t) := .ite h.endPage h

protected theorem Retains.debounceKey {st : StationId} {keys : Vector Bool 8} {k : KeyId} :
    Retains s (debounceKey st keys k t) := by
  unfold Machine.debounceKey
  exact .ite (.ite h.modStation.count (.ite h.modStation.count.pressKey h.modStation.count.releaseKey))
    (.ite h h.modStation)

protected theorem Retains.takeAnswerOfPoll {st : StationId} {keys : Vector Bool 8} :
    Retains s (takeAnswerOfPoll st keys t) := by
  unfold Machine.takeAnswerOfPoll
  exact .ite (h.modStation.forEach fun _ _ k => k.debounceKey) h.modStation.report

protected theorem Retains.takeMiss {st : StationId} : Retains s (takeMiss st t) := by
  unfold Machine.takeMiss dropPending
  exact .ite h.count.modStation.modStation.countTimes h.count

protected theorem Retains.leaveCall {st : StationId} : Retains s (leaveCall st t) := by
  unfold Machine.leaveCall
  split
  · exact h
  · dsimp only
    split
    · exact h.removeMember.endCall
    · exact .ite h.removeMember h.removeMember.endCall

protected theorem Retains.becomeAbsent {st : StationId} : Retains s (becomeAbsent st t) :=
  h.modStation.endPage.leaveCall.report

/-! #### The line supervisor (chapter 10) -/

protected theorem Retains.modLane {l : LaneId} {f : Lane → Lane} : Retains s (modLane l f t) := h.modLines

protected theorem Retains.modRecord {l : LaneId} {f : LaneRecord → LaneRecord} : Retains s (modRecord l f t) := h.modLane

protected theorem Retains.accumulateLane {l : LaneId} : Retains s (accumulateLane l t) := by
  unfold Machine.accumulateLane
  refine .ite ?_ h.modLane
  split
  · exact h.modLane.count
  · dsimp only
    split
    · exact h.modLane.modRecord.count
    · exact h.modLane.modRecord.count
    · exact h.modLane.modRecord

protected theorem Retains.startWindows : Retains s (startWindows t) := h.modLines

protected theorem Retains.lineStage1 : Retains s (lineStage1 t) := by
  unfold Machine.lineStage1 beginWindows discardReturns
  exact .ite h.startWindows.modLines.modLines (Retains.modLines (h.forEach fun _ _ k => k.accumulateLane))

protected theorem Retains.setLineState {l : LaneId} {v : LineState} : Retains s (setLineState l v t) :=
  .ite h h.modRecord.report.count

protected theorem Retains.setOvertemp {l : LaneId} {b : Bool} : Retains s (setOvertemp l b t) :=
  .ite h h.modRecord.report

protected theorem Retains.judgeLane {l : LaneId} : Retains s (judgeLane l t) := by
  unfold Machine.judgeLane
  exact Retains.modRecord (.ite h.count.setOvertemp.setLineState h.count.setOvertemp)

protected theorem Retains.closeLane {l : LaneId} : Retains s (closeLane l t) := by
  unfold Machine.closeLane
  exact .ite (Retains.modRecord (.ite h.judgeLane h)) h

protected theorem Retains.closeWindow : Retains s (closeWindow t) := by
  unfold Machine.closeWindow
  exact Retains.modLines (h.forEach fun _ _ k => k.closeLane)

protected theorem Retains.changeSupervision {z : ZoneId} {old new : Bool} : Retains s (changeSupervision z old new t) := by
  unfold Machine.changeSupervision endSupervision
  exact .ite h.setLineState.modRecord (.ite h.modRecord h)

protected theorem Retains.reportServed {read : ZoneId → MixView} {l : LaneId} {old new : Option ZoneId} :
    Retains s (reportServed read l old new t) := by
  have k : Retains s (match new with
      | some z => Machine.count (.failovers z) (Machine.report .failover z.val l.val t)
      | none => t) := by
    split
    · exact h.report.count
    · exact h
  unfold Machine.reportServed
  cases old with
  | some z => exact .ite k.report k.report
  | none => exact k

protected theorem Retains.arbitrateSpares {read : ZoneId → MixView} : Retains s (arbitrateSpares read t) := by
  refine h.forEach fun l u k => ?_
  unfold arbitrateSpare
  exact .ite k k.modRecord.reportServed

protected theorem Retains.fillLanes {read : ZoneId → MixView} : Retains s (fillLanes read t) := by
  refine h.forEach fun l u k => ?_
  unfold fillLane
  dsimp only
  split
  · exact k.modLines
  · exact .ite k.modLines.count k.modLines

protected theorem Retains.setUnheard {z : ZoneId} {b : Bool} : Retains s (setUnheard z b t) := by
  have k : Retains s (if b then Machine.count (.unheardPeriods z) t else t) := .ite h.count h
  unfold Machine.setUnheard
  exact .ite k k.modLines.report

/-! #### The scene unit (chapter 4) -/

protected theorem Retains.setTarget {g : FadeTarget} {c : Code} : Retains s (setTarget g c t) := by
  unfold Machine.setTarget
  split
  · exact h.modScene
  · exact h.modMix

protected theorem Retains.dropFade {g : FadeTarget} : Retains s (dropFade g t) := h.modScene

protected theorem Retains.cancelFade {g : FadeTarget} : Retains s (cancelFade g t) := h.dropFade.report.count

protected theorem Retains.cancelMaster {z : ZoneId} : Retains s (cancelMaster z t) := .ite h.cancelFade h

protected theorem Retains.exchangeBanks : Retains s (exchangeBanks t) := by
  unfold Machine.exchangeBanks
  exact (Retains.modScene (h.forEach fun _ _ k => k.cancelFade)).count

protected theorem Retains.stepFade {f : Fade} : Retains s (stepFade f t) := .ite h h.modScene.setTarget

protected theorem Retains.completeFade {f : Fade} : Retains s (completeFade f t) := h.setTarget.dropFade.count

protected theorem Retains.moveTarget {g : FadeTarget} {goal : Code} {n : Nat} : Retains s (moveTarget g goal n t) := by
  unfold Machine.moveTarget setAtOnce beginFade
  exact .ite (.ite h.setTarget.dropFade.count h.setTarget)
    (.ite h.modScene.count.count (.ite h.modScene.count h.setTarget.count))

protected theorem Retains.cueAct {e : CueEffect} : Retains s (cueAct e t) := by
  unfold Machine.cueAct
  split
  · exact h.exchangeBanks
  · exact h.moveTarget
  · exact h.moveTarget

protected theorem Retains.fireCue : Retains s (fireCue t) := by
  unfold Machine.fireCue
  split
  · exact h.modScene.cueAct.count
  · exact h

protected theorem Retains.evaluateHold : Retains s (evaluateHold t) := by
  have k : ∀ {f}, Retains s (Machine.modScene f (forEach (everyFin 24) (evaluateZone t.scene.held) t)) :=
    Retains.modScene (h.forEach fun _ _ k => .ite k k.report)
  unfold Machine.evaluateHold
  exact .ite k k.report

protected theorem Retains.stepFades : Retains s (stepFades t) := .ite h (h.forEach fun _ _ k => k.stepFade)

end
end Sys2Proof.Machine
end

section
namespace Sys2Proof.Machine

-- The lemmas of this part are elaborated one after another: all at once they ask for more threads than the check's
-- memory limit leaves room for.
set_option Elab.async false

section
variable {s t : State} (h : Retains s t)
include h

/-! #### The tables, the image and the interpreter (chapter 11) -/

protected theorem Retains.putSource {i : SlotId} {mode : SlotMode} {b : Binding} {cls : SlotClass} {trim : Code} :
    Retains s (putSource i mode b cls trim t).2 := by
  unfold Machine.putSource
  dsimp only
  split
  · exact h
  · exact .ite h.modSlot h.modSlot.rebind

protected theorem Retains.changeEnabled {z : ZoneId} {old new : Bool} : Retains s (changeEnabled z old new t) := by
  unfold Machine.changeEnabled
  exact .ite h.disableZone (.ite h.enableZone h)

protected theorem Retains.putZone {z : ZoneId} {master : Bool} {e : ZoneEntry} : Retains s (putZone z master e t) := by
  unfold Machine.putZone
  exact (Retains.modZone (.ite h.cancelMaster h)).changeSupervision.changeEnabled

protected theorem Retains.putProgram {p : ProgramId} {e : ProgramEntry} : Retains s (putProgram p e t).2 := by
  unfold Machine.putProgram
  split
  · exact h
  · exact h.modAlarm.snd

protected theorem Retains.putEntry {n : TableName} {row column : Nat} {e : Entry} :
    Retains s (putEntry n row column e t).2 := by
  unfold Machine.putEntry
  split
  · exact h.putSource
  · exact h.modScene.snd
  · exact h.modMix.snd
  · exact h.putZone.snd
  · split
    · exact h
    · exact h.modClaims.snd
  · exact h.modClaims.snd
  · exact h.modStation.snd
  · exact h.modIntercom.snd
  · exact h.putProgram
  · exact h.modAlarm.snd
  · exact h.modControl.snd
  · exact h

protected theorem Retains.writeEntry {n : TableName} {row column : Nat} {e : Entry} :
    Retains s (writeEntry n row column e t).2 := by
  unfold Machine.writeEntry
  split
  · exact h
  · exact h.putEntry

protected theorem Retains.putFields {n : TableName} {row column : Nat} {l : List Field} {e : Entry} :
    Retains s (putFields n row column l e t).2 := by
  unfold Machine.putFields
  split
  · split
    · exact h.putSource
    · exact h.modSlot.snd
  · exact h.putZone.snd
  · exact h.modClaims.snd
  · exact h.modClaims.snd
  · exact h.modStation.snd
  · exact h.modIntercom.snd
  · exact h.putProgram
  · exact h.modAlarm.snd
  · exact h.modControl.snd
  · exact h.putEntry

protected theorem Retains.writeNamed {n : TableName} {row column : Nat} {l : List Field} :
    Retains s (writeNamed n row column l t).2 := by
  unfold Machine.writeNamed
  split
  · exact h
  · split
    · exact h
    · split
      · exact h
      · exact h.putFields

protected theorem Retains.advance : Retains s (advance t) := h.modControl

protected theorem Retains.writeAll {l : List Entry} {w : Written} : Retains s (writeAll l w t).2 := by
  induction l generalizing w t with
  | nil => exact h
  | cons e es ih =>
    unfold Machine.writeAll
    dsimp only
    split
    · exact h.writeEntry
    · exact ih h.writeEntry.advance

protected theorem Retains.clearRead {p : Pointer} {clear : Bool} : Retains s (clearRead p clear t) :=
  .ite h.modCounters h

protected theorem Retains.readAll {clear : Bool} {n room : Nat} {acc : List ReadEntry} :
    Retains s (readAll clear n room acc t).2 := by
  induction n generalizing room acc t with
  | zero => exact h
  | succ n ih =>
    unfold Machine.readAll
    dsimp only
    split
    · exact ih h.clearRead.advance
    · exact h

protected theorem Retains.readEntries {n : Nat} {clear : Bool} : Retains s (readEntries n clear t).2 := by
  unfold Machine.readEntries
  dsimp only
  split
  · exact h.readAll
  · exact h

protected theorem Retains.compareWrite {compare new : Entry} : Retains s (compareWrite compare new t).2.2 := by
  unfold Machine.compareWrite
  dsimp only
  split
  · exact h.advance
  · split
    · exact h
    · split
      · exact h.writeEntry.advance
      · exact h.advance

protected theorem Retains.installTables {x : ImageTables} : Retains s (installTables x t) := by
  have zones : Retains s (installZones x t) := h.forEach fun _ _ k => k.modZone.changeSupervision
  unfold Machine.installTables
  exact zones.modSlots.modMix.modScene.modClaims.modIntercom.modAlarm.modControl

/-- The end of a load takes the part to RUN, and only a part that is not dormant loads (R198). -/
protected theorem Retains.endLoad (hd : ¬dormant s) {reload : Bool} {x : ImageTables} :
    Retains s (endLoad reload x t) := by
  unfold Machine.endLoad
  exact ((Retains.modLines (.ite h.installTables.startWindows h.installTables)).setControl hd).count

protected theorem Retains.loadEntries {l : List (ClipId × DirEntry)} {taken : List DirEntry} :
    Retains s (loadEntries l taken t) := by
  induction l generalizing taken t with
  | nil => exact h
  | cons x rest ih =>
    obtain ⟨c, e⟩ := x
    unfold Machine.loadEntries
    split
    · exact ih h.modClips
    · exact ih h.setClip
    · exact ih h.modClips.count

protected theorem Retains.sectorEntries {base : Nat} {l : List Byte} : Retains s (sectorEntries base l t).2 := by
  unfold Machine.sectorEntries
  split
  · exact h
  · exact h.count

protected theorem Retains.loadDirectory {a b : List Byte} : Retains s (loadDirectory a b t) :=
  h.sectorEntries.sectorEntries.loadEntries

protected theorem Retains.imageRead (hd : ¬dormant s) {l : Load} : Retains s (imageRead l t) := by
  have k : Retains s (match judgeImage l.image with
      | .error v => Machine.report .imageInvalid 0 v t
      | .ok _ => t) := by
    split
    · exact h.report
    · exact h
  unfold Machine.imageRead
  exact .ite (k.setControl hd).requestRead.requestRead (k.endLoad hd)

end

/-- A read that completes for the image acts on a load in progress alone (R198). -/
protected theorem Retains.imageSector {s t : State} (h : Retains s t) (hl : dormant s → t.control.load = none) {i : Nat}
    {data : List Byte} : Retains s (imageSector i data t) := by
  unfold Machine.imageSector
  split
  · exact h
  · next l e =>
    have hd : ¬dormant s := fun d => by simp [hl d] at e
    exact .ite (h.imageRead hd) (h.setControl hd)

protected theorem Retains.dirSector {s t : State} (h : Retains s t) (hl : dormant s → t.control.load = none) {i : Nat}
    {data : List Byte} : Retains s (dirSector i data t) := by
  unfold Machine.dirSector
  split
  · exact h
  · next l e =>
    have hd : ¬dormant s := fun d => by simp [hl d] at e
    exact .ite (h.setControl hd) (h.loadDirectory.endLoad hd)

section
variable {s t : State} (h : Retains s t)
include h

protected theorem Retains.deliverRead {r : Reader} {data : List Byte} : Retains s (deliverRead r data t) := by
  have hl : Machine.dormant s → t.control.load = none := fun d => (h.dormancy d).2
  unfold Machine.deliverRead
  split
  · exact h.fillBuffer
  · exact h.imageSector hl
  · exact h.dirSector hl
  · exact h

protected theorem Retains.resetClaims : Retains s (resetClaims t) := by
  have k : ∀ {u}, Retains s u → Retains s (forEach (everyFin 48) (Machine.endClaim .reset) u) :=
    fun k => k.forEach fun _ _ k => k.endClaim
  unfold Machine.resetClaims
  refine (k ?_).modPeer.modClaims
  split
  · exact h.abandonService
  · exact h

protected theorem Retains.resetIntercom : Retains s (resetIntercom t) := by
  unfold Machine.resetIntercom
  exact Retains.modIntercom (h.forEach fun _ _ k => k.endCall)

protected theorem Retains.softResetAll : Retains s (softResetAll t) := by
  unfold Machine.softResetAll
  exact h.resetClaims.resetIntercom.stopPlayer.stopPlayer.modClips.modSlots.modMix.modScene.modAlarm.modLines.modControl
    |>.modReports

/-- A reload takes the part to LOADING, and only a part that runs is reloaded (R200). -/
protected theorem Retains.beginLoading (hd : ¬dormant s) : Retains s (beginLoading t) := by
  unfold Machine.beginLoading
  exact (h.countTimes.setControl hd).modIntercom.forEach fun _ _ k => k.requestRead

/-- An accepted CONTROL frame takes a part in STANDALONE to RUN (R191). -/
protected theorem Retains.restartTimer : Retains s (restartTimer t) := by
  unfold Machine.restartTimer
  dsimp only
  split
  · next hm =>
    have hd : ¬Machine.dormant s := fun d => by simp [(h.dormancy d).1] at hm
    exact (h.modControl.setControl hd).report
  · exact h.modControl

protected theorem Retains.takeControlFrame {origin : Nat} {payload : List Byte} :
    Retains s (takeControlFrame origin payload t) := by
  unfold Machine.takeControlFrame
  exact .ite (.ite h.count.restartTimer.count h.count.restartTimer.modControl) h.count

protected theorem Retains.startFrame : Retains s (startFrame t) := by
  unfold Machine.startFrame beginFrame
  split
  · exact .ite (.ite h.modControl.finishFrame h.modControl.continueFrame) h
  · exact h

/-- An operation is carried out by a part that runs, which is not dormant (R190). -/
protected theorem Retains.operation {f : State → State} (hf : ¬dormant s → Retains s (f t)) : Retains s (operation f t) := by
  unfold Machine.operation
  split
  · next hr =>
    have k : Retains s (f t) := hf fun d => not_dormant_of_running hr (h.dormancy d)
    split
    · exact .ite h k
    · exact k
  · exact h

protected theorem Retains.answerManagement {r : StartRequest} {o : Started} : Retains s (answerManagement r o t) := by
  unfold Machine.answerManagement
  split
  · refine Retains.claimAnswer ?_
    split
    · split
      · exact h.stopPlayer
      · exact h
    · exact h
  · exact h.claimAnswer
  · exact h.claimAnswer

protected theorem Retains.answerStart {r : StartRequest} {o : Started} : Retains s (answerStart r o t) := by
  unfold Machine.answerStart
  split
  · split
    · exact h.pageRefused
    · exact h
  · exact h.answerManagement
  · exact h.rewriteSlot.requestAnswered
  · split
    · exact h.answerReserve
    · exact h

protected theorem Retains.takeRequest : Retains s (takeRequest t) := by
  unfold Machine.takeRequest
  split
  · exact h
  · exact h.modClaims.startClaim.answerStart
  · exact h.modClaims.gainZones.requestAnswered

protected theorem Retains.offerManagement {q : StartRequest} : Retains s (offerManagement q t) := by
  unfold Machine.offerManagement awaitAnswer
  exact .ite (.ite h.offerRequest.modControl h.offerRequest) h.offerRequest.answerManagement

/-! #### The period boundary -/

protected theorem Retains.writeGenerator {i : SlotId} {b : Block} : Retains s (writeGenerator i b t) := h.modSlot

protected theorem Retains.quietTone {ch : ChanId} : Retains s (quietTone ch t) := h.writeGenerator

protected theorem Retains.chimeBlock {row : Fin 4} {played : Nat} : Retains s (chimeBlock row played t) :=
  h.modClaims.writeGenerator

protected theorem Retains.chimeWork : Retains s (chimeWork t) := by
  unfold Machine.chimeWork
  split
  · exact h.writeGenerator
  · exact .ite h h.chimeBlock

protected theorem Retains.nextNote : Retains s (nextNote t) := by
  unfold Machine.nextNote
  split
  · exact h
  · exact .ite h.modClaims.chimeBlock h.modClaims.writeGenerator

protected theorem Retains.workStep {ch : ChanId} : Retains s (workStep ch t) := by
  unfold Machine.workStep soundTone
  refine .ite h.quietTone ?_
  split
  · exact .ite h.modChannel.writeGenerator h.modChannel.quietTone
  · exact h.modChannel.quietTone
  · exact h.quietTone

protected theorem Retains.enterAndWork {ch : ChanId} {k : Nat} : Retains s (enterAndWork ch k t) := by
  unfold Machine.enterAndWork programEnd
  dsimp only
  split
  · exact h.enterStep.completeProgram.handOn.quietTone
  · exact h.enterStep.workStep

protected theorem Retains.leaveStep {ch : ChanId} : Retains s (leaveStep ch t) := h.enterAndWork

protected theorem Retains.channelWork {ch : ChanId} : Retains s (channelWork ch t) := by
  unfold Machine.channelWork
  exact .ite h.quietTone (.ite h.enterAndWork (.ite h.leaveStep (.ite h h.workStep)))

protected theorem Retains.playerWork {p : ChanId} : Retains s (playerWork p t) := .ite h.playBlock h.writeGenerator

protected theorem Retains.completePlay {p : ChanId} {channelFirst : Bool} : Retains s (completePlay p channelFirst t) := by
  unfold Machine.completePlay releasePlayer
  dsimp only
  split
  · exact h.modClips.count.endClaim
  · exact .ite h.modClips.count h.modClips.count.leaveStep
  · exact h.modClips.count

protected theorem Retains.ageOrigins : Retains s (ageOrigins t) := h.modRing

protected theorem Retains.loseSource {i : SlotId} : Retains s (loseSource i t) := by
  unfold Machine.loseSource
  exact .ite (.ite h.modSlot.report.count.loseDynamic h.modSlot.report.count) h

protected theorem Retains.finishFade {g : FadeTarget} : Retains s (finishFade g t) := by
  unfold Machine.finishFade
  split
  · exact .ite h.completeFade h
  · exact h

protected theorem Retains.timeOut {c : ClaimId} : Retains s (timeOut c t) := by
  unfold Machine.timeOut
  split
  · exact .ite h.endClaim.count h
  · exact h

protected theorem Retains.expireChime {c : ClaimId} : Retains s (expireChime c t) := by
  unfold Machine.expireChime
  split
  · exact .ite h.commitDue h
  · exact h

protected theorem Retains.deadlineOf {state : OutState} {g : TagId} : Retains s (deadlineOf state g t) := by
  unfold Machine.deadlineOf
  split
  · exact .ite h.freeEntry h.peerTimeout
  · exact h

protected theorem Retains.addDues {l : List Due} : Retains s (addDues l t) := h.modBoundary

protected theorem Retains.ringOut {i : CallId} : Retains s (ringOut i t) := by
  unfold Machine.ringOut
  split
  · exact .ite h.endCall.count h
  · exact h

protected theorem Retains.flashOut {st : StationId} {k : KeyId} : Retains s (flashOut st k t) := .ite h.modStation h

protected theorem Retains.beginScan : Retains s (beginScan t) := by
  unfold Machine.beginScan countScan
  exact h.modIntercom.addDues.modStation

protected theorem Retains.loseStation {st : StationId} : Retains s (loseStation st t) := .ite h.becomeAbsent.pollNext h

/-- A part enters STANDALONE from RUN alone (R191). -/
protected theorem Retains.enterStandalone : Retains s (enterStandalone t) := by
  unfold Machine.enterStandalone
  split
  · next he =>
    have hd : ¬Machine.dormant s := fun d => by simp [timerExpired, (h.dormancy d).1] at he
    exact (h.setControl hd).report.count
  · exact h

protected theorem Retains.emitReports : Retains s (emitReports t) := by
  unfold Machine.emitReports sendReports
  exact .ite (.ite h.modReports (h.modReports.modReports.forEach fun _ _ k => k.originate.count)) h

protected theorem Retains.dropOrigin {k : OriginIx} : Retains s (dropOrigin k t) := .ite h.modRing h

protected theorem Retains.dropDue {d : Due} : Retains s (dropDue d t) := h.modBoundary

protected theorem Retains.sceneStages : Retains s (sceneStages t).2 := h.evaluateHold.stepFades

protected theorem Retains.sceneWork : Retains s (sceneWork t) := by
  unfold Machine.sceneWork
  exact h.sceneStages.modBoundary

/-- Each change that a boundary makes due retains what a step does. -/
protected theorem Retains.act {d : Due} : Retains s (act d t) := by
  cases d with
  | sceneWork => exact h.sceneWork
  | originAgeOut => exact h.dropOrigin
  | sourceLost => exact h.loseSource
  | fadeComplete => exact h.finishFade
  | cueFire => exact .ite h (Retains.fireCue (h.forEach fun _ _ k => k.dropDue.finishFade))
  | chimeNoteEnd => exact .ite h.nextNote h
  | holdTimeout => exact h.timeOut
  | chimeExpiry => exact h.expireChime
  | reserveDeadline => exact h.deadlineOf
  | commitDeadline => exact h.deadlineOf
  | releaseDeadline => exact h.deadlineOf
  | scanStart => exact h.beginScan
  | callNoAnswer => exact h.ringOut
  | flashTimer => exact h.flashOut
  | stationAbsent => exact h.loseStation
  | toneStepEnd => exact .ite h.leaveStep h
  | silenceStepEnd => exact .ite h.leaveStep h
  | playComplete => exact .ite h.completePlay h
  | windowClose => exact .ite h.closeWindow h
  | standaloneEntry => exact h.enterStandalone
  | reportEmission => exact h.emitReports

protected theorem Retains.closeBoundary : Retains s (closeBoundary t) := by
  have zones : ∀ {b late u}, Retains s u → Retains s (formZones b late u) :=
    fun k => k.forEach fun _ _ k => k.deliverZone
  have heard : ∀ {read u}, Retains s u → Retains s (judgeUnheard read u) :=
    fun k => k.forEach fun _ _ k => k.setUnheard
  have speakers : ∀ {b late u}, Retains s u → Retains s (formSpeakers b late u) := fun k => k.modIntercom
  unfold Machine.closeBoundary
  exact .ite (speakers (heard (zones h.modBoundary.arbitrateSpares).fillLanes)).sendBundle h.modBoundary

protected theorem Retains.sceneTurn : Retains s (sceneTurn t) := by
  unfold Machine.sceneTurn sceneWaits
  exact .ite h.dropDue.sceneWork (.ite h.modBoundary h)

protected theorem Retains.closeIfDone : Retains s (closeIfDone t) := by
  unfold Machine.closeIfDone
  exact .ite h.sceneTurn.closeBoundary h.sceneTurn

protected theorem Retains.takeDue {d : Due} {f : State → State} (hf : ∀ u, Retains s u → Retains s (f u)) :
    Retains s (takeDue d f t) := by
  unfold Machine.takeDue
  exact .ite (hf _ h.dropDue).closeIfDone h

protected theorem Retains.carryDue {d : Due} : Retains s (carryDue d t) := h.dropDue.act

protected theorem Retains.passDues : Retains s (passDues t) := by
  refine h.forEach fun d u k => ?_
  unfold passDue sceneTurnWhole
  exact .ite (.ite (k.carryDue.sceneTurn.forEach fun _ _ k => k.carryDue) k.carryDue.sceneTurn) k

protected theorem Retains.passAll : Retains s (passAll t) := h.passDues.passDues.closeIfDone

protected theorem Retains.settle : Retains s (settle t) := by
  unfold Machine.settle admitNext see
  exact .ite (.ite h.passAll.modBoundary.modBoundary h.passAll) h

protected theorem Retains.finish : Retains s (finish t) := by
  unfold Machine.finish hasten
  exact .ite h.modBoundary.passAll h

protected theorem Retains.idleBlocks : Retains s (idleBlocks t) := by
  unfold Machine.idleBlocks discardReturns silenceLanes
  exact (h.forEach fun _ _ k => k.writeGenerator).modMix.modIntercom.modLines.modLines

protected theorem Retains.runBoundary {race : Race} {first : List Due} : Retains s (runBoundary race first t) := by
  have stages : Retains s (if race.holdAfter.isNone then Machine.sceneStages (Machine.lineStage1 t)
      else ([], Machine.lineStage1 t)).2 := by
    split
    · exact h.lineStage1.sceneStages
    · exact h.lineStage1
  have players : ∀ {u}, Retains s u → Retains s (forEach (everyFin 2) Machine.playerWork
      (forEach (everyFin 2) Machine.channelWork u)) :=
    fun k => (k.forEach fun _ _ k => k.channelWork).forEach fun _ _ k => k.playerWork
  unfold Machine.runBoundary countClaims countInterval countTimer advancePhase
  exact (players stages.modClaims.chimeWork).modIntercom.modControl.modReports.modBoundary

protected theorem Retains.openBoundary {race : Race} : Retains s (openBoundary race t) := by
  have judged : Retains s (forEach judgedSlots Machine.judgeSlot (Machine.ageOrigins t)) :=
    h.ageOrigins.forEach fun _ _ k => k.judgeSlot
  unfold Machine.openBoundary
  exact Retains.closeIfDone (.ite judged.runBoundary judged.idleBlocks.modBoundary)

/-! #### The ring ports (chapter 1) -/

protected theorem Retains.dropTraffic {p : Port} {midFrame : Bool} : Retains s (dropTraffic p midFrame t) := by
  have cut : Retains s (if midFrame then Machine.count (.badCheck p) t else t) := .ite h.count h
  have sent : Retains s (if (portOf t p).sending.isSome then
      Machine.count (.linkDiscard p) (if midFrame then Machine.count (.badCheck p) t else t)
      else if midFrame then Machine.count (.badCheck p) t else t) := .ite cut.count cut
  unfold Machine.dropTraffic
  exact (sent.modPort fun _ => ⟨Nat.zero_le _, fun _ => ⟨rfl, rfl⟩⟩).countTimes

/-- A port takes a link state other than UP only with nothing queued and nothing in transmission (R2). -/
protected theorem Retains.setLink {p : Port} {l : LinkState}
    (hl : l ≠ .up → portOk (portOf t p) → (portOf t p).queue = [] ∧ (portOf t p).sending = none) :
    Retains s (setLink p l t) :=
  (h.modPort fun k => ⟨k.1, fun d => hl d k⟩).report

protected theorem Retains.completeTransmission {p : Port} : Retains s (completeTransmission p t) := by
  unfold Machine.completeTransmission
  exact .ite (Retains.arbitrate (h.modPort fun k => ⟨k.1, fun d => ⟨(k.2 d).1, rfl⟩⟩).count) h

protected theorem Retains.setTiming {x : Timing} : Retains s (setTiming x t) := .ite h h.modRing.report

protected theorem Retains.localBoundary {race : Race} : Retains s (localBoundary race t) := by
  unfold Machine.localBoundary
  exact h.modRing.setTiming.count.openBoundary

protected theorem Retains.takeBeacon {payload : List Byte} {race : Race} : Retains s (takeBeacon payload race t) := by
  unfold Machine.takeBeacon adoptBeacon
  exact .ite (.ite h.modRing.setTiming.count h.modRing.setTiming.openBoundary) h

protected theorem Retains.handOver {f : Frame} {payload : List Byte} {race : Race} :
    Retains s (handOver f payload race t) := by
  unfold Machine.handOver
  split
  · exact h.takeBeacon
  · exact h.audioCapture
  · exact h.takeControlFrame
  · exact h.takeClaimFrame
  · exact h.takeAlarmFrame
  · exact h

protected theorem Retains.takeFrame {p : Port} {f : Frame} {payload : List Byte} {race : Race} :
    Retains s (takeFrame p f payload race t) := by
  unfold Machine.takeFrame
  exact .ite h.modRing.count.handOver h.count

protected theorem Retains.forwardFrame {p : Port} {f : Frame} : Retains s (forwardFrame p f t) := .ite h.count h.offer

protected theorem Retains.classify {p : Port} {f : Frame} {payload : List Byte} {race : Race} :
    Retains s (classify p f payload race t) := by
  unfold Machine.classify takeAndForward
  exact .ite h.count (.ite h.forwardFrame (.ite h.takeFrame
    (.ite (.ite h.forwardFrame.takeFrame h.takeFrame.forwardFrame) h.forwardFrame)))

protected theorem Retains.checkedFrame {p : Port} {f : Frame} {payload : List Byte} {race : Race} :
    Retains s (checkedFrame p f payload race t) := by
  unfold Machine.checkedFrame classifyLoading
  split
  · exact h.forwardFrame
  · exact .ite h.count (.ite h.forwardFrame (.ite h.count h.forwardFrame))
  · exact h.classify
  · exact h.classify

protected theorem Retains.receiveFrame {p : Port} {bytes : List Byte} {race : Race} :
    Retains s (receiveFrame p bytes race t) := by
  unfold Machine.receiveFrame
  split
  · exact h.count
  · exact h.count
  · exact h.count
  · exact h.count
  · exact h.count.checkedFrame

end

/-- A port with signal lost is DOWN, with nothing queued and nothing in transmission (R2). -/
protected theorem Retains.loseSignal {s t : State} (h : Retains s t) {p : Port} {midFrame : Bool} :
    Retains s (loseSignal p midFrame t) := by
  unfold Machine.loseSignal
  split
  · exact h
  · next e => exact h.setLink fun _ k => k.2 (by simp [e])
  · exact h.dropTraffic.setLink fun _ _ => by simp

end Sys2Proof.Machine
end

section
namespace Sys2Proof.Machine

/-! #### Every command but a power-on reset -/

/-- The state that the outcome goes on to, if it goes on, retains what a step does. -/
def goesOnRetaining (s : State) : Host.Outcome State Fault Refusal → Prop
  | .next t => Retains s t
  | _ => True

section
variable {s t : State} (h : Retains s t)
include h

/-- A command is carried out once what is due has been settled. -/
theorem Retains.afterSettle {f : State → State} (hf : ∀ u, Retains s u → Retains s (f u)) : Retains s (f (settle t)) :=
  hf _ h.settle

/-- A command of an operation is settled, and then carried out. -/
theorem Retains.operationSettled {f : State → State} (hf : ∀ u, Retains s u → Retains s (f u)) :
    Retains s (operation f (settle t)) :=
  h.settle.operation fun _ => hf _ h.settle

protected theorem Retains.stationCapture {st : StationId} {b : Block} : Retains s (stationCapture st b t) :=
  h.forEach fun _ _ k => k.capture

protected theorem Retains.setPointer {p : Option Pointer} : Retains s (setPointer p t) := by
  unfold Machine.setPointer
  split
  · exact h.modControl.commandDone
  · exact h.commandDone

protected theorem Retains.readDone {r : ReadRequest} {data : List Byte} : Retains s (readDone r data t) :=
  h.modClips.count.deliverRead.arbitrateFlash

protected theorem Retains.writeDone : Retains s (writeDone t) := by
  have adv : ∀ {w rest u}, Retains s u → Retains s (advanceWrite w rest u) := by
    intro w rest u k
    unfold advanceWrite
    refine .ite ?_ k.modClips
    dsimp only
    split
    · exact k.modClips.modControl.count
    · exact k.modClips
  unfold Machine.writeDone
  dsimp only
  split
  · exact (adv h.modClips.count).arbitrateFlash
  · exact h.modClips.count.arbitrateFlash

protected theorem Retains.deleteClip {c : ClipId} {e : DirEntry} : Retains s (deleteClip c e t) := by
  unfold Machine.deleteClip
  exact (Retains.setClip (.ite h.modClips h)).queueDirectory

protected theorem Retains.reloadAll (hd : ¬dormant s) : Retains s (reloadAll t) := by
  have e : ∀ {u}, Retains s u → Retains s (endFrame u) := by
    intro u k
    unfold endFrame
    split
    · exact k.finishFrame
    · exact k
  unfold Machine.reloadAll
  exact (e h.softResetAll.modControl).beginLoading hd

end

protected theorem Retains.alarmDone {s : State} {r : Option AlarmRefusal × State} (h : Retains s r.2) :
    Retains s (alarmDone r) := by
  unfold Machine.alarmDone
  split
  · exact h.commandDone
  · exact h.commandDone

/-- Each command but a power-on reset retains the node id, dormancy and the bounds of the ports. -/
theorem exec_retains (c : Instr) (hc : ∀ straps, c ≠ .powerOnReset straps) (s : State) : goesOnRetaining s (exec c s) := by
  have h : Retains s s := .refl s
  cases c with
  | powerOnReset straps => exact absurd rfl (hc straps)
  | signalDetected p =>
    refine h.afterSettle (f := fun t => if (portOf t p).link = .down then setLink p .training t else t) fun u k => ?_
    split
    · next e => exact k.setLink fun _ o => o.2 (by simp [e])
    · exact k
  | trainingComplete p =>
    exact h.afterSettle (f := fun t => if (portOf t p).link = .training then setLink p .up t else t)
      fun u k => .ite (k.setLink fun e => absurd rfl e) k
  | trainingTimeout p =>
    exact h.afterSettle (f := fun t => if (portOf t p).link = .training then count (.trainingRetry p) t else t)
      fun u k => .ite k.count k
  | signalLost => exact h.settle.loseSignal
  | frameReceived p l race =>
    have k : Retains s (if isTimed l then finish s else settle s) := .ite h.finish h.settle
    exact Retains.ite k.receiveFrame k
  | frameTransmitComplete => exact h.settle.completeTransmission
  | localBoundary race => exact h.finish.localBoundary
  | relabelWindowClose => exact h.settle.modRing
  | originEntryAgeOut => exact h.takeDue fun _ k => k.dropOrigin
  | micBlockArrival st b =>
    exact Retains.ite h.finish.modStation.stationCapture h.finish
  | sourceLost => exact h.takeDue fun _ k => k.loseSource
  | fadeComplete => exact h.takeDue fun _ k => k.finishFade
  | cueFire => exact h.takeDue fun _ k => k.act
  | claimRequestTake => exact Retains.ite h.settle.takeRequest h.settle
  | chimeNoteEnd => exact h.takeDue fun _ k => k.act
  | chimeExpiry => exact h.takeDue fun _ k => k.expireChime
  | holdTimeout => exact h.takeDue fun _ k => k.timeOut
  | reserveDeadline => exact h.takeDue fun _ k => k.deadlineOf
  | commitDeadline => exact h.takeDue fun _ k => k.deadlineOf
  | releaseDeadline => exact h.takeDue fun _ k => k.deadlineOf
  | reserveService => exact h.settle.serveNext
  | scanStart => exact h.takeDue fun _ k => k.beginScan
  | pollAnswer => exact Retains.ite h.settle.takeAnswerOfPoll.pollNext h.settle
  | missedScan => exact Retains.ite (.ite h.settle.takeMiss.addDues h.settle.takeMiss.pollNext) h.settle
  | stationAbsent => exact h.takeDue fun _ k => k.loseStation
  | callNoAnswer => exact h.takeDue fun _ k => k.ringOut
  | flashTimerExpiry => exact h.takeDue fun _ k => k.flashOut
  | toneStepEnd => exact h.takeDue fun _ k => k.act
  | silenceStepEnd => exact h.takeDue fun _ k => k.act
  | flashReadComplete data =>
    refine h.afterSettle (f := fun t => match t.clips.inFlight with
      | some (.read r) => readDone r data t
      | _ => t) fun u k => ?_
    split
    · exact k.readDone
    · exact k
  | flashWriteComplete =>
    refine h.afterSettle (f := fun t => match t.clips.inFlight with
      | some (.write _ _) => writeDone t
      | _ => t) fun u k => ?_
    split
    · exact k.writeDone
    · exact k
  | playComplete => exact h.takeDue fun _ k => .ite k.completePlay k
  | ampReturn => exact h.settle.modLane
  | windowClose => exact h.takeDue fun _ k => k.act
  | controlFrameStart => exact h.settle.startFrame
  | standaloneEntry => exact h.takeDue fun _ k => k.enterStandalone
  | select => exact h.operationSettled fun _ k => k.setPointer
  | window => exact h.operationSettled fun _ k => k.setPointer
  | write => exact h.operationSettled fun _ k => k.writeAll.finishOperation
  | writeFields => exact h.operationSettled fun _ k => k.writeNamed.advance.commandDone
  | writeIf => exact h.operationSettled fun _ k => k.compareWrite.finishOperation
  | read => exact h.operationSettled fun _ k => k.readEntries.finishOperation
  | claimStart =>
    refine h.operationSettled fun _ k => ?_
    split
    · exact k.offerManagement
    · exact k.commandDone
  | claimEnd =>
    refine h.operationSettled fun _ k => ?_
    split
    · split
      · exact k.commandDone
      · split
        · exact k.commandDone
        · exact k.endClaim.commandDone
    · exact k.commandDone
  | playClip =>
    refine h.operationSettled fun _ k => ?_
    split
    · split
      · exact k.commandDone
      · split
        · exact k.commandDone
        · exact k.modPlayer.offerManagement
    · exact k.commandDone
  | alarmStart =>
    refine h.operationSettled fun _ k => ?_
    split
    · exact k.commandDone
    · exact k.startAlarm.alarmDone
  | alarmStop =>
    refine h.operationSettled fun _ k => ?_
    split
    · exact k.commandDone
    · exact k.stopAlarm.alarmDone
  | bankSwap => exact h.operationSettled fun _ k => k.exchangeBanks.commandDone
  | cueAdd =>
    refine h.operationSettled fun _ k => ?_
    split
    · exact k.commandDone
    · exact .ite k.commandDone k.modScene.commandDone
  | cueClear =>
    refine h.operationSettled fun _ k => ?_
    split
    · exact k.modScene.commandDone
    · exact .ite k.modScene.commandDone k.commandDone
  | clipOpen =>
    refine h.operationSettled fun _ k => ?_
    split
    · exact k.commandDone
    · refine .ite k.commandDone (.ite k.commandDone (.ite k.commandDone ?_))
      split
      · exact k.commandDone
      · exact k.setClip.modClips.commandDone
  | clipWrite =>
    refine h.operationSettled fun _ k => ?_
    split
    · exact k.commandDone
    · exact .ite k.commandDone (.ite k.commandDone (.ite k.commandDone k.modClips.queueWrite.count.commandDone))
  | clipClose =>
    refine h.operationSettled fun _ k => ?_
    split
    · exact k.commandDone
    · exact .ite k.commandDone (.ite k.setClip.modClips.queueDirectory.commandDone k.commandDone)
  | clipDelete =>
    refine h.operationSettled fun _ k => ?_
    split
    · exact k.commandDone
    · exact .ite k.commandDone (.ite k.commandDone (.ite k.deleteClip.commandDone k.commandDone))
  | saveImage => exact h.operationSettled fun _ k => .ite k.commandDone k.modControl.queueWrite.commandDone
  | softReset => exact h.finish.operation fun _ => .ite h.finish.commandDone h.finish.softResetAll.commandDone
  | reload => exact h.finish.operation fun hd => .ite h.finish.commandDone (h.finish.reloadAll hd)
  | reportEmission => exact h.takeDue fun _ k => k.emitReports

/-- A step whose command is no power-on reset retains what its command does. -/
theorem step_retains {s t : State} (hp : ∀ straps, s.pending.head? ≠ some (.powerOnReset straps))
    (h : step s = .next t) : Retains s t := by
  unfold step at h
  split at h
  · cases h
    exact .refl s
  · next c rest e =>
    have k := exec_retains c (fun straps hc => hp straps (by simp [e, hc])) (withQueue rest s)
    rw [h] at k
    exact (Retains.refl s).modPending.trans k

/-- After a power-on reset nothing is queued, and no port is UP (R22). -/
theorem powerOnReset_portsOk {straps : Byte} {s t : State} (h : exec (.powerOnReset straps) s = .next t) : portsOk t := by
  cases h
  intro p
  cases p <;> exact ⟨Nat.zero_le _, fun _ => ⟨rfl, rfl⟩⟩

/-- Settles O57: a power-on reset empties the ports, and any other step retains their bounds. -/
theorem portsKept : Obligations.PortsKept := by
  intro s t hs h
  by_cases hp : ∃ straps, s.pending.head? = some (.powerOnReset straps)
  · obtain ⟨straps, e⟩ := hp
    obtain ⟨rest, e⟩ := List.head?_eq_some_iff.mp e
    simp only [step, e] at h
    exact powerOnReset_portsOk h
  · exact (step_retains (fun straps e => hp ⟨straps, e⟩) h).ports hs

/-- Settles O60: every step but a power-on reset retains the node id and dormancy. -/
theorem identityKept : Obligations.IdentityKept := by
  intro s t hp h
  have k := step_retains hp h
  exact ⟨k.nodeId, fun hm hl => k.dormancy ⟨hm, hl⟩⟩

end Sys2Proof.Machine
end

section
namespace Sys2Proof.Machine

/-! ### What a count and a report leave of the counters (R202, R204) -/

theorem countsBut_refl (l : List Counter) (s : State) : countsBut l s s := fun _ _ => rfl

theorem countsBut_trans {l : List Counter} {s t u : State} (h : countsBut l s t) (k : countsBut l t u) :
    countsBut l s u := fun r hr => (k r hr).trans (h r hr)

theorem countsBut_mono {l m : List Counter} {s t : State} (hl : ∀ c ∈ l, c ∈ m) (h : countsBut l s t) :
    countsBut m s t := fun r hr => h r fun c hc => hr c (hl c hc)

theorem countsBut_of_counters {l : List Counter} {s t : State} (h : t.counters = s.counters) : countsBut l s t :=
  fun _ _ => by rw [h]

theorem count_countsBut {c : Counter} {l : List Counter} (hc : c ∈ l) (s : State) : countsBut l s (count c s) :=
  fun _ hr => tget_count_ne c s (hr c hc).symm

theorem countTimes_countsBut {c : Counter} {l : List Counter} (hc : c ∈ l) (n : Nat) (s : State) :
    countsBut l s (countTimes c n s) := by
  induction n generalizing s with
  | zero => exact countsBut_refl l s
  | succ n ih => exact countsBut_trans (count_countsBut hc s) (ih _)

theorem counterOf_countTimes (c : Counter) (n : Nat) (s : State) :
    counterOf (countTimes c n s) c = iterate saturatingSucc n (counterOf s c) := by
  induction n generalizing s with
  | zero => rfl
  | succ n ih => exact (ih _).trans (by rw [counterOf_count]; rfl)

theorem countsOne_of_counters {c : Counter} {s t : State} (h : t.counters = (count c s).counters) : countsOne c s t :=
  ⟨by rw [← counterOf_count]; exact congrArg (tget · _) h,
    fun r hr => by rw [h]; exact count_countsBut (l := [c]) (by simp) s r hr⟩

theorem countsOne_count (c : Counter) (s : State) : countsOne c s (count c s) := countsOne_of_counters rfl

theorem counterOf_of_countsBut {c : Counter} {l : List Counter} {s t : State} (h : countsBut l s t)
    (hc : ∀ d ∈ l, counterIx c ≠ counterIx d) : counterOf t c = counterOf s c := h _ hc

/-- Placing a report counts a coalesced or a dropped record, and nothing else (R202). -/
theorem report_countsBut (kind : ReportKind) (subject value : Nat) (s : State) :
    countsBut [.reportsCoalesced, .reportsDropped] s (report kind subject value s) := by
  unfold report
  dsimp only
  split_ifs
  · exact countsBut_refl _ s
  · exact count_countsBut (by simp) (modReports _ s)
  · exact countsBut_refl _ s
  · exact count_countsBut (by simp) (modReports _ s)

/-- What a report places depends on the mode, the period number and the report queue alone. -/
theorem report_reports_congr {s t : State} (kind : ReportKind) (subject value : Nat) (hm : t.control.mode = s.control.mode)
    (hp : t.ring.period = s.ring.period) (hr : t.reports = s.reports) :
    (report kind subject value t).reports = (report kind subject value s).reports := by
  unfold report
  simp only [hm, hp, hr]
  split_ifs <;> simp [count, hr]

@[simp] theorem report_ring (kind : ReportKind) (subject value : Nat) (s : State) :
    (report kind subject value s).ring = s.ring := report_keeps kind subject value s .ring (by simp)

@[simp] theorem count_ring (c : Counter) (s : State) : (count c s).ring = s.ring := rfl

@[simp] theorem countTimes_ring (c : Counter) (n : Nat) (s : State) : (countTimes c n s).ring = s.ring :=
  countTimes_keeps c n s .ring (by simp)

@[simp] theorem countTimes_reports (c : Counter) (n : Nat) (s : State) : (countTimes c n s).reports = s.reports :=
  countTimes_keeps c n s .reports (by simp)

/-! ### Serial order (R16) -/

theorem reached_iff (a c : Word32) : reached a c = true ↔ (c - a).toNat < 2 ^ 31 := decide_eq_true_iff

theorem laterThan_iff (a b : Word32) : laterThan a b = true ↔ 1 ≤ (a - b).toNat ∧ (a - b).toNat ≤ 2 ^ 31 - 1 := by
  simp only [laterThan, Bool.and_eq_true, decide_eq_true_iff]

theorem reached_eq_false_iff (a c : Word32) : reached a c = false ↔ 2 ^ 31 ≤ (c - a).toNat := by
  rw [← Bool.not_eq_true, reached_iff, not_lt]

/-- Settles O11, by the distance from one number to the other, modulo 2^32. -/
theorem serialOrder : Obligations.SerialOrder := by
  refine ⟨reached_iff, laterThan_iff, fun c => ?_, fun c d j h1 hd hj => ⟨?_, ?_⟩, fun c d j hd hj => ⟨?_, ?_⟩⟩
  all_goals simp only [reached_iff, reached_eq_false_iff]; bv_omega

end Sys2Proof.Machine
end

section
namespace Sys2Proof.Machine

/-! ### The arbiter and the output queues (R14, R15) -/

theorem takeUrgent_eq_none {q : List Frame} (h : ∀ x ∈ q, urgent x = false) : takeUrgent q = none := by
  induction q with
  | nil => rfl
  | cons x xs ih => simp [takeUrgent, h x, ih fun y hy => h y (List.mem_cons_of_mem _ hy)]

theorem takeUrgent_append {a b : List Frame} {f : Frame} (ha : ∀ x ∈ a, urgent x = false) (hf : urgent f = true) :
    takeUrgent (a ++ f :: b) = some (f, a ++ b) := by
  induction a with
  | nil => simp [takeUrgent, hf]
  | cons x xs ih => simp [takeUrgent, ha x, ih fun y hy => ha y (List.mem_cons_of_mem _ hy)]

theorem chooseFrame_urgent {a b : List Frame} {f : Frame} (ha : ∀ x ∈ a, urgent x = false) (hf : urgent f = true) :
    chooseFrame (a ++ f :: b) = some (f, a ++ b) := by simp [chooseFrame, takeUrgent_append ha hf]

theorem chooseFrame_earliest {f : Frame} {b : List Frame} (h : ∀ x ∈ f :: b, urgent x = false) :
    chooseFrame (f :: b) = some (f, b) := by simp [chooseFrame, takeUrgent_eq_none h]

/-- The only frame of a queue is chosen. -/
@[simp] theorem chooseFrame_singleton (f : Frame) : chooseFrame [f] = some (f, []) := by
  unfold chooseFrame
  cases h : urgent f <;> simp [takeUrgent, h]

/-- The port once the arbiter has had its turn on an idle transmitter (R15). -/
def sendNext (x : RingPort) : RingPort :=
  match chooseFrame x.queue with
  | some c => { x with queue := c.2, sending := some c.1 }
  | none => { x with sending := none }

theorem modPort_congr {p : Port} {f g : RingPort → RingPort} {s : State} (h : f (portOf s p) = g (portOf s p)) :
    modPort p f s = modPort p g s := by
  cases p <;> · simp only [portOf] at h; simp [modPort, modRing, h]

theorem modPort_modPort (p : Port) (f g : RingPort → RingPort) (s : State) :
    modPort p g (modPort p f s) = modPort p (fun x => g (f x)) s := by cases p <;> rfl

theorem modPort_count (p : Port) (f : RingPort → RingPort) (c : Counter) (s : State) :
    modPort p f (count c s) = count c (modPort p f s) := rfl

theorem modPort_id {p : Port} {f : RingPort → RingPort} {s : State} (h : f (portOf s p) = portOf s p) :
    modPort p f s = s := by
  rw [modPort_congr (g := id) (by simpa using h)]
  cases p <;> rfl

/-- The arbiter of a port that is UP and idle. -/
theorem arbitrate_of_idle {p : Port} {s : State} (hl : (portOf s p).link = .up) (hs : (portOf s p).sending = none) :
    arbitrate p s = modPort p sendNext s := by
  unfold arbitrate
  rw [if_pos ⟨hl, hs⟩]
  split
  · next f rest e => exact modPort_congr (by simp [sendNext, e])
  · next e => exact (modPort_id (by simp [sendNext, e, ← hs])).symm

theorem arbitrate_of_busy {p : Port} {s : State} (hs : (portOf s p).sending ≠ none) : arbitrate p s = s := by
  simp [arbitrate, hs]

/-- Settles O10: the transmitter is idle once the transmission has completed, and the arbiter has its turn. -/
theorem transmitComplete : Obligations.TransmitComplete := by
  refine ⟨fun _ _ _ => chooseFrame_urgent, fun _ _ => chooseFrame_earliest, fun p g s hq hl hs => ?_⟩
  have done : completeTransmission p s = count (.framesOut p) (modPort p sendNext s) := by
    unfold completeTransmission
    rw [if_pos (by simp [hs]), arbitrate_of_idle (by simpa using hl) (by simp), modPort_count, modPort_modPort]
    rfl
  refine ⟨count (.framesOut p) (modPort p sendNext s), ?_, rfl, countsOne_of_counters rfl, ?_⟩
  · rw [← done]
    exact congrArg (fun u => Host.Outcome.next (completeTransmission p u)) (settle_of_quiet hq)
  · exact keepsBut_trans (keepsBut_mono (by simp) (modPort_keeps p _ s)) (keepsBut_mono (by simp) (count_keeps _ _))

theorem offer_of_not_up {p : Port} {s : State} (f : Frame) (h : (portOf s p).link ≠ .up) :
    offer p f s = count (.linkDiscard p) s := by simp [offer, h]

theorem offer_of_full {p : Port} {s : State} (f : Frame) (hl : (portOf s p).link = .up)
    (hq : 32 ≤ (portOf s p).queue.length) : offer p f s = count (.queueFull p) s := by simp [offer, hl, hq]

theorem offer_of_shed {p : Port} {s : State} {f : Frame} (hl : (portOf s p).link = .up)
    (hq : (portOf s p).queue.length < 32) (ha : 28 ≤ (portOf s p).queue.length) (hk : f.kind = audioKind) :
    offer p f s = count (.audioShed p) s := by simp [offer, hl, hq, ha, hk]

theorem offer_of_admitted {p : Port} {s : State} {f : Frame} (hl : (portOf s p).link = .up)
    (hq : (portOf s p).queue.length < 32) (hk : f.kind ≠ audioKind ∨ (portOf s p).queue.length < 28) :
    offer p f s = arbitrate p (modPort p (fun x => { x with queue := x.queue ++ [f] }) s) := by
  unfold offer
  rw [if_neg (by simp [hl]), if_neg (by omega), if_neg (by rintro ⟨k, n⟩; exact hk.elim (· k) (by omega))]

/-- The arbiter leaves the other port alone. -/
theorem portOf_arbitrate_other (p : Port) (s : State) : portOf (arbitrate p s) (otherPort p) = portOf s (otherPort p) := by
  have ne : p ≠ otherPort p := by cases p <;> simp [otherPort]
  unfold arbitrate
  split_ifs
  · split
    · exact portOf_modPort_ne _ s ne
    · rfl
  · rfl

/-- Settles O9, by the rows of admission. -/
theorem forwardAndAdmit : Obligations.ForwardAndAdmit := by
  have counted : ∀ (c : Counter) (s t : State), t = count c s → countsOne c s t ∧ keepsBut [.counters] s t := by
    rintro c s t rfl
    exact ⟨countsOne_count c s, count_keeps c s⟩
  refine ⟨fun p f s => ⟨fun h => counted _ _ _ (by simp [forwardFrame, h]), fun n h => by simp [forwardFrame, h]⟩, ?_⟩
  refine fun p f s => ⟨fun hl => counted _ _ _ (offer_of_not_up f hl), fun hl hq => counted _ _ _ (offer_of_full f hl hq),
    fun hl hq ha hk => counted _ _ _ (offer_of_shed hl hq ha hk), fun hl hq hk => ?_⟩
  have ne : p ≠ otherPort p := by cases p <;> simp [otherPort]
  rw [offer_of_admitted hl hq hk]
  refine ⟨fun hs => ?_, fun hs he => ?_, ?_, ?_⟩
  · rw [arbitrate_of_busy (by simpa using hs)]
    simp
  · rw [arbitrate_of_idle (by simpa using hl) (by simpa using hs)]
    simp [sendNext, he]
  · rw [portOf_arbitrate_other, portOf_modPort_ne _ _ ne]
  · exact keepsBut_trans (modPort_keeps p _ s) (arbitrate_keeps p _)

/-! ### Link states (R1, R2) -/

theorem setLink_keeps (p : Port) (l : LinkState) (s : State) : keepsBut [.ring, .reports, .counters] s (setLink p l s) :=
  keepsBut_trans (keepsBut_mono (by simp) (modPort_keeps p _ s)) (keepsBut_mono (by simp) (report_keeps _ _ _ _))

theorem setLink_ring (p : Port) (l : LinkState) (s : State) :
    (setLink p l s).ring = (modPort p (fun x => { x with link := l }) s).ring := report_ring _ _ _ _

theorem setLink_countsBut (p : Port) (l : LinkState) (s : State) :
    countsBut [.reportsCoalesced, .reportsDropped] s (setLink p l s) :=
  report_countsBut .linkChange (portIx p) (linkCode l) (modPort p _ s)

/-- A change of a port leaves the period number. -/
@[simp] theorem modPort_period (p : Port) (f : RingPort → RingPort) (s : State) :
    (modPort p f s).ring.period = s.ring.period := by cases p <;> rfl

theorem setLink_reportedOnce (p : Port) (l : LinkState) (s : State) :
    reportedOnce .linkChange (portIx p) (linkCode l) s (setLink p l s) :=
  report_reports_congr _ _ _ rfl (by simp) rfl

/-- What a port that leaves UP loses: a frame in transmission counts once, and each queued frame (R2). -/
theorem dropTraffic_eq (p : Port) (cut : Bool) (s : State) : dropTraffic p cut s =
    modPort p (fun y => { y with queue := [], sending := none })
      (countTimes (.linkDiscard p) ((portOf s p).queue.length + if (portOf s p).sending.isSome then 1 else 0)
        (if cut then count (.badCheck p) s else s)) := by
  have swap : ∀ n u, countTimes (.linkDiscard p) n (modPort p (fun y => { y with queue := [], sending := none }) u) =
      modPort p (fun y => { y with queue := [], sending := none }) (countTimes (.linkDiscard p) n u) := by
    intro n
    induction n with
    | zero => exact fun _ => rfl
    | succ n ih => exact fun u => ih (count _ u)
  unfold dropTraffic
  dsimp only
  rw [swap]
  split_ifs <;> rfl

theorem dropTraffic_keeps (p : Port) (cut : Bool) (s : State) : keepsBut [.ring, .counters] s (dropTraffic p cut s) := by
  have hc : keepsBut [.ring, .counters] s (if cut then count (.badCheck p) s else s) := by
    split
    · exact keepsBut_mono (by simp) (count_keeps _ s)
    · exact keepsBut_refl _ s
  rw [dropTraffic_eq]
  exact keepsBut_trans hc (keepsBut_trans (keepsBut_mono (by simp) (countTimes_keeps _ _ _))
    (keepsBut_mono (by simp) (modPort_keeps p _ _)))

theorem dropTraffic_ring (p : Port) (cut : Bool) (s : State) : (dropTraffic p cut s).ring =
    (modPort p (fun y => { y with queue := [], sending := none }) s).ring := by
  have e : ∀ n c, (countTimes c n (if cut then count (.badCheck p) s else s)).ring = s.ring := by
    intro n c
    split <;> simp
  rw [dropTraffic_eq]
  simp only [modPort, modRing_ring, e]

theorem badCheck_ne_linkDiscard (p : Port) : counterIx (.badCheck p) ≠ counterIx (.linkDiscard p) := by
  cases p <;> decide

theorem dropTraffic_counts (p : Port) (cut : Bool) (s : State) :
    counterOf (dropTraffic p cut s) (.linkDiscard p) = iterate saturatingSucc
      ((portOf s p).queue.length + if (portOf s p).sending.isSome then 1 else 0) (counterOf s (.linkDiscard p)) ∧
    counterOf (dropTraffic p cut s) (.badCheck p) =
      (if cut then saturatingSucc (counterOf s (.badCheck p)) else counterOf s (.badCheck p)) ∧
    countsBut [.linkDiscard p, .badCheck p] s (dropTraffic p cut s) := by
  rw [dropTraffic_eq]
  generalize (portOf s p).queue.length + _ = n
  have bc : countsBut [.badCheck p] s (if cut then count (.badCheck p) s else s) := by
    split
    · exact count_countsBut (by simp) s
    · exact countsBut_refl _ s
  have ld : countsBut [.linkDiscard p] (if cut then count (.badCheck p) s else s)
      (countTimes (.linkDiscard p) n (if cut then count (.badCheck p) s else s)) := countTimes_countsBut (by simp) n _
  refine ⟨?_, ?_, countsBut_trans (countsBut_mono (by simp) bc) (countsBut_mono (by simp) ld)⟩
  · change counterOf (countTimes _ _ _) _ = _
    rw [counterOf_countTimes, counterOf_of_countsBut bc (by simpa using (badCheck_ne_linkDiscard p).symm)]
  · refine (counterOf_of_countsBut ld (by simpa using badCheck_ne_linkDiscard p)).trans ?_
    split <;> simp

theorem exec_signalDetected {p : Port} {s : State} (hq : quiet s) (hl : (portOf s p).link = .down) :
    exec (.signalDetected p) s = .next (setLink p .training s) := by
  simp [exec, execSignalDetected, settle_of_quiet hq, hl]

theorem exec_trainingComplete {p : Port} {s : State} (hq : quiet s) (hl : (portOf s p).link = .training) :
    exec (.trainingComplete p) s = .next (setLink p .up s) := by
  simp [exec, execTrainingComplete, settle_of_quiet hq, hl]

theorem exec_trainingTimeout {p : Port} {s : State} (hq : quiet s) (hl : (portOf s p).link = .training) :
    exec (.trainingTimeout p) s = .next (count (.trainingRetry p) s) := by
  simp [exec, execTrainingTimeout, settle_of_quiet hq, hl]

theorem exec_signalLost_training {p : Port} {s : State} (cut : Bool) (hq : quiet s) (hl : (portOf s p).link = .training) :
    exec (.signalLost p cut) s = .next (setLink p .down s) := by
  simp [exec, execSignalLost, loseSignal, settle_of_quiet hq, hl]

theorem exec_signalLost_up {p : Port} {s : State} (cut : Bool) (hq : quiet s) (hl : (portOf s p).link = .up) :
    exec (.signalLost p cut) s = .next (setLink p .down (dropTraffic p cut s)) := by
  simp [exec, execSignalLost, loseSignal, settle_of_quiet hq, hl]

/-- Settles O4, by the link states of R1; a port that leaves UP loses its traffic first (R2). -/
theorem linkStates : Obligations.LinkStates := by
  refine fun p s hq => ⟨fun hl => ⟨_, exec_signalDetected hq hl, setLink_ring _ _ _, setLink_reportedOnce _ _ _,
      setLink_countsBut _ _ _, setLink_keeps _ _ _⟩,
    fun hl => ⟨_, exec_trainingComplete hq hl, setLink_ring _ _ _, setLink_reportedOnce _ _ _,
      setLink_countsBut _ _ _, setLink_keeps _ _ _⟩,
    fun hl => ⟨_, exec_trainingTimeout hq hl, countsOne_count _ _, count_keeps _ _⟩,
    fun hl cut => ⟨_, exec_signalLost_training cut hq hl, setLink_ring _ _ _, setLink_reportedOnce _ _ _,
      setLink_countsBut _ _ _, setLink_keeps _ _ _⟩,
    fun hl cut => ⟨_, exec_signalLost_up cut hq hl, ?_⟩⟩
  have drop := dropTraffic_counts p cut s
  obtain ⟨discards, checks, others⟩ := drop
  have link := setLink_countsBut p .down (dropTraffic p cut s)
  have keeps := dropTraffic_keeps p cut s
  refine ⟨?_, ?_, ?_, ?_, ?_, ?_⟩
  · rw [setLink_ring]
    cases p <;> simp [modPort, dropTraffic_ring]
  · exact (setLink_reportedOnce p .down _).trans (report_reports_congr _ _ _ (congrArg (·.mode) (keeps .control (by simp)))
      (by simp [dropTraffic_ring]) (keeps .reports (by simp)))
  · rw [counterOf_of_countsBut link (by cases p <;> simp [counterIx, counterRow, portIx])]
    exact discards
  · rw [counterOf_of_countsBut link (by cases p <;> simp [counterIx, counterRow, portIx])]
    exact checks
  · exact countsBut_trans (countsBut_mono (by simp) others) (countsBut_mono (by simp) link)
  · exact keepsBut_trans (keepsBut_mono (by simp) keeps) (setLink_keeps _ _ _)

end Sys2Proof.Machine
end

section
namespace Sys2Proof.Machine

/-! ### Bytes and words (section 1.3) -/

theorem toByte_toNat (b : Byte) : toByte b.toNat = b := by simp [toByte]

theorem toNat_toByte (n : Nat) : (toByte n).toNat = n % 256 := by simp [toByte]

/-- The two bytes of the word that two bytes spell are those bytes. -/
theorem bytes16_word16 (a b : Byte) : bytes16 (a.toNat * 256 + b.toNat) = [a, b] := by
  have ha : toByte ((a.toNat * 256 + b.toNat) / 256) = a := by
    rw [show (a.toNat * 256 + b.toNat) / 256 = a.toNat by omega, toByte_toNat]
  have hb : toByte (a.toNat * 256 + b.toNat) = b := by
    rw [← toByte_toNat b]
    exact BitVec.eq_of_toNat_eq (by simp only [toNat_toByte]; omega)
  simp [bytes16, ha, hb]

@[simp] theorem length_bytes16 (n : Nat) : (bytes16 n).length = 2 := rfl
@[simp] theorem length_bytes32 (w : Word32) : (bytes32 w).length = 4 := rfl

theorem byteAt_zero (b : Byte) (l : List Byte) : byteAt (b :: l) 0 = b.toNat := rfl

@[simp] theorem byteAt_cons_succ (b : Byte) (l : List Byte) (i : Nat) : byteAt (b :: l) (i + 1) = byteAt l i := rfl

/-- A place behind the front of a run of bytes. -/
theorem byteAt_append {a : List Byte} (b : List Byte) (i : Nat) : byteAt (a ++ b) (a.length + i) = byteAt b i := by
  rw [byteAt, List.getD_append_right _ _ _ _ (by omega), Nat.add_sub_cancel_left, byteAt]

theorem word16At_append {a : List Byte} (b : List Byte) (i : Nat) : word16At (a ++ b) (a.length + i) = word16At b i := by
  simp only [word16At, Nat.add_assoc, byteAt_append]

theorem word32At_append {a : List Byte} (b : List Byte) (i : Nat) : word32At (a ++ b) (a.length + i) = word32At b i := by
  simp only [word32At, Nat.add_assoc, word16At_append]

/-- The word that the two bytes of a number spell. -/
theorem word16At_bytes16 {n : Nat} (h : n < 65536) (l : List Byte) : word16At (bytes16 n ++ l) 0 = n := by
  simp only [bytes16, word16At, List.cons_append, Nat.zero_add, byteAt_zero, byteAt_cons_succ, toNat_toByte]
  omega

/-- The word that the four bytes of a word spell. -/
theorem word32At_bytes32 (w : Word32) (l : List Byte) : word32At (bytes32 w ++ l) 0 = w.toNat := by
  have := w.isLt
  simp only [bytes32, word32At, word16At, List.cons_append, Nat.zero_add, byteAt_zero, byteAt_cons_succ, toNat_toByte]
  omega

/-! ### The integrity checks (R7) -/

theorem length_headerBytes (f : Frame) (hop len : Nat) : (headerBytes f hop len).length = 8 := rfl

/-- A run of at least eight bytes begins with the eight of a header. -/
theorem exists_header {l : List Byte} (h : 8 ≤ l.length) :
    ∃ k o d s1 s2 hop n1 n2 rest, l = k :: o :: d :: s1 :: s2 :: hop :: n1 :: n2 :: rest :=
  match l, h with
  | k :: o :: d :: s1 :: s2 :: hop :: n1 :: n2 :: rest, _ => ⟨k, o, d, s1, s2, hop, n1, n2, rest, rfl⟩

/-- The bytes that the check of a received frame covers are its header with the hop count at 0, and its payload (R3). -/
theorem checkedBytes_eq {l : List Byte} {n : Nat} (hl : l.length = 12 + n) (hn : n = word16At l 6) :
    l.take 5 ++ [0] ++ (l.drop 6).take (2 + n) = headerBytes (frameOf l) 0 ((l.drop 8).take n).length ++ (l.drop 8).take n := by
  obtain ⟨k, o, d, s1, s2, h, n1, n2, rest, rfl⟩ := exists_header (l := l) (by omega)
  have hr : n ≤ rest.length := by
    simp only [List.length_cons] at hl
    omega
  have seq : (frameOf (k :: o :: d :: s1 :: s2 :: h :: n1 :: n2 :: rest)).seq.toNat = s1.toNat * 256 + s2.toNat := by
    change (BitVec.ofNat 16 (s1.toNat * 256 + s2.toNat)).toNat = _
    have := s1.isLt; have := s2.isLt
    rw [BitVec.toNat_ofNat]; omega
  have len : (rest.take n).length = n1.toNat * 256 + n2.toNat := by
    rw [List.length_take, min_eq_left hr, hn]; rfl
  change [k, o, d, s1, s2] ++ [0] ++ (n1 :: n2 :: rest).take (2 + n) =
    [k, toByte o.toNat, toByte d.toNat] ++ bytes16 (frameOf (k :: o :: d :: s1 :: s2 :: h :: n1 :: n2 :: rest)).seq.toNat ++
      [toByte 0] ++ bytes16 (rest.take n).length ++ rest.take n
  rw [seq, len, bytes16_word16, bytes16_word16, toByte_toNat, toByte_toNat, Nat.add_comm 2 n]
  rfl

theorem frameCheck_eq {l : List Byte} (hl : l.length = 12 + word16At l 6) :
    frameCheck (frameOf l) ((l.drop 8).take (word16At l 6)) =
      crc32 (l.take 5 ++ [0] ++ (l.drop 6).take (2 + word16At l 6)) := by
  rw [frameCheck, checkedBytes_eq hl rfl]

theorem length_payload {l : List Byte} (hl : l.length = 12 + word16At l 6) :
    ((l.drop 8).take (word16At l 6)).length = word16At l 6 := by
  rw [List.length_take, List.length_drop]
  omega

/-- A byte of the payload is the byte eight places on of the frame. -/
theorem byteAt_payload {l : List Byte} {n i : Nat} (h : i < n) : byteAt ((l.drop 8).take n) i = byteAt l (8 + i) := by
  simp [byteAt, h]

/-- A whole frame is a runt by its bytes when its payload is one (R4). -/
theorem isRunt_iff {l : List Byte} (hl : l.length = 12 + word16At l 6) :
    isRunt (l.getD 0 0) ((l.drop 8).take (word16At l 6)) = true ↔ runtBytes l := by
  unfold isRunt runtBytes
  rw [length_payload hl]
  by_cases short : word16At l 6 < minPayload (l.getD 0 0)
  · simp only [short, decide_true, Bool.true_or, true_or]
  · simp only [short, decide_false, Bool.false_or, false_or, Bool.and_eq_true, Bool.or_eq_true, beq_iff_eq,
      decide_eq_true_iff, or_assoc]
    refine and_congr_right fun k => ?_
    have long : 150 ≤ word16At l 6 := by
      rw [k] at short
      exact not_lt.mp short
    rw [byteAt_payload (by omega)]

theorem integrity_of_oversize {l : List Byte} (h : 4160 < word16At l 6) : integrity l = .oversize := by
  simp [integrity, h]

theorem integrity_of_length {l : List Byte} (hs : word16At l 6 ≤ 4160) (h : l.length ≠ 12 + word16At l 6) :
    integrity l = .badCheck := by
  unfold integrity
  rw [if_neg (by omega), if_pos (by omega)]

theorem integrity_of_check {l : List Byte} (hs : word16At l 6 ≤ 4160) (hl : l.length = 12 + word16At l 6)
    (h : BitVec.ofNat 32 (word32At l (8 + word16At l 6)) ≠ frameCheck (frameOf l) ((l.drop 8).take (word16At l 6))) :
    integrity l = .badCheck := by
  rw [frameCheck_eq hl] at h
  unfold integrity
  rw [if_neg (by omega), if_neg (by omega), if_pos h]

/-- A whole frame whose check agrees, by its payload and its origin (R4, R7). -/
theorem integrity_of_whole {l : List Byte} (hs : word16At l 6 ≤ 4160) (hl : l.length = 12 + word16At l 6)
    (h : BitVec.ofNat 32 (word32At l (8 + word16At l 6)) = frameCheck (frameOf l) ((l.drop 8).take (word16At l 6))) :
    integrity l = if isRunt (l.getD 0 0) ((l.drop 8).take (word16At l 6)) then .runt
      else if byteAt l 1 = 0 ∨ byteAt l 1 = 255 then .badOrigin
      else .passed (frameOf l) ((l.drop 8).take (word16At l 6)) := by
  rw [frameCheck_eq hl] at h
  unfold integrity
  rw [if_neg (by omega), if_neg (by omega), if_neg (not_not.mpr h)]

theorem exec_frameReceived {p : Port} {s : State} (l : List Byte) (race : Race) (hq : quiet s) :
    exec (.frameReceived p l race) s = .next (if (portOf s p).link = .up then receiveFrame p l race s else s) := by
  simp [exec, execFrameReceived, settle_of_quiet hq, finish_of_quiet hq]

/-- Settles O5: what the checks find decides the one counter. -/
theorem integrityChecks : Obligations.IntegrityChecks := by
  intro p l race s hq
  rw [exec_frameReceived l race hq]
  refine ⟨fun hl => by rw [if_neg hl], fun up => ?_⟩
  have counted : ∀ c, receiveFrame p l race s = count c s →
      ∃ t, Host.Outcome.next (if (portOf s p).link = .up then receiveFrame p l race s else s) =
        (.next t : Host.Outcome State Fault Refusal) ∧ countsOne c s t ∧ keepsBut [.counters] s t := by
    intro c e
    exact ⟨count c s, by rw [if_pos up, e], countsOne_count c s, count_keeps c s⟩
  refine ⟨fun large => counted _ ?_, fun hs hl => counted _ ?_, fun hs hl hc => counted _ ?_, fun hs hl hc => ?_⟩
  · simp [receiveFrame, integrity_of_oversize large]
  · simp [receiveFrame, integrity_of_length hs hl]
  · simp [receiveFrame, integrity_of_check hs hl hc]
  · have whole := integrity_of_whole hs hl hc
    refine ⟨fun runt => counted _ ?_, fun sound ho => counted _ ?_, fun sound h0 h255 => ?_⟩
    · rw [if_pos ((isRunt_iff hl).mpr runt)] at whole
      simp [receiveFrame, whole]
    · rw [if_neg (mt (isRunt_iff hl).mp sound), if_pos ho] at whole
      simp [receiveFrame, whole]
    · rw [whole, if_neg (mt (isRunt_iff hl).mp sound), if_neg (by tauto)]

/-! ### The bytes of a frame laid out (R3, R13) -/

theorem length_wireBytes (f : Frame) : (wireBytes f).length = 12 + (payloadBytes f.body).length := by
  simp only [wireBytes, List.length_append, length_headerBytes, length_bytes32]
  omega

theorem word16At_wireBytes_length {f : Frame} (h : (payloadBytes f.body).length < 65536) :
    word16At (wireBytes f) 6 = (payloadBytes f.body).length := by
  have e : wireBytes f = [f.kind, toByte f.origin, toByte f.dest] ++ bytes16 f.seq.toNat ++ [toByte f.hop] ++
      (bytes16 (payloadBytes f.body).length ++ (payloadBytes f.body ++ bytes32 (frameCheck f (payloadBytes f.body)))) := by
    simp [wireBytes, headerBytes]
  rw [e]
  exact (word16At_append _ 0).trans (word16At_bytes16 h _)

theorem word16At_wireBytes_seq (f : Frame) : word16At (wireBytes f) 3 = f.seq.toNat := by
  have e : wireBytes f = [f.kind, toByte f.origin, toByte f.dest] ++ (bytes16 f.seq.toNat ++ ([toByte f.hop] ++
      bytes16 (payloadBytes f.body).length ++ (payloadBytes f.body ++ bytes32 (frameCheck f (payloadBytes f.body))))) := by
    simp [wireBytes, headerBytes]
  rw [e]
  exact (word16At_append _ 0).trans (word16At_bytes16 f.seq.isLt _)

theorem payload_wireBytes (f : Frame) :
    ((wireBytes f).drop 8).take (payloadBytes f.body).length = payloadBytes f.body := by
  have e : wireBytes f = headerBytes f f.hop (payloadBytes f.body).length ++
      (payloadBytes f.body ++ bytes32 (frameCheck f (payloadBytes f.body))) := by simp [wireBytes]
  rw [e, List.drop_left' (length_headerBytes _ _ _), List.take_left]

theorem check_wireBytes (f : Frame) : word32At (wireBytes f) (8 + (payloadBytes f.body).length) =
    (frameCheck f (payloadBytes f.body)).toNat := by
  have e : (headerBytes f f.hop (payloadBytes f.body).length ++ payloadBytes f.body).length =
      8 + (payloadBytes f.body).length := by rw [List.length_append, length_headerBytes]
  have k := word32At_append (a := headerBytes f f.hop (payloadBytes f.body).length ++ payloadBytes f.body)
    (bytes32 (frameCheck f (payloadBytes f.body))) 0
  rw [e] at k
  exact k.trans (by simpa using word32At_bytes32 (frameCheck f (payloadBytes f.body)) [])

/-- The fields read back from a frame laid out whose header fields fit are those of the frame. -/
theorem frameOf_wireBytes {f : Frame} (hn : (payloadBytes f.body).length < 65536) (ho : f.origin ≤ 255)
    (hd : f.dest ≤ 255) (hh : f.hop ≤ 63) :
    frameOf (wireBytes f) = { f with body := .bytes (payloadBytes f.body) } := by
  have len := word16At_wireBytes_length hn
  have org : byteAt (wireBytes f) 1 = f.origin := (toNat_toByte _).trans (by omega)
  have dst : byteAt (wireBytes f) 2 = f.dest := (toNat_toByte _).trans (by omega)
  have hop : byteAt (wireBytes f) 5 = f.hop := (toNat_toByte _).trans (by omega)
  unfold frameOf
  rw [len, payload_wireBytes, org, dst, hop, word16At_wireBytes_seq, min_eq_left hh]
  simp only [BitVec.ofNat_toNat, BitVec.setWidth_eq]
  rfl

/-- Settles O8: each check finds what the layout put there. -/
theorem wireRoundTrip : Obligations.WireRoundTrip := by
  intro f hn h1 h254 hd hh hr
  have len := word16At_wireBytes_length (f := f) (by omega)
  have frame := frameOf_wireBytes (f := f) (by omega) (by omega) hd hh
  have payload := payload_wireBytes f
  have length : (wireBytes f).length = 12 + word16At (wireBytes f) 6 := by rw [len, length_wireBytes]
  have org : byteAt (wireBytes f) 1 = f.origin := (toNat_toByte _).trans (by omega)
  have passed : integrity (wireBytes f) =
      .passed { f with body := .bytes (payloadBytes f.body) } (payloadBytes f.body) := by
    have check : BitVec.ofNat 32 (word32At (wireBytes f) (8 + word16At (wireBytes f) 6)) =
        frameCheck (frameOf (wireBytes f)) (((wireBytes f).drop 8).take (word16At (wireBytes f) 6)) := by
      rw [len, payload, check_wireBytes, frame]
      simp only [BitVec.ofNat_toNat, BitVec.setWidth_eq]
      rfl
    rw [integrity_of_whole (by omega) length check, len, payload, frame, org]
    have kind : (wireBytes f).getD 0 0 = f.kind := rfl
    rw [kind, hr, if_neg Bool.false_ne_true, if_neg (by omega)]
  refine ⟨passed, length_wireBytes f, fun b hb => ?_⟩
  rw [passed]
  obtain ⟨kind, origin, dest, seq, hop, body⟩ := f
  cases hb
  rfl

end Sys2Proof.Machine
end

section
namespace Sys2Proof.Machine

/-! ### Duplicates and hand-over (R10, R12) -/

theorem isNew_iff (e : OriginEntry) (seq : Word16) :
    isNew e seq = true ↔ e.valid = false ∨ (1 ≤ (seq - e.last).toNat ∧ (seq - e.last).toNat ≤ 32767) := by
  simp [isNew]

theorem takeFrame_of_new {p : Port} {f : Frame} {payload : List Byte} {race : Race} {s : State}
    (h : isNew (tget s.ring.origins (originIx f.origin)) f.seq = true) :
    takeFrame p f payload race s = handOver f payload race (count .framesTaken
      (modRing (fun r => { r with origins := tset r.origins (originIx f.origin) ⟨true, f.seq, 0⟩ }) s)) := by
  simp [takeFrame, h]

theorem takeFrame_of_duplicate {p : Port} {f : Frame} {payload : List Byte} {race : Race} {s : State}
    (h : isNew (tget s.ring.origins (originIx f.origin)) f.seq = false) :
    takeFrame p f payload race s = count (.duplicate p) s := by
  simp [takeFrame, h]

/-- Settles O7, by the two branches of the take path. -/
theorem duplicateSuppression : Obligations.DuplicateSuppression := by
  intro p f payload race s
  refine ⟨fun new => ?_, fun hv old => ?_⟩
  · refine ⟨_, takeFrame_of_new ((isNew_iff _ _).mpr new), rfl, countsOne_of_counters rfl, ?_⟩
    exact keepsBut_trans (keepsBut_mono (by simp) (keepsBut_modRing _ s)) (keepsBut_mono (by simp) (count_keeps _ _))
  · have dup : isNew (tget s.ring.origins (originIx f.origin)) f.seq = false := by
      rw [← Bool.not_eq_true, isNew_iff, hv]
      simpa using old
    rw [takeFrame_of_duplicate dup]
    exact ⟨countsOne_count _ s, count_keeps _ s⟩

/-! ### Classification (R8, R19, R20) -/

theorem receiveFrame_of_passed {l : List Byte} {f : Frame} {payload : List Byte} (h : integrity l = .passed f payload)
    (p : Port) (race : Race) (s : State) :
    receiveFrame p l race s = checkedFrame p f payload race (count (.framesIn p) s) := by simp [receiveFrame, h]

theorem checkedFrame_of_running {s : State} (h : running s = true) (p : Port) (f : Frame) (payload : List Byte)
    (race : Race) : checkedFrame p f payload race s = classify p f payload race s := by
  unfold running at h
  unfold checkedFrame
  cases hm : s.control.mode <;> simp_all

theorem checkedFrame_of_loading {s : State} (h : s.control.mode = .loading) (p : Port) (f : Frame) (payload : List Byte)
    (race : Race) : checkedFrame p f payload race s = classifyLoading p f s := by simp [checkedFrame, h]

theorem checkedFrame_of_unaddressed {s : State} (h : s.control.mode = .unaddressed) (p : Port) (f : Frame)
    (payload : List Byte) (race : Race) : checkedFrame p f payload race s = forwardFrame p f s := by simp [checkedFrame, h]

/-- Settles O6, by the rows of R8 and R20 and the kinds of R12. -/
theorem frameClasses : Obligations.FrameClasses := by
  refine ⟨fun p l race f payload s hq up hi => ?_, fun f payload race s => ?_⟩
  · have received : exec (.frameReceived p l race) s =
        .next (checkedFrame p f payload race (count (.framesIn p) s)) := by
      rw [exec_frameReceived l race hq, if_pos up, receiveFrame_of_passed hi]
    rw [received]
    refine ⟨fun hr => ?_, fun hm => ?_, fun hm => ?_⟩
    · rw [checkedFrame_of_running (s := count (.framesIn p) s) hr]
      unfold classify takeAndForward
      rw [count_ring]
      refine ⟨fun own => ?_, fun ne unknown => ?_, fun ne known here => ?_, fun ne known away all => ?_,
        fun ne known away some => ?_⟩
      · rw [if_pos own]
      · rw [if_neg ne, if_pos unknown]
      · rw [if_neg ne, if_neg (by simp [known]), if_pos here]
      · rw [if_neg ne, if_neg (by simp [known]), if_neg away, if_pos all]
      · rw [if_neg ne, if_neg (by simp [known]), if_neg away, if_neg some]
    · rw [checkedFrame_of_loading (s := count (.framesIn p) s) hm]
      unfold classifyLoading
      rw [count_ring]
      refine ⟨fun own => ?_, fun ne known here => ?_, fun ne away => ?_⟩
      · rw [if_pos own]
      · rw [if_neg ne, if_neg (by simp [known]), if_pos here]
      · rw [if_neg ne]
        split
        · rfl
        · next known =>
          rw [if_neg (away.resolve_left known)]
    · rw [checkedFrame_of_unaddressed (s := count (.framesIn p) s) hm]
  · refine ⟨fun h => ?_, fun h => ?_, fun h => ?_, fun h => ?_, fun h => ?_, fun h => ?_⟩
    iterate 5 · rw [handOver, h]; rfl
    · rcases h with h | h <;> · rw [handOver, h]; rfl

/-! ### Period timing (R5, R17) -/

@[simp] theorem setTiming_ring (x : Timing) (s : State) : (setTiming x s).ring = { s.ring with timing := x } := by
  unfold setTiming
  split
  · next h => rw [← h]
  · simp

theorem setTiming_keeps (x : Timing) (s : State) : keepsBut [.ring, .reports, .counters] s (setTiming x s) := by
  unfold setTiming
  split
  · exact keepsBut_refl _ s
  · exact keepsBut_trans (keepsBut_mono (by simp) (keepsBut_modRing _ s)) (keepsBut_mono (by simp) (report_keeps _ _ _ _))

theorem setTiming_countsBut (x : Timing) (s : State) : countsBut [.reportsCoalesced, .reportsDropped] s (setTiming x s) := by
  unfold setTiming
  split
  · exact countsBut_refl _ s
  · exact report_countsBut _ _ _ (modRing _ s)

theorem setTiming_of_same {x : Timing} {s : State} (h : s.ring.timing = x) : setTiming x s = s := if_pos h

/-- A change of the timing state is reported with the recorded master (R17, R18). -/
theorem setTiming_of_change {x : Timing} {s : State} (h : s.ring.timing ≠ x) :
    (setTiming x s).reports =
      (report .holdover s.ring.master (if x = .holdover then 1 else 0) { s with ring := (setTiming x s).ring }).reports := by
  rw [setTiming_ring, setTiming, if_neg h]
  rfl

/-- Settles O12: the beacon is adopted, and re-labels the boundary or makes one. -/
theorem beaconActs : Obligations.BeaconActs := by
  intro payload race s
  refine ⟨fun h => by simp [takeBeacon, h], fun h => ?_⟩
  have keeps : keepsBut [.ring, .reports, .counters] s (adoptBeacon payload s) :=
    keepsBut_trans (keepsBut_mono (by simp) (keepsBut_modRing _ s)) (setTiming_keeps .locked _)
  refine ⟨adoptBeacon payload s, setTiming_ring _ _, fun hl => ?_, fun hh => ?_, keeps, fun hw => ?_, fun hw => ?_⟩
  · unfold adoptBeacon
    rw [setTiming_of_same (by exact hl)]
    rfl
  · unfold adoptBeacon
    rw [setTiming_of_change (by simp [hh])]
    rfl
  · simp [takeBeacon, h, hw]
  · simp [takeBeacon, h, hw]

/-! ### An origin entry that ages out (R11) -/

/-- Settles O15: the entry is still valid and at age 250 when its change is carried out. -/
theorem originAgesOut : Obligations.OriginAgesOut := by
  intro k s hd hv ha
  have aged : agedOut (dropDue (.originAgeOut k) s) k = true := by simp [agedOut, dropDue, hv, ha]
  have drop : dropOrigin k (dropDue (.originAgeOut k) s) = modRing (fun r =>
      { r with origins := tmod r.origins k fun e => { e with valid := false } }) (dropDue (.originAgeOut k) s) := by
    rw [dropOrigin, if_pos aged]
  refine ⟨_, ⟨congrArg Host.Outcome.next ((takeDue_of_due _ hd).trans (congrArg closeIfDone drop)), rfl⟩, rfl, ?_⟩
  exact keepsBut_trans (keepsBut_mono (by simp) (keepsBut_modBoundary _ s)) (keepsBut_mono (by simp) (keepsBut_modRing _ _))

end Sys2Proof.Machine
end

section
namespace Sys2Proof.Machine

/-! ### The state after a power-on reset (R22) -/

theorem powerOn_mode (straps : Nat) : (State.powerOn straps).control.mode =
    if straps = 0 ∨ straps = 255 then .unaddressed else .loading := by
  by_cases h0 : straps = 0
  · subst h0
    rfl
  · by_cases h1 : straps = 255
    · subst h1
      rfl
    · simp [State.powerOn, h0, h1]

theorem portOf_powerOn (straps : Nat) (p : Port) : portOf (State.powerOn straps) p = ⟨.down, [], none⟩ := by cases p <;> rfl

@[simp] theorem listOf_powerOn (straps : Nat) (z : ZoneId) : listOf (State.powerOn straps) z = [] := tget_replicate _ _

@[simp] theorem claimAt_powerOn (straps : Nat) (c : ClaimId) : claimAt (State.powerOn straps) c = none := tget_replicate _ _

@[simp] theorem counterOf_powerOn (straps : Nat) (c : Counter) : counterOf (State.powerOn straps) c = 0 :=
  tget_replicate _ _

/-- Settles O2: the next state is the state after power-on, with the queue of commands. -/
theorem powerOnReset : Obligations.PowerOnReset := by
  intro straps s
  have id : straps.toNat = 0 ∨ straps.toNat = 255 ↔ straps = 0 ∨ straps = 255 := by
    constructor <;> rintro (h | h)
    · exact .inl (BitVec.eq_of_toNat_eq h)
    · exact .inr (BitVec.eq_of_toNat_eq h)
    · exact .inl (by simp [h])
    · exact .inr (by simp [h])
  have mode := powerOn_mode straps.toNat
  refine ⟨{ State.powerOn straps.toNat with pending := s.pending }, rfl, rfl, fun h => ?_, fun h0 h255 => ?_,
    portOf_powerOn straps.toNat, fun k => tget_replicate _ k, rfl, rfl, rfl, rfl, rfl, counterOf_powerOn straps.toNat,
    claimAt_powerOn straps.toNat, listOf_powerOn straps.toNat, rfl, rfl, rfl⟩
  · exact mode.trans (if_pos (id.mpr h))
  · exact mode.trans (if_neg fun h => (id.mp h).elim h0 h255)

/-- The built-in zone record and limiter gain lie in their ranges (R57). -/
theorem zonesOk_builtIn : zonesOk (Vector.replicate 24 ⟨defaultZone, 32768⟩) := by
  intro z
  rw [tget_replicate]
  decide

/-- Settles O55: every queue, list and record of State.reset is empty or built in. -/
theorem resetIsSafe : Obligations.ResetIsSafe := by
  have lists : ∀ z, listOf State.reset z = [] := listOf_powerOn 1
  refine ⟨⟨⟨Nat.zero_le _, .nil⟩, fun p => ?_, ⟨zonesOk_builtIn, fun v h => by cases h⟩, fun z => ?_, fun h => ?_⟩,
    fun z e he => ?_, fun z => ?_⟩
  · rw [State.reset, portOf_powerOn]
    exact ⟨Nat.zero_le _, fun _ => ⟨rfl, rfl⟩⟩
  · simp [lists z]
  · rw [State.reset, powerOn_mode] at h
    cases h
  · simp [lists z] at he
  · simp [lists z]

end Sys2Proof.Machine
end

section
namespace Sys2Proof.Machine

/-! ### What the work of a boundary leaves as it was -/

theorem judgeSlot_keeps (i : SlotId) (s : State) : keepsBut [.slots, .reports, .counters] s (judgeSlot i s) := by
  have m : ∀ f, keepsBut [.slots, .reports, .counters] s (modSlot i f s) :=
    fun f => keepsBut_mono (by simp) (modSlot_keeps i f s)
  have c : ∀ f x, keepsBut [.slots, .reports, .counters] s (count x (modSlot i f s)) :=
    fun f x => keepsBut_trans (m f) (keepsBut_mono (by simp) (count_keeps x _))
  unfold judgeSlot
  dsimp only
  split_ifs
  · exact keepsBut_refl _ s
  · exact keepsBut_trans (m _) (keepsBut_mono (by simp) (report_keeps _ _ _ _))
  · exact m _
  · exact c _ _
  · exact c _ _
  · exact keepsBut_refl _ s

theorem ageOrigins_keeps (s : State) : keepsBut [.ring] s (ageOrigins s) := keepsBut_modRing _ s

/-- The origin table aged, and every ring and station slot judged: the first work of a boundary (R11, R31). -/
@[irreducible] def judgedState (s : State) : State := forEach judgedSlots judgeSlot (ageOrigins s)

theorem judgeSlots_keeps (s : State) : keepsBut [.slots, .reports, .counters] s (forEach judgedSlots judgeSlot s) :=
  keepsBut_forEach judgeSlot_keeps _ s

theorem judgedState_keeps (s : State) : keepsBut [.ring, .slots, .reports, .counters] s (judgedState s) := by
  unfold judgedState
  exact keepsBut_trans (keepsBut_mono (by simp) (ageOrigins_keeps s)) (keepsBut_mono (by simp) (judgeSlots_keeps _))

theorem judgedState_ring (s : State) : (judgedState s).ring = (ageOrigins s).ring := by
  unfold judgedState
  exact judgeSlots_keeps _ .ring (by simp)

/-- An origin entry after a boundary (R11). -/
theorem tget_judgedState_origins (s : State) (k : OriginIx) : tget (judgedState s).ring.origins k =
    if (tget s.ring.origins k).valid then { tget s.ring.origins k with age := min 250 ((tget s.ring.origins k).age + 1) }
    else tget s.ring.origins k := by
  rw [judgedState_ring]
  exact tget_tmap _ _ _

/-- An entry reaches age 250 at the boundary that finds it at 249 or more (R11). -/
theorem agedOut_judgedState (s : State) (k : OriginIx) : agedOut (judgedState s) k = true ↔
    (tget s.ring.origins k).valid = true ∧ 249 ≤ (tget s.ring.origins k).age := by
  unfold agedOut
  rw [tget_judgedState_origins]
  split
  · next h => simp [h]
  · next h => simp [h]

/-- The first changes that a boundary makes due: entries that age out, and slots that are lost (R11, R31). -/
def firstDues (s : State) : List Due :=
  ((everyFin 254).filter (agedOut (judgedState s))).map Due.originAgeOut ++ slotDues s

theorem losesSource_congr {s t : State} (h : t.slots = s.slots) (i : SlotId) : losesSource t i = losesSource s i := by
  unfold losesSource
  rw [h]

theorem slotDues_congr {s t : State} (h : t.slots = s.slots) : slotDues t = slotDues s := by
  simp only [slotDues, funext (losesSource_congr h)]

theorem openBoundary_eq (race : Race) (s : State) : openBoundary race s =
    closeIfDone (if running s then runBoundary race (firstDues s) (judgedState s)
      else modBoundary (fun _ => ⟨true, firstDues s, [], { race with meanwhile := 0 }⟩) (idleBlocks (judgedState s))) := by
  have r : running (judgedState s) = running s := by
    unfold running
    rw [judgedState_keeps s .control (by simp)]
  unfold openBoundary firstDues
  rw [← r, ← slotDues_congr (ageOrigins_keeps s .slots (by simp))]
  unfold judgedState
  rfl

/-! ### A boundary in LOADING or UNADDRESSED -/

theorem idleBlocks_keeps (s : State) : keepsBut [.slots, .mix, .intercom, .lines] s (idleBlocks s) := by
  have gens : keepsBut [.slots, .mix, .intercom, .lines] s
      (forEach (everyFin 5) (fun i => writeGenerator ⟨27 + i.val, by omega⟩ silence) s) :=
    keepsBut_forEach (fun i u => keepsBut_mono (by simp) (modSlot_keeps _ _ u)) _ s
  unfold idleBlocks discardReturns silenceLanes
  exact keepsBut_trans gens (keepsBut_trans (keepsBut_mono (by simp) (keepsBut_modMix _ _))
    (keepsBut_trans (keepsBut_mono (by simp) (keepsBut_modIntercom _ _))
      (keepsBut_trans (keepsBut_mono (by simp) (keepsBut_modLines _ _)) (keepsBut_mono (by simp) (keepsBut_modLines _ _)))))

/-- The mix, the intercom and the lanes after the work of an idle boundary: silence, and nothing else changed. -/
theorem idleBlocks_parts (s : State) :
    (idleBlocks s).mix = { s.mix with zoneOut := Vector.replicate 24 silence } ∧
    (idleBlocks s).intercom = { s.intercom with
      stations := tmap (fun _ y => { y with speaker := silence }) s.intercom.stations } ∧
    (idleBlocks s).lines = { s.lines with
      lanes := tmap (fun _ y => { y with back := none }) s.lines.lanes
      laneOut := Vector.replicate 28 silence } := by
  have gens : keepsBut [.slots] s (forEach (everyFin 5) (fun i => writeGenerator ⟨27 + i.val, by omega⟩ silence) s) :=
    keepsBut_forEach (fun i u => modSlot_keeps _ _ u) _ s
  have mix := gens .mix (by simp)
  have intercom := gens .intercom (by simp)
  have lines := gens .lines (by simp)
  simp only [agree] at mix intercom lines
  simp [idleBlocks, silenceLanes, discardReturns, mix, intercom, lines]

theorem running_eq_of_control {s t : State} (h : t.control = s.control) : running t = running s := by
  unfold running
  rw [h]

/-- A boundary of a part that does not run, where nothing falls due, ends at once. -/
theorem openBoundary_idle {race : Race} {s : State} (hr : running s = false) (hd : firstDues s = []) :
    openBoundary race s = modBoundary (fun _ => closedBoundary) (idleBlocks (judgedState s)) := by
  have control : (idleBlocks (judgedState s)).control = s.control :=
    (idleBlocks_keeps _ .control (by simp)).trans (judgedState_keeps s .control (by simp))
  rw [openBoundary_eq, hr, hd, if_neg Bool.false_ne_true]
  generalize idleBlocks (judgedState s) = u at control ⊢
  have r : running u = false := (running_eq_of_control control).trans hr
  rw [closeIfDone_of_done rfl rfl rfl, closeBoundary]
  exact if_neg (by simpa [running] using r)

/-- The state that the period timer leaves for the boundary of the blocks (R18). -/
def timedState (s : State) : State :=
  count .localBoundaries (setTiming .holdover (modRing (fun r => { r with period := r.period + 1, window := true }) s))

theorem exec_localBoundary {s : State} (race : Race) (hq : quiet s) :
    exec (.localBoundary race) s = .next (openBoundary race (timedState s)) := by
  simp [exec, execLocalBoundary, finish_of_quiet hq, localBoundary, timedState]

theorem timedState_ring (s : State) :
    (timedState s).ring = { s.ring with period := s.ring.period + 1, timing := .holdover, window := true } := by
  simp [timedState]

theorem timedState_keeps (s : State) : keepsBut [.ring, .reports, .counters] s (timedState s) :=
  keepsBut_trans (keepsBut_mono (by simp) (keepsBut_modRing _ s))
    (keepsBut_trans (setTiming_keeps _ _) (keepsBut_mono (by simp) (count_keeps _ _)))

theorem firstDues_eq_nil {s : State} (hs : ∀ i, losesSource s i = false)
    (ho : ∀ k : OriginIx, (tget s.ring.origins k).valid = true → (tget s.ring.origins k).age < 249) : firstDues s = [] := by
  have aged : (everyFin 254).filter (agedOut (judgedState s)) = [] :=
    List.filter_eq_nil_iff.mpr fun k _ h => by
      obtain ⟨v, a⟩ := (agedOut_judgedState s k).mp h
      exact absurd (ho k v) (not_lt.mpr a)
  simp [firstDues, slotDues, aged, hs]

/-- Settles O14: with nothing due the idle boundary ends at once, and its work is silence. -/
theorem idleBoundary : Obligations.IdleBoundary := by
  intro race s hq hr hs ho
  have timed := timedState_keeps s
  have ring := timedState_ring s
  have due : firstDues (timedState s) = [] := firstDues_eq_nil
    (fun i => (losesSource_congr (timed .slots (by simp)) i).trans (hs i)) (by rw [ring]; exact ho)
  have r : running (timedState s) = false := (running_eq_of_control (timed .control (by simp))).trans hr
  have judged : keepsBut [.ring, .slots, .reports, .counters] s (judgedState (timedState s)) :=
    keepsBut_trans (keepsBut_mono (by simp) timed) (judgedState_keeps _)
  have idle := idleBlocks_keeps (judgedState (timedState s))
  obtain ⟨mix, intercom, lines⟩ := idleBlocks_parts (judgedState (timedState s))
  rw [judged .mix (by simp)] at mix
  rw [judged .intercom (by simp)] at intercom
  rw [judged .lines (by simp)] at lines
  have iring : (idleBlocks (judgedState (timedState s))).ring = (judgedState (timedState s)).ring := idle .ring (by simp)
  refine ⟨_, (exec_localBoundary race hq).trans (congrArg _ (openBoundary_idle r due)), ⟨rfl, rfl⟩, ?_, fun k hv => ?_,
    fun z => ?_, ?_, ?_, fun l => ?_, fun l => ?_, ?_, fun st => ⟨?_, ?_⟩, ?_, ?_⟩
  · rw [modBoundary_ring, iring, judgedState_ring]
    simp [ageOrigins, ring]
  · have young := ho k hv
    rw [modBoundary_ring, iring, tget_judgedState_origins, ring, if_pos hv]
    exact min_eq_right (Nat.succ_le_of_lt (young.trans (by omega)))
  · simp [mix]
  · simp [mix]
  · simp [mix]
  · simp [lines]
  · simp [recordOf, lines]
  · simp [lines]
  · simp [stationOf, intercom]
  · simp [stationOf, intercom]
  · simp [intercom]
  · exact keepsBut_trans (keepsBut_mono (by simp) judged) (keepsBut_trans (keepsBut_mono (by simp) idle)
      (keepsBut_mono (by simp) (keepsBut_modBoundary _ _)))

end Sys2Proof.Machine
end

section
namespace Sys2Proof.Machine

theorem keepsBut_ite {c : Prop} [Decidable c] {l : List Part} {s t u : State} (h : keepsBut l s t) (k : keepsBut l s u) :
    keepsBut l s (if c then t else u) := by
  split
  · exact h
  · exact k

/-! ### A walk of changes, each of an entry of its own -/

/-- A walk whose changes each act on the entry of their own item alone, as they would on the state s: the entry of an item
of the walk is then what the one change makes of it in s, and every other entry is as it was. What else a change reads is
part of `I`. -/
theorem get_forEach_own {α β : Type} {get : State → α → β} {f : α → State → State} {I : State → Prop} {s : State}
    (own : ∀ a u, I u → get u a = get s a →
      I (f a u) ∧ get (f a u) a = get (f a s) a ∧ ∀ b, a ≠ b → get (f a u) b = get u b)
    {l : List α} (hl : l.Nodup) {t : State} (ht : I t) (e : ∀ a ∈ l, get t a = get s a) :
    I (forEach l f t) ∧ (∀ a ∈ l, get (forEach l f t) a = get (f a s) a) ∧
      ∀ a, a ∉ l → get (forEach l f t) a = get t a := by
  induction l generalizing t with
  | nil => exact ⟨ht, by simp, by simp⟩
  | cons a l ih =>
    obtain ⟨ha, hl⟩ := List.nodup_cons.mp hl
    obtain ⟨hi, at_a, off_a⟩ := own a t ht (e a List.mem_cons_self)
    have ne : ∀ b ∈ l, a ≠ b := fun b hb h => ha (h ▸ hb)
    obtain ⟨ii, inl, outl⟩ := ih hl hi (fun b hb => (off_a b (ne b hb)).trans (e b (List.mem_cons_of_mem _ hb)))
    refine ⟨ii, fun b hb => ?_, fun b hb => ?_⟩
    · rcases List.mem_cons.mp hb with rfl | hb
      · exact (outl b ha).trans at_a
      · exact inl b hb
    · exact (outl b fun h => hb (List.mem_cons_of_mem _ h)).trans (off_a b fun h => hb (h ▸ List.mem_cons_self))

/-! ### The slots that are judged (R31) -/

@[simp] theorem report_slots (kind : ReportKind) (subject value : Nat) (s : State) :
    (report kind subject value s).slots = s.slots := report_keeps kind subject value s .slots (by simp)

@[simp] theorem count_slots (c : Counter) (s : State) : (count c s).slots = s.slots := rfl

theorem tget_judgeSlot_congr {s t : State} {i : SlotId} (h : tget t.slots i = tget s.slots i) :
    tget (judgeSlot i t).slots i = tget (judgeSlot i s).slots i := by
  unfold judgeSlot
  dsimp only
  rw [h]
  split_ifs <;> simp [h]

theorem tget_judgeSlot_ne {i j : SlotId} (s : State) (h : i ≠ j) : tget (judgeSlot i s).slots j = tget s.slots j := by
  unfold judgeSlot
  dsimp only
  split_ifs <;> simp [tget_modSlot_ne _ _ h]

theorem judgedSlots_nodup : judgedSlots.Nodup := (List.nodup_finRange 32).filter _

theorem mem_judgedSlots (i : SlotId) : i ∈ judgedSlots ↔ i.val < 27 := by simp [judgedSlots]

/-- Each ring and station slot is judged as it was before the boundary, and the generators' slots are left. -/
theorem tget_judgedState_slots (s : State) :
    (∀ i : SlotId, i.val < 27 → tget (judgedState s).slots i = tget (judgeSlot i s).slots i) ∧
      ∀ i : SlotId, 27 ≤ i.val → tget (judgedState s).slots i = tget s.slots i := by
  unfold judgedState
  have aged : (ageOrigins s).slots = s.slots := ageOrigins_keeps s .slots (by simp)
  obtain ⟨-, judged, rest⟩ := get_forEach_own (get := fun u i => tget u.slots i) (I := fun _ => True) (s := s)
    (fun i u _ h => ⟨trivial, tget_judgeSlot_congr h, fun j ne => tget_judgeSlot_ne u ne⟩) judgedSlots_nodup
    (t := ageOrigins s) trivial (fun i _ => congrArg (tget · i) aged)
  refine ⟨fun i hi => judged i ((mem_judgedSlots i).mpr hi), fun i hi => ?_⟩
  rw [← aged]
  exact rest i (fun h => absurd ((mem_judgedSlots i).mp h) (not_lt.mpr hi))

/-! ### Stage 1 of the line supervisor (R180, R186) -/

@[simp] theorem count_lines (c : Counter) (s : State) : (count c s).lines = s.lines := rfl

theorem modLane_keeps (l : LaneId) (f : Lane → Lane) (s : State) : keepsBut [.lines] s (modLane l f s) :=
  keepsBut_modLines _ s

theorem modLane_lines (l : LaneId) (f : Lane → Lane) (s : State) :
    (modLane l f s).lines = { s.lines with lanes := tmod s.lines.lanes l f } := rfl

theorem accumulateLane_keeps (l : LaneId) (s : State) : keepsBut [.lines, .counters] s (accumulateLane l s) := by
  have m : ∀ f, keepsBut [.lines, .counters] s (modLane l f s) :=
    fun f => keepsBut_mono (by simp) (modLane_keeps l f s)
  have r : ∀ f g, keepsBut [.lines, .counters] s (modRecord l g (modLane l f s)) :=
    fun f g => keepsBut_trans (m f) (keepsBut_mono (by simp) (modLane_keeps l _ _))
  have c : ∀ u x, keepsBut [.lines, .counters] s u → keepsBut [.lines, .counters] s (count x u) :=
    fun u x h => keepsBut_trans h (keepsBut_mono (by simp) (count_keeps x u))
  unfold accumulateLane
  dsimp only
  split
  · split
    · exact c _ _ (m _)
    · split
      · exact c _ _ (r _ _)
      · exact c _ _ (r _ _)
      · exact r _ _
  · exact m _

/-- A lane once its return is taken: accumulated where the lane is supervised (R180). -/
def accumulated (watched : Bool) (x : Lane) : Lane :=
  match watched, x.back with
  | true, some (load, amp) => ⟨addReturn load amp x.record, none⟩
  | _, _ => { x with back := none }

theorem tmod_congr {α : Type} {n : Nat} {v : Vector α n} {i : Fin n} {f g : α → α} (h : f (tget v i) = g (tget v i)) :
    tmod v i f = tmod v i g := by
  unfold tmod
  rw [h]

theorem tmod_tmod {α : Type} {n : Nat} (v : Vector α n) (i : Fin n) (f g : α → α) :
    tmod (tmod v i f) i g = tmod v i (fun x => g (f x)) := by
  apply table_ext
  intro j
  simp only [tget_tmod]
  split <;> rfl

/-- An accumulated return changes the one lane. -/
theorem accumulateLane_lines (l : LaneId) (s : State) : (accumulateLane l s).lines =
    { s.lines with lanes := tmod s.lines.lanes l (accumulated (isSupervised s l)) } := by
  unfold accumulateLane
  dsimp only
  split
  · next watched =>
    split
    · next back =>
      rw [count_lines, modLane_lines]
      exact congrArg (fun v => ({ s.lines with lanes := v } : Lines)) (tmod_congr (by simp [accumulated, watched, back]))
    · next load amp back =>
      have added : (modRecord l (addReturn load amp) (modLane l (fun x => { x with back := none }) s)).lines =
          { s.lines with lanes := tmod s.lines.lanes l (accumulated (isSupervised s l)) } := by
        simp only [modRecord, modLane_lines, tmod_tmod]
        exact congrArg (fun v => ({ s.lines with lanes := v } : Lines)) (tmod_congr (by simp [accumulated, watched, back]))
      split
      · exact added
      · exact added
      · exact added
  · next unwatched =>
    rw [modLane_lines]
    exact congrArg (fun v => ({ s.lines with lanes := v } : Lines)) (tmod_congr (by simp [accumulated, unwatched]))

theorem accumulated_state (b : Bool) (x : Lane) : (accumulated b x).record.state = x.record.state := by
  unfold accumulated
  split <;> rfl

theorem lineStage1_keeps (s : State) : keepsBut [.lines, .counters] s (lineStage1 s) := by
  have m : ∀ f u, keepsBut [.lines, .counters] u (modLines f u) := fun f u => keepsBut_mono (by simp) (keepsBut_modLines f u)
  unfold lineStage1
  split
  · exact keepsBut_trans (m _ _) (keepsBut_trans (m _ _) (m _ _))
  · exact keepsBut_trans (keepsBut_forEach accumulateLane_keeps _ s) (m _ _)

/-- The lanes' part of the boundary after a load, whose windows begin (R186). -/
theorem lineStage1_lines_of_fresh {s : State} (h : s.lines.freshStart = true) : (lineStage1 s).lines =
    { s.lines with
      windowCount := 0
      freshStart := false
      lanes := tmap (fun l y => ⟨{ clearAccumulators y.record with whole := isSupervised s l }, none⟩) s.lines.lanes } := by
  have twice : tmap (fun _ (y : Lane) => { y with back := none }) (tmap (fun l y =>
      { y with record := { clearAccumulators y.record with whole := supervised s.mix.zones l } }) s.lines.lanes) =
      tmap (fun l y => ⟨{ clearAccumulators y.record with whole := isSupervised s l }, none⟩) s.lines.lanes := by
    apply table_ext
    simp [isSupervised]
  simp [lineStage1, h, beginWindows, discardReturns, startWindows, twice]

/-- The lanes' part of every other boundary: each return is taken, and the window count rises (R180). -/
theorem lineStage1_lines_of_not_fresh {s : State} (h : s.lines.freshStart = false) : (lineStage1 s).lines =
    { s.lines with
      windowCount := s.lines.windowCount + 1
      lanes := tmap (fun l y => accumulated (isSupervised s l) y) s.lines.lanes } := by
  have own : ∀ (l : LaneId) (u : State), (u.mix = s.mix ∧ u.lines = { s.lines with lanes := u.lines.lanes }) →
      tget u.lines.lanes l = tget s.lines.lanes l →
      ((accumulateLane l u).mix = s.mix ∧
        (accumulateLane l u).lines = { s.lines with lanes := (accumulateLane l u).lines.lanes }) ∧
      tget (accumulateLane l u).lines.lanes l = tget (accumulateLane l s).lines.lanes l ∧
      ∀ m, l ≠ m → tget (accumulateLane l u).lines.lanes m = tget u.lines.lanes m := by
    rintro l u ⟨mix, lines⟩ lane
    refine ⟨⟨(accumulateLane_keeps l u .mix (by simp)).trans mix, ?_⟩, ?_, fun m ne => ?_⟩
    · rw [accumulateLane_lines, lines]
    · simp [accumulateLane_lines, lane, isSupervised, mix]
    · simp [accumulateLane_lines, tget_tmod_ne _ _ ne]
  obtain ⟨⟨-, lines⟩, walked, -⟩ := get_forEach_own own (List.nodup_finRange 28) ⟨rfl, rfl⟩ (fun _ _ => rfl)
  rw [lineStage1, if_neg (by simp [h]), modLines_lines]
  generalize forEach (everyFin 28) accumulateLane s = u at lines walked ⊢
  have lanes : u.lines.lanes = tmap (fun l y => accumulated (isSupervised s l) y) s.lines.lanes := by
    apply table_ext
    intro l
    rw [walked l (by simp)]
    simp [accumulateLane_lines]
  have walk : u.lines = { s.lines with lanes := tmap (fun l y => accumulated (isSupervised s l) y) s.lines.lanes } :=
    lines.trans (congrArg (fun v => ({ s.lines with lanes := v } : Lines)) lanes)
  exact congrArg (fun x : Lines => { x with windowCount := x.windowCount + 1 }) walk

/-- Stage 1 of the lines leaves the line states, the unheard flags and the lanes' blocks. -/
theorem lineStage1_leaves (s : State) : (lineStage1 s).lines.freshStart = false ∧
    (lineStage1 s).lines.unheard = s.lines.unheard ∧ (lineStage1 s).lines.laneOut = s.lines.laneOut ∧
    tmap (fun _ x => x.record.state) (lineStage1 s).lines.lanes = tmap (fun _ x => x.record.state) s.lines.lanes := by
  cases h : s.lines.freshStart with
  | true =>
    rw [lineStage1_lines_of_fresh h]
    exact ⟨rfl, rfl, rfl, table_ext fun l => by simp [clearAccumulators]⟩
  | false =>
    rw [lineStage1_lines_of_not_fresh h]
    exact ⟨h, rfl, rfl, table_ext fun l => by simp [accumulated_state]⟩

/-! ### The scene unit's stages (R67, R69) -/

theorem evaluateHold_keeps (s : State) : keepsBut [.scene, .reports, .counters] s (evaluateHold s) := by
  have r : ∀ k x v u, keepsBut [.scene, .reports, .counters] u (report k x v u) :=
    fun k x v u => keepsBut_mono (by simp) (report_keeps k x v u)
  have z : ∀ held z u, keepsBut [.scene, .reports, .counters] u (evaluateZone held z u) :=
    fun held z u => keepsBut_ite (keepsBut_refl _ u) (r _ _ _ u)
  unfold evaluateHold
  have walk := keepsBut_trans (keepsBut_forEach (z s.scene.held) (everyFin 24) s)
    (keepsBut_mono (by simp) (keepsBut_modScene (fun x => { x with held := Vector.ofFn fun z => showHold s z }) _))
  dsimp only
  split
  · exact walk
  · exact keepsBut_trans walk (r _ _ _ _)

end Sys2Proof.Machine
end

section
namespace Sys2Proof.Machine

/-! ### The scene unit's stages and the claims' count (R67, R69, R87, R93) -/

/-- The evaluation of show hold writes the held zones, and of the scene nothing else (R69). -/
theorem evaluateHold_scene (s : State) :
    (evaluateHold s).scene = { s.scene with held := Vector.ofFn fun z => showHold s z } := by
  have z : ∀ held z u, keepsBut [.reports, .counters] u (evaluateZone held z u) :=
    fun held z u => keepsBut_ite (keepsBut_refl _ u) (report_keeps _ _ _ u)
  have walk := keepsBut_forEach (z s.scene.held) (everyFin 24) s .scene (by simp)
  have last : ∀ k x v u, (report k x v u).scene = u.scene := fun k x v u => report_keeps k x v u .scene (by simp)
  unfold evaluateHold
  dsimp only
  split
  · rw [modScene_scene, walk]
  · rw [last, modScene_scene, walk]

theorem evaluateHold_scene_congr {s t : State} (scene : t.scene = s.scene) (mix : t.mix = s.mix)
    (claims : t.claims = s.claims) : (evaluateHold t).scene = (evaluateHold s).scene := by
  rw [evaluateHold_scene, evaluateHold_scene, scene]
  unfold showHold onAirPriority listOf
  rw [mix, claims]

theorem setTarget_keeps (x : FadeTarget) (c : Code) (s : State) : keepsBut [.scene, .mix] s (setTarget x c s) := by
  cases x with
  | crosspoint z i => exact keepsBut_mono (by simp) (keepsBut_modScene _ s)
  | master z => exact keepsBut_mono (by simp) (keepsBut_modMix _ s)

theorem setTarget_taper (x : FadeTarget) (c : Code) (s : State) : (setTarget x c s).mix.taper = s.mix.taper := by
  cases x <;> rfl

theorem stepFade_keeps (f : Fade) (s : State) : keepsBut [.scene, .mix] s (stepFade f s) :=
  keepsBut_ite (keepsBut_refl _ s)
    (keepsBut_trans (keepsBut_mono (by simp) (keepsBut_modScene _ s)) (setTarget_keeps _ _ _))

theorem stepFade_taper (f : Fade) (s : State) : (stepFade f s).mix.taper = s.mix.taper := by
  unfold stepFade
  split
  · rfl
  · rw [setTarget_taper, modScene_mix]

theorem stepFades_keeps (s : State) : keepsBut [.scene, .mix] s (stepFades s) :=
  keepsBut_ite (keepsBut_refl _ s) (keepsBut_forEach stepFade_keeps _ s)

theorem stepFades_taper (s : State) : (stepFades s).mix.taper = s.mix.taper := by
  unfold stepFades
  split
  · rfl
  · exact forEach_induct (fun u => u.mix.taper = s.mix.taper) stepFade _ (fun f _ u h => (stepFade_taper f u).trans h) s rfl

theorem stepFade_congr (f : Fade) {s t : State} (scene : t.scene = s.scene) (mix : t.mix = s.mix) :
    (stepFade f t).scene = (stepFade f s).scene ∧ (stepFade f t).mix = (stepFade f s).mix := by
  unfold stepFade
  split
  · exact ⟨scene, mix⟩
  · cases f.target <;> simp [setTarget, scene, mix]

theorem stepFades_congr {s t : State} (scene : t.scene = s.scene) (mix : t.mix = s.mix) :
    (stepFades t).scene = (stepFades s).scene ∧ (stepFades t).mix = (stepFades s).mix := by
  have walk : ∀ (l : List Fade) (s t : State), t.scene = s.scene → t.mix = s.mix →
      (forEach l stepFade t).scene = (forEach l stepFade s).scene ∧
        (forEach l stepFade t).mix = (forEach l stepFade s).mix := by
    intro l
    induction l with
    | nil => exact fun s t h k => ⟨h, k⟩
    | cons f l ih =>
      intro s t h k
      obtain ⟨hs, hm⟩ := stepFade_congr f h k
      exact ih _ _ hs hm
  unfold stepFades suspended
  rw [scene]
  split
  · exact ⟨scene, mix⟩
  · exact walk _ s t scene mix

theorem countClaims_keeps (s : State) : keepsBut [.claims] s (countClaims s) := keepsBut_modClaims _ s

/-! ### The chime generator (R86) -/

theorem chimeWork_keeps (s : State) : keepsBut [.claims, .slots] s (chimeWork s) := by
  unfold chimeWork
  split
  · exact keepsBut_mono (by simp) (modSlot_keeps _ _ s)
  · exact keepsBut_ite (keepsBut_refl _ s)
      (keepsBut_trans (keepsBut_mono (by simp) (keepsBut_modClaims _ s)) (keepsBut_mono (by simp) (modSlot_keeps _ _ _)))

/-- The chime generator changes its own state and its own slot. -/
theorem chimeWork_leaves (s : State) :
    (chimeWork s).claims = { s.claims with chimeGen := (chimeWork s).claims.chimeGen } ∧
      ∀ i : SlotId, 31 ≠ i → tget (chimeWork s).slots i = tget s.slots i := by
  unfold chimeWork writeGenerator
  split
  · exact ⟨rfl, fun i h => tget_modSlot_ne _ s h⟩
  · split
    · exact ⟨rfl, fun _ _ => rfl⟩
    · exact ⟨rfl, fun i h => tget_modSlot_ne _ _ h⟩

theorem noteEnded_congr {s t : State} (gen : t.claims.chimeGen = s.claims.chimeGen)
    (table : t.claims.chimeTable = s.claims.chimeTable) : noteEnded t = noteEnded s := by
  unfold noteEnded
  rw [gen, table]

theorem chimeWork_congr {s t : State} (gen : t.claims.chimeGen = s.claims.chimeGen)
    (table : t.claims.chimeTable = s.claims.chimeTable) (taper : t.mix.taper = s.mix.taper)
    (slot : tget t.slots 31 = tget s.slots 31) : tget (chimeWork t).slots 31 = tget (chimeWork s).slots 31 ∧
      (chimeWork t).claims.chimeGen = (chimeWork s).claims.chimeGen := by
  have ended := noteEnded_congr gen table
  unfold chimeWork
  rw [ended, gen]
  split
  · simp [writeGenerator, slot, gen, modSlot]
  · split
    · exact ⟨slot, gen⟩
    · simp [chimeBlock, writeGenerator, slot, gen, table, taper, modSlot]

/-! ### An alarm channel that stays at its step (R144) -/

/-- What the work of a channel at its step may change: the channel's counts and phase, and its tone generator's slot. -/
structure AtStep (ch : ChanId) (s t : State) : Prop where
  keeps : keepsBut [.alarm, .slots] s t
  alarm : t.alarm = { s.alarm with channels := t.alarm.channels }
  place : (channelOf t ch).program = (channelOf s ch).program ∧ (channelOf t ch).step = (channelOf s ch).step ∧
    (channelOf t ch).stalled = (channelOf s ch).stalled
  others : ∀ b, ch ≠ b → channelOf t b = channelOf s b
  slots : ∀ i, toneSlot ch ≠ i → tget t.slots i = tget s.slots i

theorem atStep_refl (ch : ChanId) (s : State) : AtStep ch s s :=
  ⟨keepsBut_refl _ s, rfl, ⟨rfl, rfl, rfl⟩, fun _ _ => rfl, fun _ _ => rfl⟩

/-- A block of the tone generator, after a change of the channel's counts and phase. -/
theorem atStep_tone {ch : ChanId} {s : State} (b : Block) {f : Channel → Channel}
    (h : ∀ x, (f x).program = x.program ∧ (f x).step = x.step ∧ (f x).stalled = x.stalled) :
    AtStep ch s (writeGenerator (toneSlot ch) b (modChannel ch f s)) where
  keeps := keepsBut_trans (keepsBut_mono (by simp) (keepsBut_modAlarm _ s)) (keepsBut_mono (by simp) (modSlot_keeps _ _ _))
  alarm := rfl
  place := by
    have own : channelOf (writeGenerator (toneSlot ch) b (modChannel ch f s)) ch = f (channelOf s ch) := tget_tmod_self _ _ _
    rw [own]
    exact h _
  others := fun c ne => tget_tmod_ne _ _ ne
  slots := fun i ne => tget_modSlot_ne _ _ ne

theorem atStep_quietTone (ch : ChanId) (s : State) : AtStep ch s (quietTone ch s) :=
  ⟨keepsBut_mono (by simp) (modSlot_keeps _ _ s), rfl, ⟨rfl, rfl, rfl⟩, fun _ _ => rfl, fun _ ne => tget_modSlot_ne _ s ne⟩

theorem atStep_workStep (ch : ChanId) (s : State) : AtStep ch s (workStep ch s) := by
  unfold workStep
  dsimp only
  split
  · exact atStep_quietTone ch s
  · split
    · split
      · exact atStep_tone _ fun _ => ⟨rfl, rfl, rfl⟩
      · exact atStep_tone _ fun _ => ⟨rfl, rfl, rfl⟩
    · exact atStep_tone _ fun _ => ⟨rfl, rfl, rfl⟩
    · exact atStep_quietTone ch s

/-- A steady channel neither enters nor leaves a step at a boundary. -/
theorem channelWork_of_steady {ch : ChanId} {s : State} (h : steady s ch) : channelWork ch s =
    if (channelOf s ch).program = none then quietTone ch s
    else if toneEnded s ch || silenceEnded s ch then s else workStep ch s := by
  unfold channelWork
  split
  · rfl
  · next busy =>
    obtain ⟨moving, waiting⟩ := h.resolve_left busy
    simp [moving, waiting]

theorem atStep_channelWork {ch : ChanId} {s : State} (h : steady s ch) : AtStep ch s (channelWork ch s) := by
  rw [channelWork_of_steady h]
  split
  · exact atStep_quietTone ch s
  · split
    · exact atStep_refl ch s
    · exact atStep_workStep ch s

/-- What the channels read besides their own state and slot: the program table, the taper and the players. -/
def sameForChannels (s t : State) : Prop :=
  t.alarm = { s.alarm with channels := t.alarm.channels } ∧ t.mix.taper = s.mix.taper ∧ t.clips = s.clips

theorem stepAt_congr {s t : State} {ch : ChanId} {k : Nat} (programs : t.alarm.programs = s.alarm.programs)
    (program : (channelOf t ch).program = (channelOf s ch).program) : stepAt t ch k = stepAt s ch k := by
  unfold stepAt programOf
  rw [program, programs]

theorem clipEnded_congr {s t : State} {ch : ChanId} (h : sameForChannels s t)
    (place : (channelOf t ch).program = (channelOf s ch).program ∧ (channelOf t ch).step = (channelOf s ch).step ∧
      (channelOf t ch).stalled = (channelOf s ch).stalled) : clipEnded t ch = clipEnded s ch := by
  obtain ⟨program, step, stalled⟩ := place
  obtain ⟨alarm, -, clips⟩ := h
  unfold clipEnded atClip playerOf
  rw [stepAt_congr (by rw [alarm]) program, step, stalled, clips]

theorem steady_congr {s t : State} {ch : ChanId} (h : sameForChannels s t)
    (place : (channelOf t ch).program = (channelOf s ch).program ∧ (channelOf t ch).step = (channelOf s ch).step ∧
      (channelOf t ch).stalled = (channelOf s ch).stalled) : steady t ch ↔ steady s ch := by
  unfold steady
  rw [clipEnded_congr h place, place.1, place.2.2]

theorem currentStep_congr {s t : State} {ch : ChanId} (h : sameForChannels s t) (own : channelOf t ch = channelOf s ch) :
    stepAt t ch (channelOf t ch).step = stepAt s ch (channelOf s ch).step := by
  rw [own]
  exact stepAt_congr (by rw [h.1]) (by rw [own])

theorem toneEnded_congr {s t : State} {ch : ChanId} (h : sameForChannels s t) (own : channelOf t ch = channelOf s ch) :
    toneEnded t ch = toneEnded s ch := by
  unfold toneEnded
  rw [currentStep_congr h own, own]

theorem silenceEnded_congr {s t : State} {ch : ChanId} (h : sameForChannels s t)
    (own : channelOf t ch = channelOf s ch) : silenceEnded t ch = silenceEnded s ch := by
  unfold silenceEnded
  rw [currentStep_congr h own, own]

theorem quietTone_congr {s t : State} {ch : ChanId} (own : channelOf t ch = channelOf s ch)
    (slot : tget t.slots (toneSlot ch) = tget s.slots (toneSlot ch)) :
    channelOf (quietTone ch t) ch = channelOf (quietTone ch s) ch ∧
      tget (quietTone ch t).slots (toneSlot ch) = tget (quietTone ch s).slots (toneSlot ch) :=
  ⟨own, by simp [quietTone, writeGenerator, slot]⟩

/-- A tone generator's block after the same change of the channel: the same channel and the same slot. -/
theorem tone_congr {s t : State} {ch : ChanId} (b : Block) (f : Channel → Channel)
    (own : channelOf t ch = channelOf s ch) (slot : tget t.slots (toneSlot ch) = tget s.slots (toneSlot ch)) :
    channelOf (writeGenerator (toneSlot ch) b (modChannel ch f t)) ch =
        channelOf (writeGenerator (toneSlot ch) b (modChannel ch f s)) ch ∧
      tget (writeGenerator (toneSlot ch) b (modChannel ch f t)).slots (toneSlot ch) =
        tget (writeGenerator (toneSlot ch) b (modChannel ch f s)).slots (toneSlot ch) := by
  have worked : ∀ u, channelOf (writeGenerator (toneSlot ch) b (modChannel ch f u)) ch = f (channelOf u ch) :=
    fun u => tget_tmod_self _ _ _
  exact ⟨by rw [worked, worked, own], by simp [writeGenerator, modChannel, slot]⟩

theorem workStep_congr {s t : State} {ch : ChanId} (h : sameForChannels s t) (own : channelOf t ch = channelOf s ch)
    (slot : tget t.slots (toneSlot ch) = tget s.slots (toneSlot ch)) :
    channelOf (workStep ch t) ch = channelOf (workStep ch s) ch ∧
      tget (workStep ch t).slots (toneSlot ch) = tget (workStep ch s).slots (toneSlot ch) := by
  have quieted := quietTone_congr own slot
  unfold workStep soundTone
  dsimp only
  rw [currentStep_congr h own, own, h.2.1]
  split
  · exact quieted
  · split
    · split
      · exact tone_congr _ _ own slot
      · exact tone_congr _ _ own slot
    · exact tone_congr _ _ own slot
    · exact quieted

theorem channelWork_congr {s t : State} {ch : ChanId} (st : steady s ch) (h : sameForChannels s t)
    (own : channelOf t ch = channelOf s ch) (slot : tget t.slots (toneSlot ch) = tget s.slots (toneSlot ch)) :
    channelOf (channelWork ch t) ch = channelOf (channelWork ch s) ch ∧
      tget (channelWork ch t).slots (toneSlot ch) = tget (channelWork ch s).slots (toneSlot ch) := by
  have st' : steady t ch := (steady_congr h (by simp [own])).mpr st
  rw [channelWork_of_steady st, channelWork_of_steady st', toneEnded_congr h own, silenceEnded_congr h own, own]
  split
  · exact quietTone_congr own slot
  · split
    · exact ⟨own, slot⟩
    · exact workStep_congr h own slot

theorem toneSlot_injective {a b : ChanId} (h : toneSlot a = toneSlot b) : a = b := by
  have v : 27 + a.val = 27 + b.val := congrArg Fin.val h
  exact Fin.ext (Nat.add_left_cancel v)

/-- Both channels are worked, each as it would have been before the other. -/
theorem channelsWorked {s t : State} (st : ∀ ch, steady s ch) (h : sameForChannels s t)
    (own : ∀ ch, channelOf t ch = channelOf s ch ∧ tget t.slots (toneSlot ch) = tget s.slots (toneSlot ch)) :
    keepsBut [.alarm, .slots] t (forEach (everyFin 2) channelWork t) ∧
    sameForChannels s (forEach (everyFin 2) channelWork t) ∧
    (∀ ch, channelOf (forEach (everyFin 2) channelWork t) ch = channelOf (channelWork ch s) ch ∧
      tget (forEach (everyFin 2) channelWork t).slots (toneSlot ch) = tget (channelWork ch s).slots (toneSlot ch)) ∧
    ∀ i : SlotId, (∀ ch, toneSlot ch ≠ i) → tget (forEach (everyFin 2) channelWork t).slots i = tget t.slots i := by
  have walk := get_forEach_own (f := channelWork) (s := s)
    (get := fun u ch => (channelOf u ch, tget u.slots (toneSlot ch)))
    (I := fun u => keepsBut [.alarm, .slots] t u ∧ sameForChannels s u ∧
      ∀ i : SlotId, (∀ ch, toneSlot ch ≠ i) → tget u.slots i = tget t.slots i)
    (fun ch u hI eq => by
      obtain ⟨kept, same, rest⟩ := hI
      obtain ⟨chan, slot⟩ := Prod.mk.injEq .. ▸ eq
      have w := atStep_channelWork ((steady_congr same (by simp [chan])).mpr (st ch))
      obtain ⟨chan', slot'⟩ := channelWork_congr (st ch) same chan slot
      refine ⟨⟨keepsBut_trans kept w.keeps, ⟨?_, ?_, ?_⟩, fun i ne => (w.slots i (ne ch)).trans (rest i ne)⟩,
        Prod.ext chan' slot', fun b ne => Prod.ext (w.others b ne) (w.slots _ fun e => ne (toneSlot_injective e))⟩
      · rw [w.alarm, same.1]
      · exact (congrArg Mix.taper (w.keeps .mix (by simp))).trans same.2.1
      · exact (w.keeps .clips (by simp)).trans same.2.2)
    (List.nodup_finRange 2) (t := t) ⟨keepsBut_refl _ t, h, fun _ _ => rfl⟩ (fun ch _ => Prod.ext (own ch).1 (own ch).2)
  obtain ⟨⟨kept, same, rest⟩, worked, -⟩ := walk
  exact ⟨kept, same, fun ch => Prod.mk.injEq .. ▸ worked ch (List.mem_finRange ch), rest⟩

/-! ### The clip players (R171, R172) -/

/-- The flash arbiter leaves the players, the directory and the set of written sectors. -/
theorem arbitrateFlash_clips (s : State) : (arbitrateFlash s).clips.players = s.clips.players ∧
    (arbitrateFlash s).clips.directory = s.clips.directory ∧
    (arbitrateFlash s).clips.writtenSet = s.clips.writtenSet := by
  unfold arbitrateFlash
  split
  · exact ⟨rfl, rfl, rfl⟩
  · split
    · exact ⟨rfl, rfl, rfl⟩
    · split
      · exact ⟨rfl, rfl, rfl⟩
      · split <;> exact ⟨rfl, rfl, rfl⟩

theorem arbitrateFlash_keeps (s : State) : keepsBut [.clips] s (arbitrateFlash s) := by
  unfold arbitrateFlash
  split
  · exact keepsBut_refl _ s
  · split
    · exact keepsBut_modClips _ s
    · split
      · exact keepsBut_refl _ s
      · split
        · exact keepsBut_refl _ s
        · exact keepsBut_modClips _ s

theorem requestRead_clips (r : Reader) (k : Nat) (s : State) : (requestRead r k s).clips.players = s.clips.players ∧
    (requestRead r k s).clips.directory = s.clips.directory ∧
    (requestRead r k s).clips.writtenSet = s.clips.writtenSet := arbitrateFlash_clips _

theorem requestRead_keeps (r : Reader) (k : Nat) (s : State) : keepsBut [.clips] s (requestRead r k s) :=
  keepsBut_trans (keepsBut_modClips _ s) (arbitrateFlash_keeps _)

/-- What a player's work at a boundary may change: the player, its generator's slot, the reads asked for and a count. -/
structure AtPlay (p : ChanId) (s t : State) : Prop where
  keeps : keepsBut [.clips, .slots, .counters] s t
  directory : t.clips.directory = s.clips.directory
  others : ∀ q, p ≠ q → playerOf t q = playerOf s q
  slots : ∀ i, playerSlot p ≠ i → tget t.slots i = tget s.slots i

theorem atPlay_trans {p : ChanId} {s t u : State} (h : AtPlay p s t) (k : AtPlay p t u) : AtPlay p s u :=
  ⟨keepsBut_trans h.keeps k.keeps, k.directory.trans h.directory, fun q ne => (k.others q ne).trans (h.others q ne),
    fun i ne => (k.slots i ne).trans (h.slots i ne)⟩

theorem atPlay_modPlayer (p : ChanId) (f : Player → Player) (s : State) : AtPlay p s (modPlayer p f s) :=
  ⟨keepsBut_mono (by simp) (keepsBut_modClips _ s), rfl, fun _ ne => tget_tmod_ne _ _ ne, fun _ _ => rfl⟩

theorem atPlay_modSlot (p : ChanId) (f : Slot → Slot) (s : State) : AtPlay p s (modSlot (playerSlot p) f s) :=
  ⟨keepsBut_mono (by simp) (modSlot_keeps _ _ s), rfl, fun _ _ => rfl, fun _ ne => tget_modSlot_ne _ s ne⟩

theorem atPlay_count (p : ChanId) (c : Counter) (s : State) : AtPlay p s (count c s) :=
  ⟨keepsBut_mono (by simp) (count_keeps c s), rfl, fun _ _ => rfl, fun _ _ => rfl⟩

theorem atPlay_requestRead (p : ChanId) (r : Reader) (k : Nat) (s : State) : AtPlay p s (requestRead r k s) where
  keeps := keepsBut_mono (by simp) (requestRead_keeps r k s)
  directory := (requestRead_clips r k s).2.1
  others := fun q _ => congrArg (tget · q) (requestRead_clips r k s).1
  slots := fun i _ => congrArg (tget · i) (requestRead_keeps r k s .slots (by simp))

theorem atPlay_enterSector (p : ChanId) (j : Nat) (s : State) : AtPlay p s (enterSector p j s) := by
  unfold enterSector
  dsimp only
  split
  · exact atPlay_trans (atPlay_modPlayer p _ s) (atPlay_requestRead p _ _ _)
  · exact atPlay_modPlayer p _ s

end Sys2Proof.Machine
end

section
namespace Sys2Proof.Machine

/-- A player's block written and its position advanced (R172, 1 and 2). -/
def playedState (p : ChanId) (s : State) : State :=
  let t := modSlot (playerSlot p) (fun y => { y with block := playerBlock (playerOf s p) }) s
  modPlayer p (fun y => { y with position := (playerOf s p).position + 48 })
    (if underruns (playerOf s p) then count (.clipUnderruns p) t else t)

/-- The sector that a player enters with the block it plays now (R172, 3). -/
def sectorEntered (x : Player) : Nat := (x.position + 48) / 2048

theorem playBlock_eq (p : ChanId) (s : State) : playBlock p s =
    if (playerOf s p).position / 2048 < sectorEntered (playerOf s p) ∧ sectorEntered (playerOf s p) < (playerOf s p).sectors
    then enterSector p (sectorEntered (playerOf s p)) (playedState p s) else playedState p s := rfl

theorem atPlay_playedState (p : ChanId) (s : State) : AtPlay p s (playedState p s) := by
  have block := atPlay_modSlot p (fun y => { y with block := playerBlock (playerOf s p) }) s
  unfold playedState
  dsimp only
  split
  · exact atPlay_trans block (atPlay_trans (atPlay_count p _ _) (atPlay_modPlayer p _ _))
  · exact atPlay_trans block (atPlay_modPlayer p _ _)

theorem atPlay_playerWork (p : ChanId) (s : State) : AtPlay p s (playerWork p s) := by
  unfold playerWork
  rw [playBlock_eq]
  split
  · split
    · exact atPlay_trans (atPlay_playedState p s) (atPlay_enterSector p _ _)
    · exact atPlay_playedState p s
  · exact atPlay_modSlot p _ s

theorem playedState_own (p : ChanId) (s : State) :
    playerOf (playedState p s) p = { playerOf s p with position := (playerOf s p).position + 48 } ∧
      tget (playedState p s).slots (playerSlot p) =
        { tget s.slots (playerSlot p) with block := playerBlock (playerOf s p) } := by
  unfold playedState
  dsimp only
  split <;> exact ⟨tget_tmod_self _ _ _, tget_tmod_self _ _ _⟩

/-- A player enters a sector as the player alone says, and the generator's slot is left. -/
theorem enterSector_own {p : ChanId} {s t : State} (j : Nat) (own : playerOf t p = playerOf s p) :
    playerOf (enterSector p j t) p = playerOf (enterSector p j s) p ∧
      tget (enterSector p j t).slots (playerSlot p) = tget t.slots (playerSlot p) := by
  have read : ∀ r k u, playerOf (requestRead r k u) p = playerOf u p :=
    fun r k u => congrArg (tget · p) (requestRead_clips r k u).1
  have slots : ∀ r k u, (requestRead r k u).slots = u.slots := fun r k u => requestRead_keeps r k u .slots (by simp)
  have turned : ∀ f u, playerOf (modPlayer p f u) p = f (playerOf u p) := fun f u => tget_tmod_self _ _ _
  unfold enterSector
  dsimp only
  rw [own]
  split
  · rw [read, read, turned, turned, own, slots]
    exact ⟨rfl, rfl⟩
  · rw [turned, turned, own]
    exact ⟨rfl, rfl⟩

theorem playerWork_congr {p : ChanId} {s t : State} (own : playerOf t p = playerOf s p)
    (slot : tget t.slots (playerSlot p) = tget s.slots (playerSlot p)) :
    playerOf (playerWork p t) p = playerOf (playerWork p s) p ∧
      tget (playerWork p t).slots (playerSlot p) = tget (playerWork p s).slots (playerSlot p) := by
  obtain ⟨ps, ss⟩ := playedState_own p s
  obtain ⟨pt, st⟩ := playedState_own p t
  have played : playerOf (playedState p t) p = playerOf (playedState p s) p := by rw [pt, ps, own]
  have block : tget (playedState p t).slots (playerSlot p) = tget (playedState p s).slots (playerSlot p) := by
    rw [st, ss, own, slot]
  unfold playerWork
  rw [playBlock_eq, playBlock_eq, own]
  split
  · split
    · obtain ⟨entered, slot'⟩ := enterSector_own (sectorEntered (playerOf s p)) played
      obtain ⟨-, slot''⟩ := enterSector_own (p := p) (s := playedState p s) (sectorEntered (playerOf s p)) rfl
      exact ⟨entered, slot'.trans (block.trans slot''.symm)⟩
    · exact ⟨played, block⟩
  · exact ⟨own, by simp [writeGenerator, slot]⟩

theorem playerSlot_injective {p q : ChanId} (h : playerSlot p = playerSlot q) : p = q := by
  have v : 29 + p.val = 29 + q.val := congrArg Fin.val h
  exact Fin.ext (Nat.add_left_cancel v)

/-- Both players play, each as it would have done before the other. -/
theorem playersWorked {s t : State} (dir : t.clips.directory = s.clips.directory)
    (own : ∀ p, playerOf t p = playerOf s p ∧ tget t.slots (playerSlot p) = tget s.slots (playerSlot p)) :
    keepsBut [.clips, .slots, .counters] t (forEach (everyFin 2) playerWork t) ∧
    (forEach (everyFin 2) playerWork t).clips.directory = s.clips.directory ∧
    (∀ p, playerOf (forEach (everyFin 2) playerWork t) p = playerOf (playerWork p s) p ∧
      tget (forEach (everyFin 2) playerWork t).slots (playerSlot p) = tget (playerWork p s).slots (playerSlot p)) ∧
    ∀ i : SlotId, (∀ p, playerSlot p ≠ i) → tget (forEach (everyFin 2) playerWork t).slots i = tget t.slots i := by
  have walk := get_forEach_own (f := playerWork) (s := s)
    (get := fun u p => (playerOf u p, tget u.slots (playerSlot p)))
    (I := fun u => keepsBut [.clips, .slots, .counters] t u ∧ u.clips.directory = s.clips.directory ∧
      ∀ i : SlotId, (∀ p, playerSlot p ≠ i) → tget u.slots i = tget t.slots i)
    (fun p u hI eq => by
      obtain ⟨kept, directory, rest⟩ := hI
      obtain ⟨player, slot⟩ := Prod.mk.injEq .. ▸ eq
      have w := atPlay_playerWork p u
      obtain ⟨player', slot'⟩ := playerWork_congr player slot
      exact ⟨⟨keepsBut_trans kept w.keeps, w.directory.trans directory, fun i ne => (w.slots i (ne p)).trans (rest i ne)⟩,
        Prod.ext player' slot', fun q ne => Prod.ext (w.others q ne) (w.slots _ fun e => ne (playerSlot_injective e))⟩)
    (List.nodup_finRange 2) (t := t) ⟨keepsBut_refl _ t, dir, fun _ _ => rfl⟩ (fun p _ => Prod.ext (own p).1 (own p).2)
  obtain ⟨⟨kept, directory, rest⟩, worked, -⟩ := walk
  exact ⟨kept, directory, fun p => Prod.mk.injEq .. ▸ worked p (List.mem_finRange p), rest⟩

/-! ### The boundary of a running part -/

/-- After the lines' stage 1 and the scene unit's stages (R67, R69, R180). -/
@[irreducible] def sceneDone (s : State) : State := stepFades (evaluateHold (lineStage1 (judgedState s)))

/-- After the claims' count and the chime generator (R86, R87, R93). -/
@[irreducible] def chimeDone (s : State) : State := chimeWork (countClaims (sceneDone s))

/-- After the alarm channels (R144). -/
@[irreducible] def channelsDone (s : State) : State := forEach (everyFin 2) channelWork (chimeDone s)

/-- After the clip players (R172). -/
@[irreducible] def playersDone (s : State) : State := forEach (everyFin 2) playerWork (channelsDone s)

/-- After the counts of the scan phase, the controller timer and the report interval (R121, R191, R203). -/
@[irreducible] def boundaryWorked (s : State) : State := countInterval (countTimer (advancePhase (playersDone s)))

/-- The window of the lines is complete (R181). -/
def windowFull (s : State) : Bool := decide (256 ≤ s.lines.windowCount)

/-- The changes that the boundary of a running part makes due, in their order (log entry 1). -/
def boundaryDues (s : State) : List Due :=
  firstDues s ++ sceneDues (evaluateHold (lineStage1 (judgedState s))) ++
    dueIf (noteEnded (countClaims (sceneDone s))) .chimeNoteEnd ++ claimDues (sceneDone s) ++ peerDues (boundaryWorked s) ++
    dueIf ((boundaryWorked s).intercom.phase == 0) .scanStart ++ channelDues (chimeDone s) ++ playerDues (channelsDone s) ++
    dueIf (windowFull (boundaryWorked s)) .windowClose ++
    dueIf (timerExpired (boundaryWorked s)) .standaloneEntry ++ dueIf (intervalReached (boundaryWorked s)) .reportEmission

/-- The boundary of a running part where the scene unit comes first. -/
theorem runBoundary_eq {race : Race} {s : State} (h : race.holdAfter = none) :
    ∃ rest, runBoundary race (firstDues s) (judgedState s) =
      modBoundary (fun _ => ⟨true, boundaryDues s, mixView (lineStage1 (judgedState s)) :: rest, race⟩)
        (boundaryWorked s) := by
  refine ⟨[mixView (chimeDone s), mixView (channelWork 0 (chimeDone s))], ?_⟩
  have last : dueIf race.holdAfter.isSome .sceneWork = [] := by simp [h, dueIf]
  have first : race.holdAfter.isNone = true := by simp [h]
  unfold boundaryDues boundaryWorked playersDone channelsDone chimeDone sceneDone
  simp only [runBoundary, first, if_true, last, List.append_nil, sceneStages]
  simp only [windowFull]

theorem mem_dueIf {b : Bool} {d e : Due} : e ∈ dueIf b d ↔ b = true ∧ e = d := by cases b <;> simp [dueIf]

end Sys2Proof.Machine
end

section
namespace Sys2Proof.Machine

/-! ### The report interval through a boundary's work -/

@[simp] theorem report_interval (kind : ReportKind) (subject value : Nat) (s : State) :
    (report kind subject value s).reports.interval = s.reports.interval := by
  unfold report
  dsimp only
  split_ifs <;> rfl

theorem judgeSlot_interval (i : SlotId) (s : State) : (judgeSlot i s).reports.interval = s.reports.interval := by
  unfold judgeSlot
  dsimp only
  split_ifs
  · rfl
  · exact report_interval _ _ _ _
  · rfl
  · rfl
  · rfl
  · rfl

theorem judgedState_interval (s : State) : (judgedState s).reports.interval = s.reports.interval := by
  unfold judgedState
  exact forEach_induct (fun u => u.reports.interval = s.reports.interval) judgeSlot judgedSlots
    (fun i _ u h => (judgeSlot_interval i u).trans h) (ageOrigins s) rfl

theorem evaluateHold_interval (s : State) : (evaluateHold s).reports.interval = s.reports.interval := by
  have z : ∀ held z u, (evaluateZone held z u).reports.interval = u.reports.interval := by
    intro held z u
    unfold evaluateZone
    split
    · rfl
    · exact report_interval _ _ _ _
  have walk := forEach_induct (fun u => u.reports.interval = s.reports.interval) (evaluateZone s.scene.held) (everyFin 24)
    (fun i _ u h => (z _ i u).trans h) s rfl
  unfold evaluateHold
  dsimp only
  split
  · rw [modScene_reports, walk]
  · rw [report_interval, modScene_reports, walk]

/-! ### The stages of a running part's boundary, against the state before it -/

theorem staged_keeps (s : State) : keepsBut [.ring, .slots, .reports, .counters, .lines] s (lineStage1 (judgedState s)) :=
  keepsBut_trans (keepsBut_mono (by simp) (judgedState_keeps s)) (keepsBut_mono (by simp) (lineStage1_keeps _))

theorem held_scene (s : State) : (evaluateHold (lineStage1 (judgedState s))).scene = (evaluateHold s).scene :=
  evaluateHold_scene_congr (staged_keeps s .scene (by simp)) (staged_keeps s .mix (by simp))
    (staged_keeps s .claims (by simp))

theorem held_keeps (s : State) :
    keepsBut [.scene, .reports, .counters] (lineStage1 (judgedState s)) (evaluateHold (lineStage1 (judgedState s))) :=
  evaluateHold_keeps _

theorem sceneDone_faded (s : State) :
    (sceneDone s).scene = (stepFades (evaluateHold s)).scene ∧ (sceneDone s).mix = (stepFades (evaluateHold s)).mix := by
  unfold sceneDone
  exact stepFades_congr (held_scene s) (((held_keeps s .mix (by simp)).trans (staged_keeps s .mix (by simp))).trans
    (evaluateHold_keeps s .mix (by simp)).symm)

theorem sceneDone_keeps_judged (s : State) :
    keepsBut [.reports, .counters, .lines, .scene, .mix] (judgedState s) (sceneDone s) := by
  unfold sceneDone
  exact keepsBut_trans (keepsBut_mono (by simp) (lineStage1_keeps _))
    (keepsBut_trans (keepsBut_mono (by simp) (evaluateHold_keeps _)) (keepsBut_mono (by simp) (stepFades_keeps _)))

theorem sceneDone_keeps (s : State) :
    keepsBut [.ring, .slots, .reports, .counters, .lines, .scene, .mix] s (sceneDone s) :=
  keepsBut_trans (keepsBut_mono (by simp) (judgedState_keeps s)) (keepsBut_mono (by simp) (sceneDone_keeps_judged s))

theorem sceneDone_taper (s : State) : (sceneDone s).mix.taper = s.mix.taper := by
  unfold sceneDone
  exact (stepFades_taper _).trans (congrArg Mix.taper ((held_keeps s .mix (by simp)).trans (staged_keeps s .mix (by simp))))

theorem sceneDone_interval (s : State) : (sceneDone s).reports.interval = s.reports.interval := by
  unfold sceneDone
  rw [stepFades_keeps _ .reports (by simp), evaluateHold_interval, lineStage1_keeps _ .reports (by simp),
    judgedState_interval]

theorem sceneDone_lines (s : State) : (sceneDone s).lines = (lineStage1 (judgedState s)).lines := by
  unfold sceneDone
  exact (stepFades_keeps _ .lines (by simp)).trans (evaluateHold_keeps _ .lines (by simp))

theorem chimeDone_keeps (s : State) : keepsBut [.claims, .slots] (sceneDone s) (chimeDone s) := by
  unfold chimeDone
  exact keepsBut_trans (keepsBut_mono (by simp) (countClaims_keeps _)) (chimeWork_keeps _)

/-- The chime generator plays in a boundary as it would have before it. -/
theorem chimeDone_chime (s : State) : tget (chimeDone s).slots 31 = tget (chimeWork s).slots 31 ∧
    (chimeDone s).claims.chimeGen = (chimeWork s).claims.chimeGen := by
  have claims : (sceneDone s).claims = s.claims := sceneDone_keeps s .claims (by simp)
  have counted : (countClaims (sceneDone s)).claims =
      { s.claims with table := tmap (fun _ c => c.map countClaim) s.claims.table } := by
    simp [countClaims, claims]
  have taper : (countClaims (sceneDone s)).mix.taper = s.mix.taper := by
    rw [countClaims_keeps _ .mix (by simp), sceneDone_taper]
  unfold chimeDone
  refine chimeWork_congr (by rw [counted]) (by rw [counted]) taper ?_
  rw [countClaims_keeps _ .slots (by simp), sceneDone_keeps_judged s .slots (by simp)]
  exact (tget_judgedState_slots s).2 31 (by decide)

theorem chimeDone_claims (s : State) : (chimeDone s).claims =
    { s.claims with
      table := tmap (fun _ c => c.map countClaim) s.claims.table
      chimeGen := (chimeWork s).claims.chimeGen } := by
  have claims : (sceneDone s).claims = s.claims := sceneDone_keeps s .claims (by simp)
  have left := (chimeWork_leaves (countClaims (sceneDone s))).1
  rw [chimeDone, left, ← chimeDone, (chimeDone_chime s).2]
  simp [countClaims, claims]

theorem chimeDone_slots (s : State) {i : SlotId} (h : 31 ≠ i) : tget (chimeDone s).slots i = tget (judgedState s).slots i := by
  rw [chimeDone, (chimeWork_leaves _).2 i h, countClaims_keeps _ .slots (by simp),
    sceneDone_keeps_judged s .slots (by simp)]

theorem generator_chimeDone (s : State) {i : SlotId} (low : 27 ≤ i.val) (high : 31 ≠ i) :
    tget (chimeDone s).slots i = tget s.slots i := (chimeDone_slots s high).trans ((tget_judgedState_slots s).2 i low)

theorem sameForChannels_chimeDone (s : State) : sameForChannels s (chimeDone s) := by
  have kept := chimeDone_keeps s
  have before := sceneDone_keeps s
  have alarm : (chimeDone s).alarm = s.alarm := (kept .alarm (by simp)).trans (before .alarm (by simp))
  exact ⟨by rw [alarm], (congrArg Mix.taper (kept .mix (by simp))).trans (sceneDone_taper s),
    (kept .clips (by simp)).trans (before .clips (by simp))⟩

theorem channelOf_chimeDone (s : State) (ch : ChanId) : channelOf (chimeDone s) ch = channelOf s ch :=
  congrArg (fun x : Alarm => tget x.channels ch)
    ((chimeDone_keeps s .alarm (by simp)).trans (sceneDone_keeps s .alarm (by simp)))

theorem toneSlot_ne (ch : ChanId) : (27 ≤ (toneSlot ch).val ∧ 31 ≠ toneSlot ch) ∧ ∀ p, toneSlot ch ≠ playerSlot p :=
  ⟨⟨Nat.le_add_right _ _, fun h => by have := congrArg Fin.val h; simp [toneSlot] at this; omega⟩,
    fun p h => by have := congrArg Fin.val h; simp [toneSlot, playerSlot] at this; omega⟩

theorem playerSlot_ne (p : ChanId) : 27 ≤ (playerSlot p).val ∧ 31 ≠ playerSlot p :=
  ⟨by simp [playerSlot]; omega, fun h => by have := congrArg Fin.val h; simp [playerSlot] at this; omega⟩

/-- The last counts leave what the players leave of the slots, the claims, the alarm unit and the clip store. -/
theorem boundaryWorked_keeps_players (s : State) :
    keepsBut [.intercom, .control, .reports] (playersDone s) (boundaryWorked s) := by
  unfold boundaryWorked
  exact keepsBut_trans (keepsBut_mono (by simp) (keepsBut_modIntercom _ _))
    (keepsBut_trans (keepsBut_mono (by simp) (keepsBut_modControl _ _)) (keepsBut_mono (by simp) (keepsBut_modReports _ _)))

section
variable {s : State} (st : ∀ ch, steady s ch)
include st

theorem channelsDone_facts :
    keepsBut [.alarm, .slots] (chimeDone s) (channelsDone s) ∧ sameForChannels s (channelsDone s) ∧
    (∀ ch, channelOf (channelsDone s) ch = channelOf (channelWork ch s) ch ∧
      tget (channelsDone s).slots (toneSlot ch) = tget (channelWork ch s).slots (toneSlot ch)) ∧
    ∀ i : SlotId, (∀ ch, toneSlot ch ≠ i) → tget (channelsDone s).slots i = tget (chimeDone s).slots i := by
  unfold channelsDone
  exact channelsWorked st (sameForChannels_chimeDone s) fun ch => ⟨channelOf_chimeDone s ch,
    generator_chimeDone s (toneSlot_ne ch).1.1 (toneSlot_ne ch).1.2⟩

theorem playersDone_facts :
    keepsBut [.clips, .slots, .counters] (channelsDone s) (playersDone s) ∧
    (playersDone s).clips.directory = s.clips.directory ∧
    (∀ p, playerOf (playersDone s) p = playerOf (playerWork p s) p ∧
      tget (playersDone s).slots (playerSlot p) = tget (playerWork p s).slots (playerSlot p)) ∧
    ∀ i : SlotId, (∀ p, playerSlot p ≠ i) → tget (playersDone s).slots i = tget (channelsDone s).slots i := by
  obtain ⟨-, ⟨-, -, clips⟩, -, rest⟩ := channelsDone_facts st
  unfold playersDone
  refine playersWorked (by rw [clips]) fun p => ⟨by rw [playerOf, clips, playerOf], ?_⟩
  rw [rest _ fun ch => (toneSlot_ne ch).2 p]
  exact generator_chimeDone s (playerSlot_ne p).1 (playerSlot_ne p).2

/-- The slots after a boundary's work: judged, or as their generators write them. -/
theorem boundaryWorked_slots :
    (∀ i : SlotId, i.val < 27 → tget (boundaryWorked s).slots i = tget (judgeSlot i s).slots i) ∧
    tget (boundaryWorked s).slots 31 = tget (chimeWork s).slots 31 ∧
    (∀ ch, tget (boundaryWorked s).slots (toneSlot ch) = tget (channelWork ch s).slots (toneSlot ch)) ∧
    ∀ p, tget (boundaryWorked s).slots (playerSlot p) = tget (playerWork p s).slots (playerSlot p) := by
  obtain ⟨-, -, toned, rest⟩ := channelsDone_facts st
  obtain ⟨-, -, played, rest'⟩ := playersDone_facts st
  have low : ∀ {i : SlotId}, i.val < 27 → (∀ p, playerSlot p ≠ i) ∧ (∀ ch, toneSlot ch ≠ i) ∧ 31 ≠ i := fun h =>
    ⟨fun p e => absurd (e ▸ (playerSlot_ne p).1) (not_le.mpr h), fun ch e => absurd (e ▸ (toneSlot_ne ch).1.1) (not_le.mpr h),
      fun e => absurd h (by rw [← e]; decide)⟩
  rw [boundaryWorked_keeps_players s .slots (by simp)]
  refine ⟨fun i hi => ?_, ?_, fun ch => ?_, fun p => (played p).2⟩
  · obtain ⟨np, nt, nc⟩ := low hi
    exact (rest' i np).trans ((rest i nt).trans ((chimeDone_slots s nc).trans ((tget_judgedState_slots s).1 i hi)))
  · exact (rest' 31 fun p e => (playerSlot_ne p).2 e.symm).trans
      ((rest 31 fun ch e => (toneSlot_ne ch).1.2 e.symm).trans (chimeDone_chime s).1)
  · exact (rest' _ fun p e => (toneSlot_ne ch).2 p e.symm).trans (toned ch).2

theorem playersDone_keeps : keepsBut [.alarm, .slots, .clips, .counters, .claims] (sceneDone s) (playersDone s) :=
  keepsBut_trans (keepsBut_mono (by simp) (chimeDone_keeps s))
    (keepsBut_trans (keepsBut_mono (by simp) (channelsDone_facts st).1) (keepsBut_mono (by simp) (playersDone_facts st).1))

theorem boundaryWorked_keeps_scene :
    keepsBut [.alarm, .slots, .clips, .counters, .claims, .intercom, .control, .reports] (sceneDone s) (boundaryWorked s) :=
  keepsBut_trans (keepsBut_mono (by simp) (playersDone_keeps st)) (keepsBut_mono (by simp) (boundaryWorked_keeps_players s))

theorem boundaryWorked_ring : (boundaryWorked s).ring = (judgedState s).ring :=
  (boundaryWorked_keeps_scene st .ring (by simp)).trans (sceneDone_keeps_judged s .ring (by simp))

theorem boundaryWorked_claims : (boundaryWorked s).claims =
    { s.claims with
      table := tmap (fun _ c => c.map countClaim) s.claims.table
      chimeGen := (chimeWork s).claims.chimeGen } :=
  calc (boundaryWorked s).claims
    _ = (playersDone s).claims := boundaryWorked_keeps_players s .claims (by simp)
    _ = (channelsDone s).claims := (playersDone_facts st).1 .claims (by simp)
    _ = (chimeDone s).claims := (channelsDone_facts st).1 .claims (by simp)
    _ = _ := chimeDone_claims s

theorem boundaryWorked_alarm : (boundaryWorked s).alarm = { s.alarm with channels := (boundaryWorked s).alarm.channels } := by
  have worked : (boundaryWorked s).alarm = (channelsDone s).alarm :=
    (boundaryWorked_keeps_players s .alarm (by simp)).trans ((playersDone_facts st).1 .alarm (by simp))
  rw [worked]
  exact (channelsDone_facts st).2.1.1

theorem channelOf_boundaryWorked (ch : ChanId) : channelOf (boundaryWorked s) ch = channelOf (channelWork ch s) ch := by
  have worked : (boundaryWorked s).alarm = (channelsDone s).alarm :=
    (boundaryWorked_keeps_players s .alarm (by simp)).trans ((playersDone_facts st).1 .alarm (by simp))
  rw [channelOf, worked]
  exact ((channelsDone_facts st).2.2.1 ch).1

theorem boundaryWorked_lines : (boundaryWorked s).lines = (lineStage1 (judgedState s)).lines :=
  (boundaryWorked_keeps_scene st .lines (by simp)).trans (sceneDone_lines s)

theorem boundaryWorked_counts :
    (boundaryWorked s).intercom =
      { s.intercom with phase := if 7 ≤ s.intercom.phase then 0 else s.intercom.phase + 1 } ∧
    (boundaryWorked s).control = { s.control with
      timer := if s.control.mode = .standalone ∧ s.control.node.timeout ≤ s.control.timer then s.control.timer
        else s.control.timer + 1 } ∧
    (boundaryWorked s).reports.interval = s.reports.interval + 1 := by
  have kept := playersDone_keeps st
  have before := sceneDone_keeps s
  have intercom : (playersDone s).intercom = s.intercom := (kept .intercom (by simp)).trans (before .intercom (by simp))
  have control : (playersDone s).control = s.control := (kept .control (by simp)).trans (before .control (by simp))
  have interval : (playersDone s).reports.interval = s.reports.interval :=
    (congrArg Reports.interval (kept .reports (by simp))).trans (sceneDone_interval s)
  refine ⟨?_, ?_, ?_⟩
  · simp [boundaryWorked, advancePhase, countTimer, countInterval, intercom]
  · simp [boundaryWorked, advancePhase, countTimer, countInterval, control]
  · simp [boundaryWorked, advancePhase, countTimer, countInterval, interval]

theorem boundaryWorked_keeps :
    keepsBut [.ring, .slots, .mix, .scene, .claims, .alarm, .clips, .lines, .intercom, .control, .reports, .counters] s
      (boundaryWorked s) :=
  keepsBut_trans (keepsBut_mono (by simp) (sceneDone_keeps s)) (keepsBut_mono (by simp) (boundaryWorked_keeps_scene st))

end

end Sys2Proof.Machine
end

section
namespace Sys2Proof.Machine

/-! ### The changes that are due -/

theorem judgedState_period (s : State) : (judgedState s).ring.period = s.ring.period := by
  rw [judgedState_ring, ageOrigins, modRing_ring]

theorem mem_firstDues {s : State} {d : Due} : d ∈ firstDues s ↔
    (∃ k, ((tget s.ring.origins k).valid = true ∧ 249 ≤ (tget s.ring.origins k).age) ∧ .originAgeOut k = d) ∨
      ∃ i, losesSource s i = true ∧ .sourceLost i = d := by
  have low : ∀ i, losesSource s i = true → i.val < 27 := by
    intro i h
    simp only [losesSource, Bool.and_eq_true, decide_eq_true_eq] at h
    exact h.1.1.1
  simp only [firstDues, slotDues, List.mem_append, List.mem_map, List.mem_filter, List.mem_finRange, true_and,
    agedOut_judgedState, mem_judgedSlots]
  exact or_congr_right (exists_congr fun i => and_congr_left fun _ => and_iff_right_of_imp (low i))

theorem mem_sceneDues {s : State} {d : Due} : d ∈ sceneDues s ↔ suspended s = false ∧
    ((∃ f ∈ s.scene.fades, lastStep f = true ∧ .fadeComplete f.target = d) ∨
      (∃ c ∈ s.scene.cues, cueReached s c = true) ∧ d = .cueFire) := by
  unfold sceneDues
  split
  · next h => simp [h]
  · next h => simp [h, and_assoc]

theorem mem_claimsWith {s : State} {p : Claim → Bool} {c : ClaimId} :
    c ∈ claimsWith s p ↔ ∃ x, claimAt s c = some x ∧ p x = true := by
  simp only [claimsWith, List.mem_filter, List.mem_finRange, true_and]
  cases claimAt s c <;> simp

theorem mem_claimDues {s : State} {d : Due} : d ∈ claimDues s ↔
    (∃ c, (∃ x, claimAt s c = some x ∧ timesOut x = true) ∧ .holdTimeout c = d) ∨
      ∃ c, (∃ x, claimAt s c = some x ∧ expires x = true) ∧ .chimeExpiry c = d := by
  simp only [claimDues, List.mem_append, List.mem_map, mem_claimsWith]

/-- The deadline that an entry of the outstanding claim file waits for (R108). -/
def deadlineDue (t : TagId) : OutState → Option Due
  | .reserveSent => some (.reserveDeadline t)
  | .commitSent => some (.commitDeadline t)
  | .releaseSent => some (.releaseDeadline t)
  | _ => none

theorem deadlineDue_eq_some {t : TagId} {x : OutState} {d : Due} : deadlineDue t x = some d ↔
    (x = .reserveSent ∧ .reserveDeadline t = d) ∨ (x = .commitSent ∧ .commitDeadline t = d) ∨
      (x = .releaseSent ∧ .releaseDeadline t = d) := by
  cases x <;> simp [deadlineDue]

theorem mem_peerDues {s : State} {d : Due} : d ∈ peerDues s ↔
    ∃ t e, entryAt s t = some e ∧ reached e.deadline s.ring.period = true ∧ deadlineDue t e.state = some d := by
  simp only [peerDues, List.mem_filterMap, List.mem_finRange, true_and]
  refine exists_congr fun t => ?_
  cases entryAt s t with
  | none => simp
  | some e =>
    by_cases h : reached e.deadline s.ring.period = true
    · cases hs : e.state <;> simp [h, hs, deadlineDue]
    · simp [h]

theorem mem_channelDues {s : State} {d : Due} : d ∈ channelDues s ↔
    ∃ ch, (toneEnded s ch = true ∧ d = .toneStepEnd ch) ∨ (silenceEnded s ch = true ∧ d = .silenceStepEnd ch) := by
  simp only [channelDues, List.mem_flatMap, List.mem_finRange, true_and, List.mem_append, mem_dueIf]

theorem mem_playerDues {s : State} {d : Due} : d ∈ playerDues s ↔
    ∃ p, playedOut (playerOf s p) = true ∧ d = .playComplete p := by
  simp only [playerDues, List.mem_flatMap, List.mem_finRange, true_and, mem_dueIf]

/-- The changes that the boundary of a running part makes due, by what the state was before it. -/
theorem mem_boundaryDues {s : State} (st : ∀ ch, steady s ch) {d : Due} : d ∈ boundaryDues s ↔
    (((∃ k, ((tget s.ring.origins k).valid = true ∧ 249 ≤ (tget s.ring.origins k).age) ∧ .originAgeOut k = d) ∨
      ∃ i, losesSource s i = true ∧ .sourceLost i = d) ∨
    (suspended (evaluateHold s) = false ∧ ((∃ f ∈ s.scene.fades, lastStep f = true ∧ .fadeComplete f.target = d) ∨
      (∃ c ∈ s.scene.cues, cueReached s c = true) ∧ d = .cueFire)) ∨
    (noteEnded s = true ∧ d = .chimeNoteEnd) ∨
    ((∃ c, (∃ x, claimAt s c = some x ∧ timesOut x = true) ∧ .holdTimeout c = d) ∨
      ∃ c, (∃ x, claimAt s c = some x ∧ expires x = true) ∧ .chimeExpiry c = d) ∨
    (∃ t e, entryAt s t = some e ∧ reached e.deadline s.ring.period = true ∧ deadlineDue t e.state = some d) ∨
    (7 ≤ s.intercom.phase ∧ d = .scanStart) ∨
    (∃ ch, (toneEnded s ch = true ∧ d = .toneStepEnd ch) ∨ (silenceEnded s ch = true ∧ d = .silenceStepEnd ch)) ∨
    (∃ p, playedOut (playerOf s p) = true ∧ d = .playComplete p) ∨
    (256 ≤ (boundaryWorked s).lines.windowCount ∧ d = .windowClose) ∨
    ((s.control.mode = .run ∧ s.control.node.timeout ≤ s.control.timer + 1) ∧ d = .standaloneEntry) ∨
    (s.control.node.reportInterval ≤ s.reports.interval + 1 ∧ d = .reportEmission)) := by
  have claims : (sceneDone s).claims = s.claims := sceneDone_keeps s .claims (by simp)
  have same := sameForChannels_chimeDone s
  obtain ⟨-, ⟨-, -, clips⟩, -, -⟩ := channelsDone_facts st
  obtain ⟨intercom, control, interval⟩ := boundaryWorked_counts st
  have ring : (boundaryWorked s).ring.period = s.ring.period := by
    rw [boundaryWorked_ring st, judgedState_period]
  have heldRing : (evaluateHold (lineStage1 (judgedState s))).ring.period = s.ring.period := by
    rw [held_keeps s .ring (by simp), lineStage1_keeps _ .ring (by simp), judgedState_period]
  have scene := held_scene s
  have suspension : suspended (evaluateHold (lineStage1 (judgedState s))) = suspended (evaluateHold s) := by
    rw [suspended, scene, suspended]
  have fades : (evaluateHold (lineStage1 (judgedState s))).scene.fades = s.scene.fades := by
    rw [scene, evaluateHold_scene]
  have cues : (evaluateHold (lineStage1 (judgedState s))).scene.cues = s.scene.cues := by
    rw [scene, evaluateHold_scene]
  have reachedSame : ∀ c, cueReached (evaluateHold (lineStage1 (judgedState s))) c = cueReached s c := fun c => by
    rw [cueReached, heldRing, cueReached]
  have note : noteEnded (countClaims (sceneDone s)) = noteEnded s :=
    noteEnded_congr (by simp [countClaims, claims]) (by simp [countClaims, claims])
  have claimSame : ∀ c, claimAt (sceneDone s) c = claimAt s c := fun c => by rw [claimAt, claims, claimAt]
  have peers : ∀ t, entryAt (boundaryWorked s) t = entryAt s t := fun t => by
    rw [entryAt, boundaryWorked_keeps st .peer (by simp), entryAt]
  have phase : ((boundaryWorked s).intercom.phase == 0) = true ↔ 7 ≤ s.intercom.phase := by
    rw [intercom]
    by_cases h : 7 ≤ s.intercom.phase <;> simp [h]
  have tones : ∀ ch, toneEnded (chimeDone s) ch = toneEnded s ch := fun ch => toneEnded_congr same (channelOf_chimeDone s ch)
  have silences : ∀ ch, silenceEnded (chimeDone s) ch = silenceEnded s ch :=
    fun ch => silenceEnded_congr same (channelOf_chimeDone s ch)
  have players : ∀ p, playerOf (channelsDone s) p = playerOf s p := fun p => by rw [playerOf, clips, playerOf]
  have timer : timerExpired (boundaryWorked s) = true ↔
      s.control.mode = .run ∧ s.control.node.timeout ≤ s.control.timer + 1 := by
    rw [timerExpired, control]
    simp only [Bool.and_eq_true, beq_iff_eq, decide_eq_true_eq]
    refine and_congr_right fun h => ?_
    simp [h]
  have emits : intervalReached (boundaryWorked s) = true ↔ s.control.node.reportInterval ≤ s.reports.interval + 1 := by
    rw [intervalReached, control, interval, decide_eq_true_eq]
  simp only [boundaryDues, List.mem_append, mem_firstDues, mem_sceneDues, mem_dueIf, mem_claimDues, mem_peerDues,
    mem_channelDues, mem_playerDues, windowFull, decide_eq_true_eq, ring, suspension, fades, cues, reachedSame, note,
    claimSame, peers, phase, tones, silences, players, timer, emits, or_assoc]

end Sys2Proof.Machine
end

section
namespace Sys2Proof.Machine

/-! ### The local boundary (R18) -/

theorem timedState_reports (s : State) : (timedState s).reports =
    (setTiming .holdover (modRing (fun r => { r with period := r.period + 1, window := true }) s)).reports := rfl

/-- A part that is in HOLDOVER already reports nothing of the timer's boundary (R18). -/
theorem timedState_reports_of_holdover {s : State} (h : s.ring.timing = .holdover) :
    (timedState s).reports = s.reports := by
  rw [timedState_reports, setTiming_of_same (by simpa using h), modRing_reports]

/-- A part that was LOCKED reports HOLDOVER with its master (R18). -/
theorem timedState_reports_of_locked {s : State} (h : s.ring.timing = .locked) : (timedState s).reports =
    (report .holdover s.ring.master 1 { s with ring := (timedState s).ring }).reports := by
  rw [timedState_reports, setTiming_of_change (by simp [h]), setTiming_ring, timedState_ring, if_pos rfl]
  rfl

theorem timedState_countsBut (s : State) :
    countsBut [.localBoundaries, .reportsCoalesced, .reportsDropped] s (timedState s) ∧
      counterOf (timedState s) .localBoundaries = saturatingSucc (counterOf s .localBoundaries) := by
  have timing := setTiming_countsBut .holdover (modRing (fun r => { r with period := r.period + 1, window := true }) s)
  have entered : countsBut [.reportsCoalesced, .reportsDropped] s
      (setTiming .holdover (modRing (fun r => { r with period := r.period + 1, window := true }) s)) := timing
  refine ⟨countsBut_trans (countsBut_mono (by simp) entered) (count_countsBut (by simp) _), ?_⟩
  rw [timedState, counterOf_count, counterOf_of_countsBut entered (by decide)]

/-- The readers that come first find a boundary's tables as they were, with the slots judged. -/
theorem mixView_staged (s : State) : mixView (lineStage1 (judgedState s)) =
    { mixView s with
      slots := (judgedState s).slots
      windowDue := decide (256 ≤ (lineStage1 (judgedState s)).lines.windowCount) } := by
  have kept := staged_keeps s
  obtain ⟨-, -, -, states⟩ := lineStage1_leaves (judgedState s)
  have before : (judgedState s).lines = s.lines := judgedState_keeps s .lines (by simp)
  simp only [mixView]
  rw [lineStage1_keeps _ .slots (by simp), kept .scene (by simp), kept .mix (by simp), kept .claims (by simp), states, before]

theorem accumulated_lane (s : State) (l : LaneId) :
    tget (accumulateLane l s).lines.lanes l = accumulated (isSupervised s l) (tget s.lines.lanes l) := by
  rw [accumulateLane_lines]
  exact tget_tmod_self _ _ _

theorem isSupervised_judged (s : State) (l : LaneId) : isSupervised (judgedState s) l = isSupervised s l := by
  rw [isSupervised, judgedState_keeps s .mix (by simp), isSupervised]

end Sys2Proof.Machine

namespace Sys2Proof
open Machine

/-- Settles O13: the boundary's stages are walked in order, and what each reads is as it was before the boundary. -/
theorem localBoundary : Obligations.LocalBoundary := by
  refine ⟨fun race s hq => ?_, fun race s hr hh st => ?_, fun s hq => ?_⟩
  · obtain ⟨counts, counted⟩ := timedState_countsBut s
    exact ⟨timedState s, exec_localBoundary race hq, timedState_ring s, timedState_reports_of_holdover,
      timedState_reports_of_locked, counted, counts, timedState_keeps s⟩
  · obtain ⟨rest, run⟩ := runBoundary_eq (s := s) hh
    obtain ⟨low, chime, tones, plays⟩ := boundaryWorked_slots st
    obtain ⟨intercom, control, interval⟩ := boundaryWorked_counts st
    obtain ⟨fresh, heard, laneOut, -⟩ := lineStage1_leaves (judgedState s)
    obtain ⟨-, directory, players, -⟩ := playersDone_facts st
    have lines := boundaryWorked_lines st
    have before : (judgedState s).lines = s.lines := judgedState_keeps s .lines (by simp)
    have clips : (boundaryWorked s).clips = (playersDone s).clips := boundaryWorked_keeps_players s .clips (by simp)
    have scene := boundaryWorked_keeps_scene st .scene (by simp)
    have mix := boundaryWorked_keeps_scene st .mix (by simp)
    have ring := boundaryWorked_ring st
    have opened := (openBoundary_eq race s).trans (congrArg closeIfDone ((if_pos hr).trans run))
    refine ⟨_, opened, rfl, rfl, ⟨_, rest, rfl, ?_, ?_, ?_⟩, ?_, ?_, low, chime,
      fun ch => ⟨tones ch, channelOf_boundaryWorked st ch⟩, fun p => ⟨plays p, ?_⟩, boundaryWorked_claims st,
      ?_, ?_, ?_, ?_, ?_, ?_, ?_, intercom, boundaryWorked_alarm st, ?_, control, interval, fun d => ?_, ?_⟩
    · dsimp only
      rw [mixView_staged, modBoundary_lines, lines]
    · rw [mixView_staged]
      exact (tget_judgedState_slots s).1
    · rw [mixView_staged]
      exact (tget_judgedState_slots s).2
    · rw [modBoundary_ring, ring, judgedState_ring]
      rfl
    · rw [modBoundary_ring, ring]
      exact tget_judgedState_origins s
    · exact (congrArg (fun c : Clips => tget c.players p) clips).trans (players p).1
    · exact scene.trans (sceneDone_faded s).1
    · exact mix.trans (sceneDone_faded s).2
    · intro h
      rw [modBoundary_lines, lines, lineStage1_lines_of_not_fresh (before ▸ h), before]
      refine ⟨rfl, fun l => ?_⟩
      rw [tget_tmap, isSupervised_judged, accumulated_lane]
    · intro h
      rw [modBoundary_lines, lines, lineStage1_lines_of_fresh (before ▸ h), before]
      refine ⟨rfl, fun l => ?_⟩
      rw [tget_tmap, isSupervised_judged, recordOf]
    · rw [modBoundary_lines, lines, fresh]
    · rw [modBoundary_lines, lines, heard, before]
    · rw [modBoundary_lines, lines, laneOut, before]
    · rw [modBoundary_clips, clips, directory]
    · refine (mem_boundaryDues st).trans ?_
      cases d <;> simp [deadlineDue_eq_some, and_assoc, and_comm, and_left_comm]
    · exact keepsBut_trans (keepsBut_mono (by simp) (boundaryWorked_keeps st))
        (keepsBut_mono (by simp) (keepsBut_modBoundary _ _))
  · refine ⟨modRing (fun r => { r with window := false }) s, ?_, rfl, keepsBut_modRing _ s⟩
    simp [exec, execRelabelWindowClose, settle_of_quiet hq]

end Sys2Proof
end

section
namespace Sys2Proof.Machine

/-! ### The bytes of an image (R199, section 11.5) -/

/-- The bytes of an image behind its body. -/
def imageTail (x : ImageTables) : List Byte :=
  (List.range (32756 - (imageBodyBytes x).length)).map fun i => Config.imageFill (12 + (imageBodyBytes x).length + i)

/-- An image is its header of 12 bytes, its body and the bytes to its end. -/
theorem imageBytes_eq (x : ImageTables) : imageBytes x =
    imageSignature ++ (bytes16 1 ++ (bytes16 (imageBodyBytes x).length ++
      (bytes32 (crc32 (imageBodyBytes x)) ++ (imageBodyBytes x ++ imageTail x)))) := by
  simp only [imageBytes, imageTail, List.append_assoc]

theorem length_imageBytes {x : ImageTables} (h : (imageBodyBytes x).length ≤ 32756) : (imageBytes x).length = 32768 := by
  simp only [imageBytes_eq, imageTail, List.length_append, length_bytes16, length_bytes32, List.length_map,
    List.length_range]
  have signature : imageSignature.length = 4 := rfl
  omega

theorem take_imageBytes (x : ImageTables) : (imageBytes x).take 4 = imageSignature := by
  rw [imageBytes_eq]
  exact List.take_left' rfl

theorem format_imageBytes (x : ImageTables) : word16At (imageBytes x) 4 = 1 := by
  rw [imageBytes_eq]
  exact (word16At_append (a := imageSignature) _ 0).trans (word16At_bytes16 (by decide) _)

theorem bodyLength_imageBytes {x : ImageTables} (h : (imageBodyBytes x).length ≤ 32756) :
    word16At (imageBytes x) 6 = (imageBodyBytes x).length := by
  rw [imageBytes_eq]
  calc word16At _ 6
    _ = word16At (bytes16 1 ++ _) 2 := word16At_append (a := imageSignature) _ 2
    _ = word16At (bytes16 (imageBodyBytes x).length ++ _) 0 := word16At_append (a := bytes16 1) _ 0
    _ = (imageBodyBytes x).length := word16At_bytes16 (h.trans_lt (by decide)) _

theorem check_imageBytes (x : ImageTables) : word32At (imageBytes x) 8 = (crc32 (imageBodyBytes x)).toNat := by
  rw [imageBytes_eq]
  calc word32At _ 8
    _ = word32At (bytes16 1 ++ _) 4 := word32At_append (a := imageSignature) _ 4
    _ = word32At (bytes16 (imageBodyBytes x).length ++ _) 2 := word32At_append (a := bytes16 1) _ 2
    _ = word32At (bytes32 (crc32 (imageBodyBytes x)) ++ _) 0 :=
      word32At_append (a := bytes16 (imageBodyBytes x).length) _ 0
    _ = (crc32 (imageBodyBytes x)).toNat := word32At_bytes32 _ _

theorem body_imageBytes (x : ImageTables) :
    ((imageBytes x).drop 12).take (imageBodyBytes x).length = imageBodyBytes x := by
  have headed : imageBytes x = (imageSignature ++ bytes16 1 ++ bytes16 (imageBodyBytes x).length ++
      bytes32 (crc32 (imageBodyBytes x))) ++ (imageBodyBytes x ++ imageTail x) := by
    simp only [imageBytes_eq, List.append_assoc]
  rw [headed, List.drop_left' (by rfl)]
  exact List.take_left' rfl

/-- An image whose body is of the length that its tables need is judged valid (R198). -/
theorem judgeImage_imageBytes {x y : ImageTables} (low : 1 ≤ (imageBodyBytes x).length)
    (high : (imageBodyBytes x).length ≤ 32756) (read : imageBody (imageBodyBytes x) = some y) :
    judgeImage (imageBytes x) = .ok y := by
  have signed : ¬((imageBytes x).take 4 ≠ imageSignature ∨ word16At (imageBytes x) 4 ≠ 1) := by
    rw [take_imageBytes, format_imageBytes]
    simp
  have sized : ¬((imageBodyBytes x).length = 0 ∨ 32756 < (imageBodyBytes x).length) := by omega
  simp only [judgeImage, if_neg signed, bodyLength_imageBytes high, if_neg sized, body_imageBytes, read,
    check_imageBytes, BitVec.ofNat_toNat, BitVec.setWidth_eq, if_true]

end Sys2Proof.Machine
end

section
namespace Sys2Proof.Machine

/-! ### What sending a frame changes (R13, R14, R15) -/

/-- From one state to another the ring differs in what stands at the ports and in the next sequence number alone, and no
port changes its link. -/
structure Sends (s t : State) : Prop where
  ring : t.ring = { s.ring with portA := t.ring.portA, portB := t.ring.portB, seq := t.ring.seq }
  links : ∀ p, (portOf t p).link = (portOf s p).link

theorem sends_of_ring {s t : State} (h : t.ring = s.ring) : Sends s t :=
  ⟨by rw [h], fun p => by simp only [portOf, h]⟩

theorem sends_refl (s : State) : Sends s s := sends_of_ring rfl

theorem sends_trans {s t u : State} (h : Sends s t) (k : Sends t u) : Sends s u :=
  ⟨by rw [k.ring, h.ring], fun p => (k.links p).trans (h.links p)⟩

theorem sends_modPort {p : Port} {f : RingPort → RingPort} (s : State) (h : ∀ x, (f x).link = x.link) :
    Sends s (modPort p f s) := by
  refine ⟨?_, fun q => ?_⟩
  · cases p <;> rfl
  · cases p <;> cases q <;> simp [portOf, modPort, h]

theorem sends_arbitrate (p : Port) (s : State) : Sends s (arbitrate p s) := by
  unfold arbitrate
  split
  · split
    · exact sends_modPort s fun _ => rfl
    · exact sends_refl s
  · exact sends_refl s

theorem sends_offer (p : Port) (f : Frame) (s : State) : Sends s (offer p f s) := by
  have counted : ∀ c, Sends s (count c s) := fun _ => sends_of_ring rfl
  unfold offer
  split_ifs
  · exact counted _
  · exact counted _
  · exact counted _
  · exact sends_trans (sends_modPort (f := fun x => { x with queue := x.queue ++ [f] }) s fun _ => rfl)
      (sends_arbitrate p _)

theorem sends_originate (kind : Byte) (dest : Nat) (body : Body) (s : State) : Sends s (originate kind dest body s) := by
  unfold originate
  split
  · have numbered : Sends s (modRing (fun r => { r with seq := r.seq + 1 }) s) := ⟨rfl, fun p => by cases p <;> rfl⟩
    exact sends_trans (sends_trans numbered (sends_offer _ _ _)) (sends_offer _ _ _)
  · exact sends_refl s

theorem arbitrate_countsBut (l : List Counter) (p : Port) (s : State) : countsBut l s (arbitrate p s) :=
  countsBut_of_counters (arbitrate_keeps p s .counters (by simp))

/-- A frame that is no AUDIO frame is lost at a port as LINK-DISCARD or QUEUE-FULL alone (R14). -/
theorem offer_countsBut {p : Port} {f : Frame} (s : State) (h : f.kind ≠ audioKind) :
    countsBut [.linkDiscard p, .queueFull p] s (offer p f s) := by
  unfold offer
  split_ifs
  · exact count_countsBut (by simp) s
  · exact count_countsBut (by simp) s
  · next _ _ audio => exact absurd audio.1 h
  · exact countsBut_trans (countsBut_of_counters (modPort_keeps p _ s .counters (by simp))) (arbitrate_countsBut _ p _)

theorem originate_countsBut {kind : Byte} (dest : Nat) (body : Body) (s : State) (h : kind ≠ audioKind) :
    countsBut [.linkDiscard .a, .linkDiscard .b, .queueFull .a, .queueFull .b] s (originate kind dest body s) := by
  unfold originate
  split
  · have numbered : countsBut [.linkDiscard .a, .linkDiscard .b, .queueFull .a, .queueFull .b] s
        (modRing (fun r => { r with seq := r.seq + 1 }) s) := countsBut_refl _ s
    exact countsBut_trans (countsBut_trans numbered (countsBut_mono (by simp) (offer_countsBut _ h)))
      (countsBut_mono (by simp) (offer_countsBut _ h))
  · exact countsBut_refl _ s

/-! #### What a sent frame depends on -/

theorem modPort_ring_congr {p : Port} {f : RingPort → RingPort} {s t : State} (h : t.ring = s.ring) :
    (modPort p f t).ring = (modPort p f s).ring := by
  cases p <;> simp [modPort, h]

theorem arbitrate_ring_congr {p : Port} {s t : State} (h : t.ring = s.ring) :
    (arbitrate p t).ring = (arbitrate p s).ring := by
  have port : portOf t p = portOf s p := by simp only [portOf, h]
  unfold arbitrate
  rw [port]
  split
  · split
    · exact modPort_ring_congr h
    · exact h
  · exact h

theorem offer_ring_congr {p : Port} {f : Frame} {s t : State} (h : t.ring = s.ring) :
    (offer p f t).ring = (offer p f s).ring := by
  have port : portOf t p = portOf s p := by simp only [portOf, h]
  unfold offer
  rw [port]
  split_ifs
  · exact h
  · exact h
  · exact h
  · exact arbitrate_ring_congr (modPort_ring_congr h)

theorem originate_ring_congr {kind : Byte} {dest : Nat} {body : Body} {s t : State} (ring : t.ring = s.ring)
    (mode : t.control.mode = s.control.mode) : (originate kind dest body t).ring = (originate kind dest body s).ring := by
  unfold originate running
  rw [mode]
  split
  · dsimp only
    rw [ring]
    exact offer_ring_congr (offer_ring_congr (by simp [ring]))
  · exact ring

theorem originate_control (kind : Byte) (dest : Nat) (body : Body) (s : State) :
    (originate kind dest body s).control = s.control := originate_keeps kind dest body s .control (by simp)

/-! ### The answer of an operation (R190, R197) -/

/-- The counters of an answer: an operation refused, and its REPLY lost at a port. -/
def answerCounts : List Counter := [.linkDiscard .a, .linkDiscard .b, .queueFull .a, .queueFull .b, .operationsRefused]

/-- From one state to another an answer is given: the service of the frame goes on or ends, with a REPLY of the frame then,
and nothing else of the control interpreter and of the ring changes. -/
structure Replies (v : ControlService) (s t : State) : Prop where
  control : t.control = { s.control with service := t.control.service }
  reply : t.ring = s.ring ∨ ∃ results overflow,
    t.ring = (originate replyKind v.origin (.reply ⟨v.frameNumber, results, overflow⟩) s).ring
  counts : countsBut answerCounts s t

theorem finishFrame_replies (v : ControlService) (s : State) : Replies v s (finishFrame v s) := by
  unfold finishFrame
  dsimp only
  split
  · exact ⟨rfl, .inl rfl, countsBut_refl _ s⟩
  · refine ⟨?_, .inr ⟨v.results, v.overflow, originate_ring_congr rfl rfl⟩, ?_⟩
    · rw [originate_control]
      rfl
    · exact countsBut_mono (by simp [answerCounts]) (originate_countsBut (kind := replyKind) v.origin
        (.reply ⟨v.frameNumber, v.results, v.overflow⟩) (modControl (fun c => { c with service := none }) s) (by decide))

theorem continueFrame_replies (v : ControlService) (s : State) : Replies v s (continueFrame v s) := by
  unfold continueFrame
  split
  · exact finishFrame_replies v s
  · split
    · have placed : ∀ r, (placeResult r v).origin = v.origin ∧ (placeResult r v).frameNumber = v.frameNumber :=
        fun r => by unfold placeResult; split <;> exact ⟨rfl, rfl⟩
      obtain ⟨control, reply, counts⟩ := finishFrame_replies (placeResult ⟨v.index, .outOfRange, .none⟩ v)
        (count .operationsRefused s)
      obtain ⟨origin, number⟩ := placed ⟨v.index, .outOfRange, .none⟩
      rw [origin, number] at reply
      refine ⟨control, reply.imp id ?_, countsBut_trans (count_countsBut (by simp [answerCounts]) s) counts⟩
      rintro ⟨results, overflow, sent⟩
      exact ⟨results, overflow, sent.trans (originate_ring_congr rfl rfl)⟩
    · exact ⟨rfl, .inl rfl, countsBut_refl _ s⟩

/-- An answer is given, with the REPLY that the answered frame may then be due; of the ring nothing else changes, and of the
control interpreter the answer and the service. -/
structure Answers (r : Result) (s t : State) : Prop where
  control : t.control = { s.control with answer := r, service := t.control.service }
  reply : ringKept s t
  alone : s.control.service = none → t.ring = s.ring ∧ t.control.service = none
  counts : countsBut answerCounts s t

/-- An answer recorded, and counted where it refuses the operation (R197). -/
def answeredState (code : ResultCode) (data : ResultData) (s : State) : State :=
  let t := modControl (fun c => { c with answer := ⟨operationIndex s, code, data⟩ }) s
  if isRefusal code then count .operationsRefused t else t

theorem answeredState_facts (code : ResultCode) (data : ResultData) (s : State) :
    (answeredState code data s).control = { s.control with answer := ⟨operationIndex s, code, data⟩ } ∧
      (answeredState code data s).ring = s.ring ∧ countsBut answerCounts s (answeredState code data s) := by
  unfold answeredState
  dsimp only
  split
  · exact ⟨rfl, rfl, count_countsBut (by simp [answerCounts]) (modControl _ s)⟩
  · exact ⟨rfl, rfl, countsBut_refl _ s⟩

/-- The service of an answered frame: its result placed, and the next operation at its head (R190). -/
def nextOperation (owed : Bool) (code : ResultCode) (data : ResultData) (s : State) (v : ControlService) : ControlService :=
  let w := if owed || isRefusal code then placeResult ⟨operationIndex s, code, data⟩ v else v
  { w with index := v.index + 1, waiting := false }

theorem nextOperation_head (owed : Bool) (code : ResultCode) (data : ResultData) (s : State) (v : ControlService) :
    (nextOperation owed code data s v).origin = v.origin ∧
      (nextOperation owed code data s v).frameNumber = v.frameNumber := by
  unfold nextOperation placeResult
  dsimp only
  split_ifs <;> exact ⟨rfl, rfl⟩

theorem finishOperation_eq (owed : Bool) (code : ResultCode) (data : ResultData) (s : State) :
    finishOperation owed code data s = match s.control.service with
      | none => answeredState code data s
      | some v => continueFrame (nextOperation owed code data s v) (answeredState code data s) := by
  unfold finishOperation
  cases s.control.service <;> rfl

theorem finishOperation_answers (owed : Bool) (code : ResultCode) (data : ResultData) (s : State) :
    Answers ⟨operationIndex s, code, data⟩ s (finishOperation owed code data s) := by
  obtain ⟨control, ring, counted⟩ := answeredState_facts code data s
  rw [finishOperation_eq]
  cases service : s.control.service with
  | none => exact ⟨by rw [control], .inl ring, fun _ => ⟨ring, by rw [control, service]⟩, counted⟩
  | some v =>
    obtain ⟨origin, number⟩ := nextOperation_head owed code data s v
    obtain ⟨kept, reply, counts⟩ := continueFrame_replies (nextOperation owed code data s v) (answeredState code data s)
    refine ⟨by rw [kept, control], ?_, by simp [service], countsBut_trans counted counts⟩
    refine reply.imp (fun h => h.trans ring) ?_
    rintro ⟨results, overflow, sent⟩
    rw [origin, number] at sent
    exact ⟨v, results, overflow, service, sent.trans (originate_ring_congr ring (by rw [control]))⟩

/-- The REPLY and the service after an answer depend on the ring and the control interpreter alone. -/
theorem finishFrame_congr (v : ControlService) {s t : State} (ring : t.ring = s.ring) (control : t.control = s.control) :
    (finishFrame v t).ring = (finishFrame v s).ring ∧ (finishFrame v t).control = (finishFrame v s).control := by
  unfold finishFrame
  dsimp only
  split
  · exact ⟨ring, by simp [control]⟩
  · rw [originate_control, originate_control]
    exact ⟨originate_ring_congr ring (by simp [control]), by simp [control]⟩

theorem continueFrame_congr (v : ControlService) {s t : State} (ring : t.ring = s.ring) (control : t.control = s.control) :
    (continueFrame v t).ring = (continueFrame v s).ring ∧ (continueFrame v t).control = (continueFrame v s).control := by
  unfold continueFrame
  split
  · exact finishFrame_congr v ring control
  · split
    · exact finishFrame_congr _ ring control
    · exact ⟨ring, by simp [control]⟩

theorem finishOperation_congr (owed : Bool) (code : ResultCode) (data : ResultData) {s t : State}
    (ring : t.ring = s.ring) (control : t.control = s.control) :
    (finishOperation owed code data t).ring = (finishOperation owed code data s).ring ∧
      (finishOperation owed code data t).control = (finishOperation owed code data s).control := by
  have index : operationIndex t = operationIndex s := by rw [operationIndex, control, operationIndex]
  obtain ⟨controlS, ringS, -⟩ := answeredState_facts code data s
  obtain ⟨controlT, ringT, -⟩ := answeredState_facts code data t
  have ring' : (answeredState code data t).ring = (answeredState code data s).ring := by rw [ringT, ringS, ring]
  have control' : (answeredState code data t).control = (answeredState code data s).control := by
    rw [controlT, controlS, control, index]
  have next : ∀ v, nextOperation owed code data t v = nextOperation owed code data s v := fun v => by
    rw [nextOperation, index, nextOperation]
  rw [finishOperation_eq, finishOperation_eq, control]
  cases s.control.service with
  | none => exact ⟨ring', control'⟩
  | some v =>
    dsimp only
    rw [next]
    exact continueFrame_congr _ ring' control'

theorem commandDone_answers (code : ResultCode) (s : State) :
    Answers ⟨operationIndex s, code, .none⟩ s (commandDone code s) := finishOperation_answers false code .none s

theorem commandDone_answered (code : ResultCode) (s : State) : answered code s (commandDone code s) := by
  rw [answered, (commandDone_answers code s).control]

/-- What an answer keeps (R197), seen from a state with the ring and the control interpreter that it found. -/
theorem commandDone_answerKept {code : ResultCode} {s u : State} (h : owes code .none = false) (ring : u.ring = s.ring)
    (control : u.control = s.control) : answerKept s (commandDone code u) := by
  obtain ⟨kept, reply, alone, -⟩ := commandDone_answers code u
  obtain ⟨sameRing, sameControl⟩ := finishOperation_congr false code .none ring control
  have answer : (commandDone code u).control.answer = ⟨operationIndex u, code, .none⟩ := by rw [kept]
  refine ⟨by rw [controlKept, kept, control]; exact ⟨rfl, rfl, rfl, rfl, rfl, rfl⟩, ?_, ?_, ?_, ?_⟩
  · refine reply.imp (fun h => h.trans ring) ?_
    rintro ⟨v, results, overflow, service, sent⟩
    exact ⟨v, results, overflow, control ▸ service, sent.trans (originate_ring_congr ring (by rw [control]))⟩
  · rw [answer]
    dsimp only
    rw [h]
    exact sameRing
  · rw [answer]
    dsimp only
    rw [h]
    exact congrArg Control.service sameControl
  · intro none
    obtain ⟨r, c⟩ := alone (control ▸ none)
    exact ⟨r.trans ring, c⟩

theorem commandDone_refused {code : ResultCode} (h : owes code .none = false) (s : State) :
    refusedWith code s (commandDone code s) :=
  ⟨commandDone_answered code s, commandDone_keeps code s, commandDone_answerKept h rfl rfl⟩

end Sys2Proof.Machine
end

section
namespace Sys2Proof.Machine

/-! ### What the ends of claims and calls by a reset leave (R100, R120, R134) -/

/-- The counters of the claims between nodes that a reset ends. -/
def endCounts : List Counter := [.inboundPreempted, .linkDiscard .a, .linkDiscard .b, .queueFull .a, .queueFull .b]

/-- From one state to another claims and calls end without a report: the tables, the slots' records, what a soft reset
leaves of a station, the clip directory and the write queue stay, and of the ring what `Sends` says. -/
structure EndsQuiet (s t : State) : Prop where
  keeps : keepsBut [.ring, .slots, .claims, .peer, .intercom, .alarm, .clips, .counters] s t
  sends : Sends s t
  counts : countsBut endCounts s t
  records : ∀ j, (tget t.slots j).mode = (tget s.slots j).mode ∧ (tget t.slots j).cls = (tget s.slots j).cls ∧
    (tget t.slots j).trim = (tget s.slots j).trim
  tables : t.claims.groups = s.claims.groups ∧ t.claims.chimeTable = s.claims.chimeTable
  stations : ∀ st, softStation (stationOf t st) = softStation (stationOf s st)
  intercom : t.intercom.keymap = s.intercom.keymap ∧ t.intercom.phase = s.intercom.phase
  alarm : t.alarm = { s.alarm with channels := t.alarm.channels }
  clips : t.clips.directory = s.clips.directory ∧ t.clips.writtenSet = s.clips.writtenSet ∧ t.clips.writes = s.clips.writes

theorem endsQuiet_refl (s : State) : EndsQuiet s s :=
  ⟨keepsBut_refl _ s, sends_refl s, countsBut_refl _ s, fun _ => ⟨rfl, rfl, rfl⟩, ⟨rfl, rfl⟩, fun _ => rfl, ⟨rfl, rfl⟩, rfl,
    ⟨rfl, rfl, rfl⟩⟩

theorem endsQuiet_trans {s t u : State} (h : EndsQuiet s t) (k : EndsQuiet t u) : EndsQuiet s u where
  keeps := keepsBut_trans h.keeps k.keeps
  sends := sends_trans h.sends k.sends
  counts := countsBut_trans h.counts k.counts
  records := fun j => by
    obtain ⟨mode, cls, trim⟩ := h.records j
    obtain ⟨mode', cls', trim'⟩ := k.records j
    exact ⟨mode'.trans mode, cls'.trans cls, trim'.trans trim⟩
  tables := ⟨k.tables.1.trans h.tables.1, k.tables.2.trans h.tables.2⟩
  stations := fun st => (k.stations st).trans (h.stations st)
  intercom := ⟨k.intercom.1.trans h.intercom.1, k.intercom.2.trans h.intercom.2⟩
  alarm := by rw [k.alarm, h.alarm]
  clips := by
    obtain ⟨directory, written, writes⟩ := h.clips
    obtain ⟨directory', written', writes'⟩ := k.clips
    exact ⟨directory'.trans directory, written'.trans written, writes'.trans writes⟩

theorem endsQuiet_forEach {α : Type} {f : α → State → State} (h : ∀ a s, EndsQuiet s (f a s)) (l : List α) (s : State) :
    EndsQuiet s (forEach l f s) :=
  forEach_induct (EndsQuiet s) f l (fun a _ t ht => endsQuiet_trans ht (h a t)) s (endsQuiet_refl s)

/-- A change of the peer unit's state. -/
theorem endsQuiet_modPeer (f : Peer → Peer) (s : State) : EndsQuiet s (modPeer f s) :=
  { endsQuiet_refl s with keeps := keepsBut_mono (by simp) (keepsBut_modPeer f s), sends := sends_of_ring rfl }

/-- A change of the claim unit that leaves its tables. -/
theorem endsQuiet_modClaims {f : Claims → Claims} (s : State)
    (h : ∀ x, (f x).groups = x.groups ∧ (f x).chimeTable = x.chimeTable) : EndsQuiet s (modClaims f s) :=
  { endsQuiet_refl s with
    keeps := keepsBut_mono (by simp) (keepsBut_modClaims f s), sends := sends_of_ring rfl, tables := h s.claims }

theorem tget_modSlot (i j : SlotId) (f : Slot → Slot) (s : State) :
    tget (modSlot i f s).slots j = if i = j then f (tget s.slots j) else tget s.slots j := tget_tmod _ _ _ _

theorem endsQuiet_rebind (i : SlotId) (s : State) : EndsQuiet s (rebind .unbound i s) :=
  { endsQuiet_refl s with
    keeps := keepsBut_mono (by simp) (rebind_keeps _ i s)
    sends := sends_of_ring rfl
    records := fun j => by
      rw [rebind, tget_modSlot]
      split <;> exact ⟨rfl, rfl, rfl⟩ }

theorem endsQuiet_count (s : State) : EndsQuiet s (count .inboundPreempted s) :=
  { endsQuiet_refl s with
    keeps := keepsBut_mono (by simp) (count_keeps _ s)
    sends := sends_of_ring rfl
    counts := count_countsBut (by simp [endCounts]) s }

theorem endsQuiet_of_sent {s t : State} (keeps : keepsBut [.ring, .counters] s t) (sends : Sends s t)
    (counts : countsBut endCounts s t) : EndsQuiet s t where
  keeps := keepsBut_mono (by simp) keeps
  sends := sends
  counts := counts
  records := fun j => by rw [keeps .slots (by simp)]; exact ⟨rfl, rfl, rfl⟩
  tables := by rw [keeps .claims (by simp)]; exact ⟨rfl, rfl⟩
  stations := fun st => by rw [stationOf, keeps .intercom (by simp), stationOf]
  intercom := by rw [keeps .intercom (by simp)]; exact ⟨rfl, rfl⟩
  alarm := by rw [keeps .alarm (by simp)]
  clips := by rw [keeps .clips (by simp)]; exact ⟨rfl, rfl, rfl⟩

theorem endsQuiet_sendClaim (dest : Nat) (payload : List Byte) (s : State) : EndsQuiet s (sendClaim dest payload s) :=
  endsQuiet_of_sent (originate_keeps _ _ _ s) (sends_originate _ _ _ s)
    (countsBut_mono (by simp [endCounts]) (originate_countsBut dest _ s (by decide)))

theorem endsQuiet_modChannel (ch : ChanId) (f : Channel → Channel) (s : State) : EndsQuiet s (modChannel ch f s) :=
  { endsQuiet_refl s with
    keeps := keepsBut_mono (by simp) (keepsBut_modAlarm _ s), sends := sends_of_ring rfl, alarm := rfl }

theorem endsQuiet_stopPlayer (p : ChanId) (s : State) : EndsQuiet s (stopPlayer p s) := by
  unfold stopPlayer
  split
  · exact endsQuiet_refl s
  · exact { endsQuiet_refl s with
      keeps := keepsBut_mono (by simp) (keepsBut_modClips _ s), sends := sends_of_ring rfl, clips := ⟨rfl, rfl, rfl⟩ }

/-- A change of the calls alone. -/
theorem endsQuiet_modCalls {f : Intercom → Intercom} (s : State)
    (h : ∀ x, (f x).stations = x.stations ∧ (f x).keymap = x.keymap ∧ (f x).phase = x.phase) :
    EndsQuiet s (modIntercom f s) := by
  obtain ⟨stations, keymap, phase⟩ := h s.intercom
  exact { endsQuiet_refl s with
    keeps := keepsBut_mono (by simp) (keepsBut_modIntercom f s)
    sends := sends_of_ring rfl
    stations := fun st => by rw [stationOf, modIntercom_intercom, stations, stationOf]
    intercom := ⟨keymap, phase⟩ }

/-- A change of a station in what a soft reset writes over. -/
theorem endsQuiet_modStation {st : StationId} {f : Station → Station} (s : State)
    (h : ∀ x, softStation (f x) = softStation x) : EndsQuiet s (modStation st f s) :=
  { endsQuiet_refl s with
    keeps := keepsBut_mono (by simp) (keepsBut_modIntercom _ s)
    sends := sends_of_ring rfl
    stations := fun j => by
      have changed : stationOf (modStation st f s) j = if st = j then f (stationOf s j) else stationOf s j :=
        tget_tmod _ _ _ _
      rw [changed]
      split
      · exact h _
      · rfl
    intercom := ⟨rfl, rfl⟩ }

/-! #### The end of a claim (R91) -/

theorem endsQuiet_setList (z : ZoneId) (l : List ListEntry) (s : State) : EndsQuiet s (setList z l s) :=
  endsQuiet_modClaims s fun _ => ⟨rfl, rfl⟩

theorem endsQuiet_noteZone (z : ZoneId) (s : State) : EndsQuiet s (noteZone true z s) := by
  unfold noteZone
  dsimp only
  split
  · exact endsQuiet_refl s
  · rw [reportUnless, if_pos rfl]
    exact endsQuiet_modClaims s fun _ => ⟨rfl, rfl⟩

theorem endsQuiet_removeEntry (c : ClaimId) (z : ZoneId) (s : State) : EndsQuiet s (removeEntry true c z s) :=
  endsQuiet_trans (endsQuiet_setList z _ s) (endsQuiet_noteZone z _)

theorem endsQuiet_releaseSlot (c : ClaimId) (cl : Claim) (r : EndReason) (s : State) :
    EndsQuiet s (releaseSlot c cl r s) := by
  unfold releaseSlot
  split
  · exact endsQuiet_rebind _ s
  · exact endsQuiet_rebind _ s
  · exact endsQuiet_refl s
  · split
    · split
      · exact endsQuiet_stopPlayer _ s
      · exact endsQuiet_refl s
    · exact endsQuiet_refl s

theorem endsQuiet_releaseEntry (t : TagId) (s : State) : EndsQuiet s (releaseEntry t s) := by
  unfold releaseEntry
  split
  · exact endsQuiet_trans (endsQuiet_modPeer _ s) (endsQuiet_sendClaim _ _ _)
  · exact endsQuiet_refl s

theorem endsQuiet_clearHold (c : ClaimId) (s : State) : EndsQuiet s (clearHold c s) := endsQuiet_modPeer _ s

theorem endsQuiet_releasePeers (c : ClaimId) (s : State) : EndsQuiet s (releasePeers c s) :=
  endsQuiet_trans (endsQuiet_forEach endsQuiet_releaseEntry _ s) (endsQuiet_clearHold c _)

theorem endsQuiet_mapMember (st : StationId) (f : MemberState → MemberState) (s : State) :
    EndsQuiet s (mapMember st f s) := endsQuiet_modCalls s fun _ => ⟨rfl, rfl, rfl⟩

/-- A station whose page with the claim given has ended (R136). -/
def withoutPage (c : ClaimId) (x : Station) : Station :=
  { x with page := match x.page with
      | some p => if p.claim = some c then none else some p
      | none => none }

theorem tellStation_reset (st : StationId) (c : ClaimId) (s : State) : tellStation st c .reset s =
    mapMember st (fun m => if m = .held then .within else m) (modStation st (withoutPage c) s) := rfl

theorem endsQuiet_tellStation (st : StationId) (c : ClaimId) (s : State) : EndsQuiet s (tellStation st c .reset s) := by
  rw [tellStation_reset]
  exact endsQuiet_trans (endsQuiet_modStation (f := withoutPage c) s fun _ => rfl) (endsQuiet_mapMember st _ _)

theorem endsQuiet_tellOrigin (node tag n : Nat) (s : State) : EndsQuiet s (tellOrigin node tag n .reset s) := by
  unfold tellOrigin
  split
  · exact endsQuiet_trans (endsQuiet_sendClaim _ _ s) (endsQuiet_count _)
  · exact endsQuiet_refl s

theorem endsQuiet_tellOwner (c : ClaimId) (cl : Claim) (s : State) : EndsQuiet s (tellOwner c cl .reset s) := by
  unfold tellOwner
  split
  · exact endsQuiet_trans (endsQuiet_tellStation _ c s) (endsQuiet_releasePeers c _)
  · exact endsQuiet_releasePeers c s
  · exact endsQuiet_modChannel _ _ s
  · exact endsQuiet_tellOrigin _ _ _ s

/-- A claim's entries leave its zones' lists without a report (R78, R100). -/
def unlisted (c : ClaimId) (s : State) : State := forEach (zonesWhere s c fun _ => true) (removeEntry true c) s

/-- A claim's place of the table becomes free. -/
def freed (c : ClaimId) (s : State) : State := modClaims (fun x => { x with table := tset x.table c none }) s

/-- A claim ends RESET: its entries, its slot, its place, and its owner told (R91). -/
theorem endClaim_reset {c : ClaimId} {cl : Claim} {s : State} (h : claimAt s c = some cl) :
    endClaim .reset c s = tellOwner c cl .reset (freed c (releaseSlot c cl .reset (unlisted c s))) := by
  unfold endClaim
  rw [h]
  rfl

theorem endsQuiet_freed (c : ClaimId) (s : State) : EndsQuiet s (freed c s) := endsQuiet_modClaims s fun _ => ⟨rfl, rfl⟩

theorem endsQuiet_unlisted (c : ClaimId) (s : State) : EndsQuiet s (unlisted c s) :=
  endsQuiet_forEach (endsQuiet_removeEntry c) _ s

theorem endsQuiet_endClaim (c : ClaimId) (s : State) : EndsQuiet s (endClaim .reset c s) := by
  cases h : claimAt s c with
  | none =>
    rw [endClaim_of_free .reset h]
    exact endsQuiet_refl s
  | some cl =>
    rw [endClaim_reset h]
    exact endsQuiet_trans (endsQuiet_unlisted c s) (endsQuiet_trans (endsQuiet_releaseSlot c cl .reset _)
      (endsQuiet_trans (endsQuiet_freed c _) (endsQuiet_tellOwner c cl _)))

theorem endsQuiet_clearService (s : State) : EndsQuiet s (clearService s) := endsQuiet_modPeer _ s

theorem endsQuiet_withdrawRequest (o : Owner) (s : State) : EndsQuiet s (withdrawRequest o s) :=
  endsQuiet_modClaims s fun _ => ⟨rfl, rfl⟩

theorem endsQuiet_abandonService (v : InService) (s : State) : EndsQuiet s (abandonService v s) :=
  endsQuiet_trans (endsQuiet_clearService s)
    (endsQuiet_trans (endsQuiet_withdrawRequest _ _) (endsQuiet_rebind _ _))

/-! #### The end of a call (R134) -/

theorem endsQuiet_setRinger (b : Bool) (st : StationId) (s : State) : EndsQuiet s (setRinger b st s) :=
  endsQuiet_modStation s fun _ => rfl

theorem endsQuiet_setCall (i : CallId) (c : Option Call) (s : State) : EndsQuiet s (setCall i c s) :=
  endsQuiet_modCalls s fun _ => ⟨rfl, rfl, rfl⟩

/-- A call ends RESET: its ringing members fall silent, and its place is free (R134). -/
theorem endCall_reset {i : CallId} {c : Call} {s : State} (h : callAt s i = some c) : endCall .reset i s =
    setCall i none (forEach ((c.members.filter fun m => m.2 == .ringing).map (·.1)) (setRinger false) s) := by
  unfold endCall
  rw [h]
  rfl

theorem endsQuiet_endCall (i : CallId) (s : State) : EndsQuiet s (endCall .reset i s) := by
  cases h : callAt s i with
  | none =>
    rw [endCall, h]
    exact endsQuiet_refl s
  | some c =>
    rw [endCall_reset h]
    exact endsQuiet_trans (endsQuiet_forEach (endsQuiet_setRinger false) _ s) (endsQuiet_setCall i none _)

end Sys2Proof.Machine
end

section
namespace Sys2Proof.Machine

/-! ### What the end of a claim leaves of the parts it does not concern (R91) -/

theorem unlisted_claims (c : ClaimId) (s : State) :
    keepsBut [.claims] s (unlisted c s) ∧ (unlisted c s).claims.table = s.claims.table := by
  have noted : ∀ z u, keepsBut [.claims] u (noteZone true z u) ∧ (noteZone true z u).claims.table = u.claims.table := by
    intro z u
    unfold noteZone
    dsimp only
    split
    · exact ⟨keepsBut_refl _ u, rfl⟩
    · rw [reportUnless, if_pos rfl]
      exact ⟨keepsBut_modClaims _ u, rfl⟩
  refine forEach_induct (fun u => keepsBut [.claims] s u ∧ u.claims.table = s.claims.table) (removeEntry true c) _ ?_ s
    ⟨keepsBut_refl _ s, rfl⟩
  rintro z - u ⟨kept, table⟩
  obtain ⟨kept', table'⟩ := noted z (setList z ((listOf u z).filter fun e => e.claim != c) u)
  exact ⟨keepsBut_trans kept (keepsBut_trans (keepsBut_modClaims _ u) kept'), table'.trans table⟩

theorem stopPlayer_keeps (p : ChanId) (s : State) : keepsBut [.clips] s (stopPlayer p s) :=
  keepsBut_ite (keepsBut_refl _ s) (keepsBut_modClips _ s)

theorem releaseSlot_keeps (c : ClaimId) (cl : Claim) (r : EndReason) (s : State) :
    keepsBut [.slots, .clips] s (releaseSlot c cl r s) := by
  unfold releaseSlot
  split
  · exact keepsBut_mono (by simp) (rebind_keeps _ _ s)
  · exact keepsBut_mono (by simp) (rebind_keeps _ _ s)
  · exact keepsBut_refl _ s
  · split
    · exact keepsBut_ite (keepsBut_mono (by simp) (stopPlayer_keeps _ s)) (keepsBut_refl _ s)
    · exact keepsBut_refl _ s

/-- A slot is released by the claims of stations and of other nodes alone (R91, 2). -/
theorem tget_releaseSlot {c : ClaimId} {cl : Claim} (r : EndReason) {s : State} {j : SlotId}
    (h : cl.slot = j → cl.owner = .management ∨ ∃ ch, cl.owner = .alarm ch) :
    tget (releaseSlot c cl r s).slots j = tget s.slots j := by
  unfold releaseSlot
  split
  · next st owner =>
    have ne : cl.slot ≠ j := fun e => by simp [owner] at h; exact h e
    exact tget_modSlot_ne _ s ne
  · next node tag owner =>
    have ne : cl.slot ≠ j := fun e => by simp [owner] at h; exact h e
    exact tget_modSlot_ne _ s ne
  · rfl
  · split
    · split
      · rw [stopPlayer_keeps _ s .slots (by simp)]
      · rfl
    · rfl

theorem releaseEntry_keeps (t : TagId) (s : State) : keepsBut [.peer, .ring, .counters] s (releaseEntry t s) := by
  unfold releaseEntry
  split
  · exact keepsBut_trans (keepsBut_mono (by simp) (keepsBut_modPeer _ s)) (keepsBut_mono (by simp) (originate_keeps _ _ _ _))
  · exact keepsBut_refl _ s

theorem releasePeers_keeps (c : ClaimId) (s : State) : keepsBut [.peer, .ring, .counters] s (releasePeers c s) :=
  keepsBut_trans (keepsBut_forEach releaseEntry_keeps _ s) (keepsBut_mono (by simp) (keepsBut_modPeer _ _))

theorem tellStation_keeps (st : StationId) (c : ClaimId) (s : State) :
    keepsBut [.intercom] s (tellStation st c .reset s) := by
  rw [tellStation_reset]
  exact keepsBut_trans (keepsBut_modIntercom _ s) (keepsBut_modIntercom _ _)

theorem tellOwner_keeps (c : ClaimId) (cl : Claim) (s : State) :
    keepsBut [.peer, .ring, .counters, .intercom, .alarm] s (tellOwner c cl .reset s) := by
  unfold tellOwner
  split
  · exact keepsBut_trans (keepsBut_mono (by simp) (tellStation_keeps _ c s))
      (keepsBut_mono (by simp) (releasePeers_keeps c _))
  · exact keepsBut_mono (by simp) (releasePeers_keeps c s)
  · exact keepsBut_mono (by simp) (keepsBut_modAlarm _ s)
  · unfold tellOrigin
    exact keepsBut_ite (keepsBut_trans (keepsBut_mono (by simp) (originate_keeps _ _ _ s))
      (keepsBut_mono (by simp) (count_keeps _ _))) (keepsBut_refl _ s)

/-- A part with no outstanding claim releases none, and sends nothing for it (R110). -/
theorem releasePeers_of_free {s : State} (c : ClaimId) (h : ∀ k, entryAt s k = none) :
    (releasePeers c s).ring = s.ring ∧ ∀ k, entryAt (releasePeers c s) k = none := by
  have empty : entriesOf s c (fun _ => true) = [] :=
    List.filter_eq_nil_iff.mpr fun k _ => by simp [h k]
  rw [releasePeers, empty, forEach_nil]
  exact ⟨rfl, h⟩

theorem tellOwner_of_free {c : ClaimId} {cl : Claim} {s : State} (h : ∀ k, entryAt s k = none)
    (owner : ∀ node tag, cl.owner ≠ .peer node tag) :
    (tellOwner c cl .reset s).ring = s.ring ∧ ∀ k, entryAt (tellOwner c cl .reset s) k = none := by
  unfold tellOwner
  split
  · next st _ =>
    have told := tellStation_keeps st c s
    have entries : ∀ k, entryAt (tellStation st c .reset s) k = none := fun k => by
      rw [entryAt, told .peer (by simp), ← entryAt, h k]
    obtain ⟨ring, free⟩ := releasePeers_of_free c entries
    exact ⟨ring.trans (told .ring (by simp)), free⟩
  · exact releasePeers_of_free c h
  · exact ⟨rfl, h⟩
  · next node tag same => exact absurd same (owner node tag)

theorem claimAt_freed (c k : ClaimId) (s : State) : claimAt (freed c s) k = if c = k then none else claimAt s k :=
  tget_tset _ _ _ _

theorem claimAt_endClaim (c k : ClaimId) (s : State) :
    claimAt (endClaim .reset c s) k = if c = k then none else claimAt s k := by
  cases h : claimAt s c with
  | none =>
    rw [endClaim_of_free .reset h]
    split
    · next e => rw [← e, h]
    · rfl
  | some cl =>
    have before : ∀ k, claimAt (releaseSlot c cl .reset (unlisted c s)) k = claimAt s k := fun k => by
      rw [claimAt, releaseSlot_keeps c cl .reset _ .claims (by simp), (unlisted_claims c s).2, claimAt]
    rw [endClaim_reset h, claimAt, tellOwner_keeps c cl _ .claims (by simp), ← claimAt, claimAt_freed, before]

theorem tget_endClaim {c : ClaimId} {s : State} {j : SlotId}
    (h : ∀ cl, claimAt s c = some cl → cl.slot = j → cl.owner = .management ∨ ∃ ch, cl.owner = .alarm ch) :
    tget (endClaim .reset c s).slots j = tget s.slots j := by
  cases hc : claimAt s c with
  | none => rw [endClaim_of_free .reset hc]
  | some cl =>
    rw [endClaim_reset hc, tellOwner_keeps c cl _ .slots (by simp)]
    calc tget (freed c (releaseSlot c cl .reset (unlisted c s))).slots j
      _ = tget (unlisted c s).slots j := tget_releaseSlot .reset (h cl hc)
      _ = tget s.slots j := by rw [(unlisted_claims c s).1 .slots (by simp)]

theorem ring_endClaim {c : ClaimId} {s : State} (free : ∀ k, entryAt s k = none)
    (h : ∀ cl node tag, claimAt s c = some cl → cl.owner ≠ .peer node tag) :
    (endClaim .reset c s).ring = s.ring ∧ ∀ k, entryAt (endClaim .reset c s) k = none := by
  cases hc : claimAt s c with
  | none =>
    rw [endClaim_of_free .reset hc]
    exact ⟨rfl, free⟩
  | some cl =>
    have kept : keepsBut [.slots, .clips, .claims] s (freed c (releaseSlot c cl .reset (unlisted c s))) :=
      keepsBut_trans (keepsBut_mono (by simp) (unlisted_claims c s).1)
        (keepsBut_trans (keepsBut_mono (by simp) (releaseSlot_keeps c cl .reset _))
          (keepsBut_mono (by simp) (keepsBut_modClaims _ _)))
    have entries : ∀ k, entryAt (freed c (releaseSlot c cl .reset (unlisted c s))) k = none := fun k => by
      rw [entryAt, kept .peer (by simp), ← entryAt, free k]
    obtain ⟨ring, free'⟩ := tellOwner_of_free (c := c) entries (fun node tag => h cl node tag hc)
    rw [endClaim_reset hc]
    exact ⟨ring.trans (kept .ring (by simp)), free'⟩

/-! ### All claims ended (R100) -/

/-- Every claim of the table ends RESET. -/
@[irreducible] def claimsEnded (s : State) : State := forEach (everyFin 48) (endClaim .reset) s

theorem endsQuiet_claimsEnded (s : State) : EndsQuiet s (claimsEnded s) := by
  unfold claimsEnded
  exact endsQuiet_forEach endsQuiet_endClaim _ s

theorem claimAt_claimsEnded (s : State) (k : ClaimId) : claimAt (claimsEnded s) k = none := by
  obtain ⟨-, ended, -⟩ := get_forEach_own (f := endClaim .reset) (get := claimAt) (I := fun _ => True) (s := s)
    (fun c u _ _ => ⟨trivial, by simp [claimAt_endClaim], fun b ne => by rw [claimAt_endClaim, if_neg ne]⟩)
    (List.nodup_finRange 48) (t := s) trivial (fun _ _ => rfl)
  unfold claimsEnded
  rw [ended k (List.mem_finRange k), claimAt_endClaim, if_pos rfl]

theorem claimAt_of_endClaim {c k : ClaimId} {s : State} {cl : Claim} (h : claimAt (endClaim .reset c s) k = some cl) :
    claimAt s k = some cl := by
  rw [claimAt_endClaim] at h
  split at h
  · cases h
  · exact h

theorem tget_claimsEnded {s : State} {j : SlotId}
    (h : ∀ k cl, claimAt s k = some cl → cl.slot = j → cl.owner = .management ∨ ∃ ch, cl.owner = .alarm ch) :
    tget (claimsEnded s).slots j = tget s.slots j := by
  have walk := forEach_induct
    (fun u => tget u.slots j = tget s.slots j ∧ ∀ k cl, claimAt u k = some cl → claimAt s k = some cl)
    (endClaim .reset) (everyFin 48) (fun c _ u hu => by
      obtain ⟨slot, claims⟩ := hu
      exact ⟨(tget_endClaim fun cl hc => h c cl (claims c cl hc)).trans slot,
        fun k cl hk => claims k cl (claimAt_of_endClaim hk)⟩) s ⟨rfl, fun _ _ hk => hk⟩
  unfold claimsEnded
  exact walk.1

theorem ring_claimsEnded {s : State} (free : ∀ k, entryAt s k = none)
    (h : ∀ k cl node tag, claimAt s k = some cl → cl.owner ≠ .peer node tag) : (claimsEnded s).ring = s.ring := by
  have walk := forEach_induct
    (fun u => u.ring = s.ring ∧ (∀ k, entryAt u k = none) ∧ ∀ k cl, claimAt u k = some cl → claimAt s k = some cl)
    (endClaim .reset) (everyFin 48) (fun c _ u hu => by
      obtain ⟨ring, entries, claims⟩ := hu
      obtain ⟨ring', entries'⟩ := ring_endClaim entries (fun cl node tag hc => h c cl node tag (claims c cl hc))
      exact ⟨ring'.trans ring, entries', fun k cl hk => claims k cl (claimAt_of_endClaim hk)⟩)
    s ⟨rfl, free, fun _ _ hk => hk⟩
  unfold claimsEnded
  exact walk.1

/-! ### All calls ended (R134) -/

theorem callAt_endCall (i k : CallId) (s : State) : callAt (endCall .reset i s) k = if i = k then none else callAt s k := by
  cases h : callAt s i with
  | none =>
    have same : endCall .reset i s = s := by simp [endCall, h]
    rw [same]
    split
    · next e => rw [← e, h]
    · rfl
  | some c =>
    have ringers : ∀ (l : List StationId) (u : State), (forEach l (setRinger false) u).intercom.calls = u.intercom.calls :=
      fun l u => forEach_induct (fun v => v.intercom.calls = u.intercom.calls) (setRinger false) l (fun _ _ _ hv => hv) u rfl
    rw [endCall_reset h]
    calc callAt (setCall i none _) k
      _ = if i = k then none else callAt (forEach _ (setRinger false) s) k := tget_tset _ _ _ _
      _ = if i = k then none else callAt s k := by rw [callAt, ringers, ← callAt]

theorem setRinger_keeps (b : Bool) (st : StationId) (s : State) : keepsBut [.intercom] s (setRinger b st s) :=
  keepsBut_modIntercom _ s

theorem setCall_keeps (i : CallId) (c : Option Call) (s : State) : keepsBut [.intercom] s (setCall i c s) :=
  keepsBut_modIntercom _ s

theorem endCall_keeps (i : CallId) (s : State) : keepsBut [.intercom] s (endCall .reset i s) := by
  cases h : callAt s i with
  | none =>
    have same : endCall .reset i s = s := by simp [endCall, h]
    rw [same]
    exact keepsBut_refl _ s
  | some c =>
    rw [endCall_reset h]
    exact keepsBut_trans (keepsBut_forEach (setRinger_keeps false) _ s) (setCall_keeps i none _)

/-- Every call ends RESET. -/
@[irreducible] def callsEnded (s : State) : State := forEach (everyFin 16) (endCall .reset) s

theorem endsQuiet_callsEnded (s : State) : EndsQuiet s (callsEnded s) := by
  unfold callsEnded
  exact endsQuiet_forEach endsQuiet_endCall _ s

theorem callsEnded_keeps (s : State) : keepsBut [.intercom] s (callsEnded s) := by
  unfold callsEnded
  exact keepsBut_forEach endCall_keeps _ s

theorem callAt_callsEnded (s : State) (k : CallId) : callAt (callsEnded s) k = none := by
  obtain ⟨-, ended, -⟩ := get_forEach_own (f := endCall .reset) (get := callAt) (I := fun _ => True) (s := s)
    (fun c u _ _ => ⟨trivial, by simp [callAt_endCall], fun b ne => by rw [callAt_endCall, if_neg ne]⟩)
    (List.nodup_finRange 16) (t := s) trivial (fun _ _ => rfl)
  unfold callsEnded
  rw [ended k (List.mem_finRange k), callAt_endCall, if_pos rfl]

end Sys2Proof.Machine
end

section
namespace Sys2Proof.Machine

/-! ### The soft reset (R200) -/

/-- The RESERVE in service is abandoned (R100). -/
def serviceEnded (s : State) : State :=
  match s.peer.service with
  | some v => abandonService v s
  | none => s

theorem resetClaims_eq (s : State) : resetClaims s =
    modClaims (fun x => { x with
      lists := Vector.replicate 24 []
      queue := []
      chimeGen := ⟨none, 0⟩
      reported := Vector.replicate 24 .free })
      (modPeer (fun _ => ⟨Vector.replicate 8 none, Vector.replicate 4 none, [], none⟩) (claimsEnded (serviceEnded s))) := by
  unfold claimsEnded resetClaims serviceEnded
  cases s.peer.service <;> rfl

theorem endsQuiet_serviceEnded (s : State) : EndsQuiet s (serviceEnded s) := by
  unfold serviceEnded
  split
  · exact endsQuiet_abandonService _ s
  · exact endsQuiet_refl s

theorem serviceEnded_leaves (s : State) : (serviceEnded s).ring = s.ring ∧ (∀ k, claimAt (serviceEnded s) k = claimAt s k) ∧
    (∀ k, entryAt (serviceEnded s) k = entryAt s k) ∧
    ∀ j, (∀ v, s.peer.service = some v → v.slot ≠ j) → tget (serviceEnded s).slots j = tget s.slots j := by
  unfold serviceEnded
  split
  · next v hv => exact ⟨rfl, fun _ => rfl, fun _ => rfl, fun j h => tget_modSlot_ne _ _ (h v hv)⟩
  · exact ⟨rfl, fun _ => rfl, fun _ => rfl, fun _ _ => rfl⟩

/-- Every claim and every call has ended, and the claim unit's and the peer unit's state is emptied. -/
@[irreducible] def allEnded (s : State) : State := callsEnded (resetClaims s)

theorem endsQuiet_resetClaims (s : State) : EndsQuiet s (resetClaims s) := by
  rw [resetClaims_eq]
  exact endsQuiet_trans (endsQuiet_trans (endsQuiet_serviceEnded s) (endsQuiet_claimsEnded _))
    (endsQuiet_trans (endsQuiet_modPeer _ _) (endsQuiet_modClaims _ fun _ => ⟨rfl, rfl⟩))

theorem endsQuiet_allEnded (s : State) : EndsQuiet s (allEnded s) := by
  unfold allEnded
  exact endsQuiet_trans (endsQuiet_resetClaims s) (endsQuiet_callsEnded _)

/-- What the ends of claims keep of the slots and of the ring reaches the end of the calls as it is. -/
theorem allEnded_keeps (s : State) : keepsBut [.intercom, .claims, .peer] (claimsEnded (serviceEnded s)) (allEnded s) := by
  unfold allEnded
  rw [resetClaims_eq]
  exact keepsBut_trans (keepsBut_mono (by simp) (keepsBut_modPeer _ _))
    (keepsBut_trans (keepsBut_mono (by simp) (keepsBut_modClaims _ _)) (keepsBut_mono (by simp) (callsEnded_keeps _)))

theorem allEnded_claims (s : State) : (allEnded s).claims = { s.claims with
    table := Vector.replicate 48 none
    lists := Vector.replicate 24 []
    queue := []
    chimeGen := ⟨none, 0⟩
    reported := Vector.replicate 24 .free } := by
  have ended := endsQuiet_trans (endsQuiet_serviceEnded s) (endsQuiet_claimsEnded (serviceEnded s))
  have table : (claimsEnded (serviceEnded s)).claims.table = Vector.replicate 48 none :=
    table_ext fun k => (claimAt_claimsEnded _ k).trans (tget_replicate _ k).symm
  obtain ⟨groups, chime⟩ := ended.tables
  unfold allEnded
  rw [callsEnded_keeps _ .claims (by simp), resetClaims_eq, modClaims_claims, modPeer_claims, table, groups, chime]

theorem allEnded_peer (s : State) :
    (allEnded s).peer = ⟨Vector.replicate 8 none, Vector.replicate 4 none, [], none⟩ := by
  unfold allEnded
  rw [callsEnded_keeps _ .peer (by simp), resetClaims_eq, modClaims_peer, modPeer_peer]

theorem callAt_allEnded (s : State) (k : CallId) : callAt (allEnded s) k = none := by
  unfold allEnded
  exact callAt_callsEnded _ k

theorem allEnded_slot {s : State} {j : SlotId}
    (owners : ∀ k cl, claimAt s k = some cl → cl.slot = j → cl.owner = .management ∨ ∃ ch, cl.owner = .alarm ch)
    (service : ∀ v, s.peer.service = some v → v.slot ≠ j) : tget (allEnded s).slots j = tget s.slots j := by
  obtain ⟨-, claims, -, slots⟩ := serviceEnded_leaves s
  rw [allEnded_keeps s .slots (by simp), tget_claimsEnded fun k cl h => owners k cl (claims k ▸ h), slots j service]

theorem allEnded_ring {s : State} (free : ∀ k, entryAt s k = none)
    (owners : ∀ k cl node tag, claimAt s k = some cl → cl.owner ≠ .peer node tag) : (allEnded s).ring = s.ring := by
  obtain ⟨ring, claims, entries, -⟩ := serviceEnded_leaves s
  rw [allEnded_keeps s .ring (by simp), ring_claimsEnded (fun k => (entries k).trans (free k))
    fun k cl node tag h => owners k cl node tag (claims k ▸ h), ring]

/-- A player once its clip is stopped (R173). -/
theorem playerOf_stopPlayer (p q : ChanId) (s : State) : playerOf (stopPlayer p s) q =
    if p = q ∧ ¬((playerOf s p).state = .idle ∧ (playerOf s p).owner = .none) then idlePlayer else playerOf s q := by
  unfold stopPlayer
  split
  · next idle => rw [if_neg fun h => h.2 idle]
  · next busy =>
    refine (tget_tset _ _ _ _).trans ?_
    by_cases e : p = q
    · rw [if_pos e, if_pos ⟨e, busy⟩]
    · rw [if_neg e, if_neg fun h => e h.1]
      rfl

/-- The players after both are stopped: idle, without an owner. -/
theorem playersStopped (s : State) (p : ChanId) : (playerOf (stopPlayer 1 (stopPlayer 0 s)) p).state = .idle ∧
    (playerOf (stopPlayer 1 (stopPlayer 0 s)) p).owner = .none := by
  have stopped : ∀ (q : ChanId) (u : State), (playerOf (stopPlayer q u) q).state = .idle ∧
      (playerOf (stopPlayer q u) q).owner = .none := by
    intro q u
    rw [playerOf_stopPlayer]
    split
    · exact ⟨rfl, rfl⟩
    · next h => exact not_not.mp fun busy => h ⟨rfl, busy⟩
  by_cases e : p = 1
  · rw [e]
    exact stopped 1 (stopPlayer 0 s)
  · have first : p = 0 := (by decide : ∀ q : ChanId, q ≠ 1 → q = 0) p e
    rw [playerOf_stopPlayer, if_neg fun h => e h.1.symm, first]
    exact stopped 0 s

theorem stopPlayer_clips (p : ChanId) (s : State) : (stopPlayer p s).clips.directory = s.clips.directory ∧
    (stopPlayer p s).clips.writtenSet = s.clips.writtenSet ∧ (stopPlayer p s).clips.writes = s.clips.writes :=
  (endsQuiet_stopPlayer p s).clips

/-- The players stopped, and the reads of gone requesters dropped (R176). -/
@[irreducible] def playersIdle (s : State) : State :=
  modClips (fun c => { c with reads := c.reads.filter (·.reader != .nobody) }) (stopPlayer 1 (stopPlayer 0 s))

theorem playersIdle_facts (s : State) : keepsBut [.clips] s (playersIdle s) ∧
    (∀ p, (playerOf (playersIdle s) p).state = .idle ∧ (playerOf (playersIdle s) p).owner = .none) ∧
    (playersIdle s).clips.directory = s.clips.directory ∧ (playersIdle s).clips.writtenSet = s.clips.writtenSet ∧
    (playersIdle s).clips.writes = s.clips.writes := by
  obtain ⟨directory, written, writes⟩ := stopPlayer_clips 0 s
  obtain ⟨directory', written', writes'⟩ := stopPlayer_clips 1 (stopPlayer 0 s)
  unfold playersIdle
  refine ⟨keepsBut_trans (stopPlayer_keeps 0 s) (keepsBut_trans (stopPlayer_keeps 1 _) (keepsBut_modClips _ _)),
    fun p => playersStopped s p, ?_, ?_, ?_⟩
  · rw [modClips_clips, directory', directory]
  · rw [modClips_clips, written', written]
  · rw [modClips_clips, writes', writes]

/-- The state whose blocks a soft reset puts back: claims and calls ended, stations put back, players idle. -/
@[irreducible] def softBase (s : State) : State :=
  playersIdle (modIntercom (fun x => { x with stations := tmap (fun _ y => softStation y) x.stations }) (allEnded s))

theorem softResetAll_eq (s : State) : softResetAll s =
    modReports (fun _ => ⟨[], false, 0⟩) (modControl (fun c => { c with pointer := resetPointer, timer := 0 })
      (modLines (fun x => { x with unheard := noZones })
        (modAlarm (fun a => { a with list := [], channels := Vector.replicate 2 freeChannel })
          (modScene (fun x => { x with cues := [], fades := [], held := noZones })
            (modMix (fun m => { m with zones := tmap (fun _ z => { z with gain := 32768 }) m.zones })
              (modSlots (tmap fun _ x => softSlot x) (softBase s))))))) := by
  unfold softBase playersIdle allEnded callsEnded
  rfl

/-- The state before the blocks are put back, against the state that the reset found. -/
theorem softBase_facts (s : State) :
    keepsBut [.ring, .slots, .claims, .peer, .intercom, .alarm, .clips, .counters] s (softBase s) ∧
    (softBase s).ring = (allEnded s).ring ∧ (softBase s).counters = (allEnded s).counters ∧
    (softBase s).slots = (allEnded s).slots ∧
    (softBase s).claims = (allEnded s).claims ∧ (softBase s).peer = (allEnded s).peer ∧
    (softBase s).alarm = (allEnded s).alarm ∧
    (softBase s).intercom =
      { (allEnded s).intercom with stations := tmap (fun _ y => softStation y) (allEnded s).intercom.stations } := by
  unfold softBase
  obtain ⟨kept, -⟩ := playersIdle_facts
    (modIntercom (fun x => { x with stations := tmap (fun _ y => softStation y) x.stations }) (allEnded s))
  exact ⟨keepsBut_trans (endsQuiet_allEnded s).keeps
    (keepsBut_trans (keepsBut_mono (by simp) (keepsBut_modIntercom _ _)) (keepsBut_mono (by simp) kept)),
    by rw [kept .ring (by simp), modIntercom_ring], by rw [kept .counters (by simp), modIntercom_counters],
    by rw [kept .slots (by simp), modIntercom_slots], by rw [kept .claims (by simp), modIntercom_claims],
    by rw [kept .peer (by simp), modIntercom_peer], by rw [kept .alarm (by simp), modIntercom_alarm],
    by rw [kept .intercom (by simp), modIntercom_intercom]⟩

theorem softBase_clips (s : State) :
    (∀ p, (playerOf (softBase s) p).state = .idle ∧ (playerOf (softBase s) p).owner = .none) ∧
    (softBase s).clips.directory = s.clips.directory ∧ (softBase s).clips.writtenSet = s.clips.writtenSet ∧
    (softBase s).clips.writes = s.clips.writes := by
  obtain ⟨directory, written, writes⟩ := (endsQuiet_allEnded s).clips
  unfold softBase
  obtain ⟨-, players, directory', written', writes'⟩ := playersIdle_facts
    (modIntercom (fun x => { x with stations := tmap (fun _ y => softStation y) x.stations }) (allEnded s))
  refine ⟨players, ?_, ?_, ?_⟩
  · rw [directory', modIntercom_clips, directory]
  · rw [written', modIntercom_clips, written]
  · rw [writes', modIntercom_clips, writes]

end Sys2Proof.Machine
end

section
namespace Sys2Proof.Machine

/-! ### The blocks after a soft reset (R200) -/

/-- Each block after a soft reset, from the state in which claims and calls have ended. -/
theorem softResetAll_parts (s : State) :
    (softResetAll s).slots = tmap (fun _ x => softSlot x) (allEnded s).slots ∧
    (softResetAll s).mix = { s.mix with zones := tmap (fun _ z => { z with gain := 32768 }) s.mix.zones } ∧
    (softResetAll s).scene = { s.scene with cues := [], fades := [], held := noZones } ∧
    (softResetAll s).claims = (allEnded s).claims ∧ (softResetAll s).peer = (allEnded s).peer ∧
    (softResetAll s).intercom =
      { (allEnded s).intercom with stations := tmap (fun _ y => softStation y) (allEnded s).intercom.stations } ∧
    (softResetAll s).alarm = { s.alarm with list := [], channels := Vector.replicate 2 freeChannel } ∧
    (softResetAll s).clips = (softBase s).clips ∧ (softResetAll s).lines = { s.lines with unheard := noZones } ∧
    (softResetAll s).control = { s.control with pointer := resetPointer, timer := 0 } ∧
    (softResetAll s).reports = ⟨[], false, 0⟩ := by
  obtain ⟨kept, -, -, slots, claims, peer, alarm, intercom⟩ := softBase_facts s
  have programs := (endsQuiet_allEnded s).alarm
  have emptied : ({ (allEnded s).alarm with list := [], channels := Vector.replicate 2 freeChannel } : Alarm) =
      { s.alarm with list := [], channels := Vector.replicate 2 freeChannel } := by rw [programs]
  have mix : (softBase s).mix = s.mix := kept .mix (by simp)
  have scene : (softBase s).scene = s.scene := kept .scene (by simp)
  have lines : (softBase s).lines = s.lines := kept .lines (by simp)
  have control : (softBase s).control = s.control := kept .control (by simp)
  rw [softResetAll_eq]
  generalize softBase s = u at slots claims peer alarm intercom mix scene lines control ⊢
  refine ⟨?_, ?_, ?_, ?_, ?_, ?_, ?_, ?_, ?_, ?_, ?_⟩
  · simp [slots]
  · simp [mix]
  · simp [scene]
  · simp [claims]
  · simp [peer]
  · simp [intercom]
  · simp only [modReports_alarm, modControl_alarm, modLines_alarm, modAlarm_alarm, modScene_alarm, modMix_alarm,
      modSlots_alarm, alarm]
    exact emptied
  · simp
  · simp [lines]
  · simp [control]
  · simp

theorem softResetAll_rest (s : State) : (softResetAll s).ring = (allEnded s).ring ∧
    (softResetAll s).counters = (allEnded s).counters ∧ (softResetAll s).boundary = s.boundary ∧
    (softResetAll s).pending = s.pending := by
  obtain ⟨kept, ring, counters, -⟩ := softBase_facts s
  have boundary : (softBase s).boundary = s.boundary := kept .boundary (by simp)
  have pending : (softBase s).pending = s.pending := kept .pending (by simp)
  rw [softResetAll_eq]
  generalize softBase s = u at ring counters boundary pending ⊢
  refine ⟨?_, ?_, ?_, ?_⟩
  · simp [ring]
  · simp [counters]
  · simp [boundary]
  · simp [pending]

/-- A slot after a soft reset keeps its record, and is silent. -/
theorem softSlot_record (x : Slot) : (softSlot x).mode = x.mode ∧ (softSlot x).cls = x.cls ∧ (softSlot x).trim = x.trim ∧
    (softSlot x).block = silence ∧ (softSlot x).fresh = false := by
  unfold softSlot
  dsimp only
  split <;> exact ⟨rfl, rfl, rfl, rfl, rfl⟩

/-- A static ring binding is in the record, and outlasts a soft reset (R35). -/
theorem softSlot_of_static {x : Slot} {o b c : Nat} (mode : x.mode = some .static) (binding : x.binding = .ring o b c) :
    softSlot x = { x with block := silence, fresh := false } := by
  unfold softSlot
  rw [binding, mode]

/-! ### The answer of a soft reset, and the begin of LOADING after a reload -/

/-- What may follow on a soft reset: its answer with the REPLY of the frame, and at a reload the begin of LOADING. -/
structure Restarts (s t : State) : Prop where
  keeps : keepsBut [.control, .ring, .counters, .intercom, .clips] s t
  intercom : t.intercom = { s.intercom with phase := t.intercom.phase }
  clips : t.clips.players = s.clips.players ∧ t.clips.directory = s.clips.directory ∧
    t.clips.writtenSet = s.clips.writtenSet
  reply : ringKept s t
  control : t.control.pointer = s.control.pointer ∧ t.control.timer = s.control.timer ∧
    t.control.node = s.control.node ∧ t.control.saving = s.control.saving
  counts : countsBut (.controlDropped :: answerCounts) s t

theorem sends_of_ringKept {s t : State} (h : ringKept s t) : Sends s t := by
  rcases h with same | ⟨v, results, overflow, -, sent⟩
  · exact sends_of_ring same
  · have link := sends_originate replyKind v.origin (.reply ⟨v.frameNumber, results, overflow⟩) s
    exact ⟨by rw [sent]; exact link.ring, fun p => by simp only [portOf, sent]; exact link.links p⟩

theorem restarts_commandDone (code : ResultCode) (s : State) : Restarts s (commandDone code s) := by
  have kept := commandDone_keeps code s
  obtain ⟨control, reply, -, counts⟩ := commandDone_answers code s
  have clips : (commandDone code s).clips = s.clips := kept .clips (by simp)
  have intercom : (commandDone code s).intercom = s.intercom := kept .intercom (by simp)
  exact ⟨keepsBut_mono (by simp) kept, by rw [intercom], by rw [clips]; exact ⟨rfl, rfl, rfl⟩, reply,
    by rw [control]; exact ⟨rfl, rfl, rfl, rfl⟩, countsBut_mono (by simp +contextual) counts⟩

/-- The image's sectors asked for (R198). -/
theorem imageReads_facts (l : List Nat) (s : State) :
    keepsBut [.clips] s (forEach l (fun i => requestRead (.image i) i) s) ∧
    (forEach l (fun i => requestRead (.image i) i) s).clips.players = s.clips.players ∧
    (forEach l (fun i => requestRead (.image i) i) s).clips.directory = s.clips.directory ∧
    (forEach l (fun i => requestRead (.image i) i) s).clips.writtenSet = s.clips.writtenSet := by
  refine forEach_induct (fun u => keepsBut [.clips] s u ∧ u.clips.players = s.clips.players ∧
    u.clips.directory = s.clips.directory ∧ u.clips.writtenSet = s.clips.writtenSet) _ l ?_ s
    ⟨keepsBut_refl _ s, rfl, rfl, rfl⟩
  rintro i - u ⟨kept, players, directory, written⟩
  obtain ⟨players', directory', written'⟩ := requestRead_clips (.image i) i u
  exact ⟨keepsBut_trans kept (requestRead_keeps _ _ u), players'.trans players, directory'.trans directory,
    written'.trans written⟩

/-- A reload begins LOADING: the input queue is emptied and each of its frames counted, and the image is read (R198). -/
theorem beginLoading_facts (s : State) :
    keepsBut [.counters, .control, .intercom, .clips] s (beginLoading s) ∧
    (beginLoading s).control = { s.control with mode := .loading, queue := [], load := some ⟨false, [], none, []⟩ } ∧
    (beginLoading s).intercom = { s.intercom with phase := 7 } ∧
    ((beginLoading s).clips.players = s.clips.players ∧ (beginLoading s).clips.directory = s.clips.directory ∧
      (beginLoading s).clips.writtenSet = s.clips.writtenSet) ∧
    (beginLoading s).counters = (countTimes .controlDropped s.control.queue.length s).counters := by
  unfold beginLoading
  dsimp only
  have counted := countTimes_keeps .controlDropped s.control.queue.length s
  generalize countTimes .controlDropped s.control.queue.length s = t at counted ⊢
  obtain ⟨kept, players, directory, written⟩ := imageReads_facts (List.range 8)
    (modIntercom (fun x => { x with phase := 7 }) (modControl
      (fun c => { c with mode := .loading, queue := [], load := some ⟨false, [], none, []⟩ }) t))
  have clips : t.clips = s.clips := counted .clips (by simp)
  refine ⟨keepsBut_trans (keepsBut_mono (by simp) counted) (keepsBut_trans (keepsBut_mono (by simp) (keepsBut_modControl _ _))
    (keepsBut_trans (keepsBut_mono (by simp) (keepsBut_modIntercom _ _)) (keepsBut_mono (by simp) kept))), ?_, ?_,
    ⟨?_, ?_, ?_⟩, ?_⟩
  · rw [kept .control (by simp), modIntercom_control, modControl_control, counted .control (by simp)]
  · rw [kept .intercom (by simp), modIntercom_intercom, modControl_intercom, counted .intercom (by simp)]
  · rw [players, modIntercom_clips, modControl_clips, clips]
  · rw [directory, modIntercom_clips, modControl_clips, clips]
  · rw [written, modIntercom_clips, modControl_clips, clips]
  · rw [kept .counters (by simp), modIntercom_counters, modControl_counters]

/-- The frame in service ends at a reload, with its REPLY (R200). -/
theorem endFrame_facts (s : State) : keepsBut answerParts s (endFrame s) ∧
    (endFrame s).control = { s.control with service := none } ∧ ringKept s (endFrame s) ∧
    countsBut answerCounts s (endFrame s) := by
  unfold endFrame
  cases service : s.control.service with
  | none =>
    refine ⟨keepsBut_refl _ s, ?_, .inl rfl, countsBut_refl _ s⟩
    show s.control = { s.control with service := none }
    rw [← service]
  | some v =>
    obtain ⟨control, reply, counts⟩ := finishFrame_replies v s
    have ended : (finishFrame v s).control.service = none := by
      unfold finishFrame
      dsimp only
      split
      · rfl
      · rw [originate_control]
        rfl
    refine ⟨finishFrame_keeps v s, by rw [control, ended], reply.imp id ?_, counts⟩
    rintro ⟨results, overflow, sent⟩
    exact ⟨v, results, overflow, service, sent⟩

end Sys2Proof.Machine
end

section
namespace Sys2Proof.Machine

/-! ### SOFT-RESET and RELOAD (R200) -/

theorem ringKept_of_congr {s t u : State} (ring : t.ring = s.ring) (mode : t.control.mode = s.control.mode)
    (service : t.control.service = s.control.service) (h : ringKept t u) : ringKept s u := by
  refine h.imp (fun e => e.trans ring) ?_
  rintro ⟨v, results, overflow, hv, sent⟩
  exact ⟨v, results, overflow, service ▸ hv, sent.trans (originate_ring_congr ring mode)⟩

theorem ringKept_trans_ring {s t u : State} (ring : u.ring = t.ring) (h : ringKept s t) : ringKept s u := by
  unfold ringKept
  rw [ring]
  exact h

theorem restarts_beginLoading {s t : State} (h : Restarts s t) : Restarts s (beginLoading t) := by
  obtain ⟨kept, control, intercom, ⟨players, directory, written⟩, counters⟩ := beginLoading_facts t
  obtain ⟨players', directory', written'⟩ := h.clips
  have dropped : countsBut (.controlDropped :: answerCounts) t (beginLoading t) :=
    countsBut_trans (countTimes_countsBut (by simp) t.control.queue.length t) (countsBut_of_counters counters)
  refine ⟨keepsBut_trans h.keeps (keepsBut_mono (by simp) kept), ?_,
    ⟨players.trans players', directory.trans directory', written.trans written'⟩,
    ringKept_trans_ring (kept .ring (by simp)) h.reply, ?_, countsBut_trans h.counts dropped⟩
  · rw [intercom, h.intercom]
  · rw [control]
    exact h.control

/-- The state of a reload before LOADING begins: its answer, and the REPLY of the frame in service. -/
theorem restarts_endFrame (r : Result) (s : State) : Restarts s (endFrame (modControl (fun c => { c with answer := r }) s)) := by
  obtain ⟨kept, control, reply, counts⟩ := endFrame_facts (modControl (fun c => { c with answer := r }) s)
  have clips := kept .clips (by simp)
  have intercom := kept .intercom (by simp)
  simp only [agree, modControl_clips, modControl_intercom] at clips intercom
  refine ⟨keepsBut_trans (keepsBut_mono (by simp) (keepsBut_modControl _ s)) (keepsBut_mono (by simp) kept),
    by rw [intercom], by rw [clips]; exact ⟨rfl, rfl, rfl⟩,
    ringKept_of_congr (t := modControl (fun c => { c with answer := r }) s) rfl rfl rfl reply, ?_,
    countsBut_mono (by simp +contextual) counts⟩
  rw [control]
  exact ⟨rfl, rfl, rfl, rfl⟩

theorem exec_softReset {s : State} (h : ready s) : exec .softReset s = .next
    (if alarmRunning s then commandDone .alarmActive s else commandDone .ok (softResetAll s)) := by
  simp only [exec, execSoftReset, finish_of_quiet h.1, operation_of_ready _ h]

theorem exec_reload {s : State} (h : ready s) : exec .reload s = .next
    (if alarmRunning s then commandDone .alarmActive s else reloadAll s) := by
  simp only [exec, execReload, finish_of_quiet h.1, operation_of_ready _ h]

theorem operationIndex_softResetAll (s : State) : operationIndex (softResetAll s) = operationIndex s := by
  obtain ⟨-, -, -, -, -, -, -, -, -, control, -⟩ := softResetAll_parts s
  rw [operationIndex, control, operationIndex]

/-- The mode, the input queue, the load, the scan phase and the write queue stay at a soft reset that is no reload. -/
def goesOn (s t : State) : Prop :=
  t.control.mode = s.control.mode ∧ t.control.queue = s.control.queue ∧ t.control.load = s.control.load ∧
    t.intercom.phase = s.intercom.phase ∧ t.clips.writes = s.clips.writes ∧
    counterOf t .controlDropped = counterOf s .controlDropped

/-- LOADING has begun, with the input queue emptied and its frames counted. -/
def loads (s t : State) : Prop :=
  t.control.mode = .loading ∧ t.control.queue = [] ∧ t.control.service = none ∧
    t.control.load = some ⟨false, [], none, []⟩ ∧ t.intercom.phase = 7 ∧
    counterOf t .controlDropped = iterate saturatingSucc s.control.queue.length (counterOf s .controlDropped)

theorem allEnded_controlDropped (s : State) : counterOf (softResetAll s) .controlDropped = counterOf s .controlDropped := by
  obtain ⟨-, counters, -⟩ := softResetAll_rest s
  have ended := counterOf_of_countsBut (c := .controlDropped) (endsQuiet_allEnded s).counts (by decide)
  rw [counterOf, counters]
  exact ended

theorem softReset_goesOn (s : State) : answered .ok s (commandDone .ok (softResetAll s)) ∧
    goesOn s (commandDone .ok (softResetAll s)) := by
  obtain ⟨-, -, -, -, -, intercom, -, clips, -, control, -⟩ := softResetAll_parts s
  have done := commandDone_answers .ok (softResetAll s)
  have kept := commandDone_keeps .ok (softResetAll s)
  have dropped := counterOf_of_countsBut (c := .controlDropped) done.counts (by decide)
  refine ⟨by rw [answered, done.control, operationIndex_softResetAll], ?_, ?_, ?_, ?_, ?_,
    dropped.trans (allEnded_controlDropped s)⟩
  · rw [done.control, control]
  · rw [done.control, control]
  · rw [done.control, control]
  · rw [kept .intercom (by simp), intercom]
    exact (endsQuiet_allEnded s).intercom.2
  · rw [kept .clips (by simp), clips]
    exact (softBase_clips s).2.2.2

theorem reload_loads (s : State) : answered .ok s (reloadAll s) ∧ loads s (reloadAll s) := by
  obtain ⟨-, -, -, -, -, intercom, -, -, -, control, -⟩ := softResetAll_parts s
  have dropped := allEnded_controlDropped s
  have index := operationIndex_softResetAll s
  unfold reloadAll
  dsimp only
  generalize softResetAll s = u at intercom control dropped index ⊢
  obtain ⟨-, ended, -, counts⟩ := endFrame_facts
    (modControl (fun c => { c with answer := ⟨operationIndex u, .ok, .none⟩ }) u)
  generalize endFrame (modControl (fun c => { c with answer := ⟨operationIndex u, .ok, .none⟩ }) u) = v at ended counts ⊢
  obtain ⟨-, loading, phase, -, counters⟩ := beginLoading_facts v
  have queue : v.control.queue = s.control.queue := by rw [ended, modControl_control, control]
  have sent : counterOf v .controlDropped = counterOf u .controlDropped :=
    counterOf_of_countsBut (c := .controlDropped) counts (by decide)
  refine ⟨by rw [answered, loading, ended, modControl_control, index], by rw [loading], by rw [loading],
    by rw [loading, ended], by rw [loading], by rw [phase], ?_⟩
  rw [counterOf, counters, ← counterOf, counterOf_countTimes, queue, sent, dropped]

/-- Both resets, with what follows on the soft reset that they begin with. -/
theorem exec_reset {s : State} (h : ready s) (quiet : alarmRunning s = false) {i : Instr}
    (hi : i = .softReset ∨ i = .reload) : ∃ t, exec i s = .next t ∧ answered .ok s t ∧ Restarts (softResetAll s) t ∧
      (i = .softReset → goesOn s t) ∧ (i = .reload → loads s t) := by
  rcases hi with rfl | rfl
  · obtain ⟨done, goes⟩ := softReset_goesOn s
    exact ⟨_, by rw [exec_softReset h, quiet, if_neg Bool.false_ne_true], done, restarts_commandDone .ok _, fun _ => goes,
      fun e => nomatch e⟩
  · obtain ⟨done, loading⟩ := reload_loads s
    exact ⟨_, by rw [exec_reload h, quiet, if_neg Bool.false_ne_true], done,
      restarts_beginLoading (restarts_endFrame _ _), fun e => (nomatch e), fun _ => loading⟩

/-! ### SAVE-IMAGE (R199) -/

theorem exec_saveImage {s : State} (h : ready s) : exec .saveImage s = .next
    (if s.control.saving = true ∨ 4 ≤ s.clips.writes.length then commandDone .busy s
      else commandDone .ok (queueWrite (.image (imageBytes (savedTables s)))
        (modControl (fun c => { c with saving := true }) s))) := by
  simp only [exec, execSaveImage, settle_of_quiet h.1, operation_of_ready _ h]

/-- A write request waits while another flash operation is in flight (R169). -/
theorem queueWrite_of_busy {kind : WriteKind} {s : State} (h : s.clips.inFlight ≠ none) : queueWrite kind s =
    modClips (fun c => { c with writes := c.writes ++ [⟨kind, 0, false, c.stamp⟩], stamp := c.stamp + 1 }) s :=
  if_pos (Option.isSome_iff_ne_none.mpr h)

theorem savedTables_sources (s : State) {i : Fin 23} {j : SlotId} (h : j.val = i.val) :
    tget (savedTables s).sources i = sourceEntry (tget s.slots j) := by
  have same : finUpTo 31 i.val = j := Fin.ext (by simp [finUpTo]; omega)
  simp [savedTables, same]

theorem saveImage_queued {s : State} (h : ready s) (saving : s.control.saving = false) (room : s.clips.writes.length < 4)
    (busy : s.clips.inFlight ≠ none) : ∃ t, exec .saveImage s = .next t ∧ answered .ok s t ∧
      t.clips = { s.clips with
        writes := s.clips.writes ++ [⟨.image (imageBytes (savedTables s)), 0, false, s.clips.stamp⟩]
        stamp := s.clips.stamp + 1 } ∧
      keepsBut (.clips :: answerParts) s t ∧ answerKept (modControl (fun c => { c with saving := true }) s) t := by
  have admitted : ¬(s.control.saving = true ∨ 4 ≤ s.clips.writes.length) := by simp [saving, room]
  have queued := queueWrite_of_busy (kind := .image (imageBytes (savedTables s)))
    (s := modControl (fun c => { c with saving := true }) s) busy
  have kept := commandDone_keeps .ok (queueWrite (.image (imageBytes (savedTables s)))
    (modControl (fun c => { c with saving := true }) s))
  refine ⟨_, by rw [exec_saveImage h, if_neg admitted], ?_, ?_, ?_, ?_⟩
  · have index : operationIndex (queueWrite (.image (imageBytes (savedTables s)))
        (modControl (fun c => { c with saving := true }) s)) = operationIndex s := by rw [queued]; rfl
    rw [answered, commandDone_answered, index]
  · rw [kept .clips (by simp), queued]
    rfl
  · refine keepsBut_trans ?_ (keepsBut_mono (by simp) kept)
    rw [queued]
    exact keepsBut_trans (keepsBut_mono (by simp) (keepsBut_modControl _ s)) (keepsBut_mono (by simp) (keepsBut_modClips _ _))
  · exact commandDone_answerKept rfl (by rw [queued]; rfl) (by rw [queued]; rfl)

/-- Settles O52: an image is read back part by part; a reset is the end of every claim and call, and then of what each
block holds. -/
theorem saveAndResets : Obligations.SaveAndResets := by
  refine ⟨fun x hx => ⟨length_imageBytes hx, take_imageBytes x, format_imageBytes x, bodyLength_imageBytes hx, ?_,
    body_imageBytes x, fun y low read => judgeImage_imageBytes low hx read⟩, fun s hs => ⟨fun h => ?_, fun saving room busy => ?_,
    fun h => ⟨?_, ?_⟩, fun h i hi => ?_⟩⟩
  · rw [check_imageBytes, BitVec.ofNat_toNat, BitVec.setWidth_eq]
  · exact ⟨_, by rw [exec_saveImage hs, if_pos h], commandDone_refused rfl s⟩
  · obtain ⟨t, ran, done, clips, kept, control⟩ := saveImage_queued hs saving room busy
    exact ⟨t, ran, done, clips, rfl, rfl, rfl, rfl, rfl, rfl, rfl, rfl, fun z => tget_tmap _ _ z, fun st => tget_tmap _ _ st,
      fun i j same => savedTables_sources s same, kept, control⟩
  · exact ⟨_, by rw [exec_softReset hs, if_pos h], commandDone_refused rfl s⟩
  · exact ⟨_, by rw [exec_reload hs, if_pos h], commandDone_refused rfl s⟩
  · obtain ⟨t, ran, done, after, soft, reload⟩ := exec_reset hs h hi
    obtain ⟨slots, mix, scene, claims, peer, intercom, alarm, clips, lines, control, reports⟩ := softResetAll_parts s
    obtain ⟨ring, counters, boundary, pending⟩ := softResetAll_rest s
    obtain ⟨idle, directory, written, -⟩ := softBase_clips s
    obtain ⟨players', directory', written'⟩ := after.clips
    obtain ⟨pointer, timer, node, saving⟩ := after.control
    have kept := after.keeps
    have ended := endsQuiet_allEnded s
    have slot : ∀ j, tget t.slots j = softSlot (tget (allEnded s).slots j) := fun j => by
      rw [kept .slots (by simp), slots, tget_tmap]
    have sent : Sends s (softResetAll s) :=
      ⟨by rw [ring]; exact ended.sends.ring, fun p => by simp only [portOf, ring]; exact ended.sends.links p⟩
    have sends := sends_trans sent (sends_of_ringKept after.reply)
    refine ⟨t, ran, done, fun j => ?_, fun j o b c static binding owners service => ?_, ?_, ?_, ?_, ?_, fun k => ?_, ?_,
      fun st => ?_, ?_, fun p => ?_, ?_, ?_, ?_, ?_, sends.ring, sends.links, fun free owners => ?_, ?_, ?_, ?_, ?_, ?_,
      ?_, ?_, soft, reload⟩
    · obtain ⟨mode, cls, trim⟩ := ended.records j
      obtain ⟨mode', cls', trim', block, fresh⟩ := softSlot_record (tget (allEnded s).slots j)
      rw [slot]
      exact ⟨mode'.trans mode, cls'.trans cls, trim'.trans trim, block, fresh⟩
    · rw [slot, allEnded_slot (fun k cl held => owners k cl held) service]
      exact softSlot_of_static static binding
    · rw [kept .mix (by simp), mix]
    · rw [kept .scene (by simp), scene]
    · rw [kept .claims (by simp), claims, allEnded_claims]
    · rw [kept .peer (by simp), peer, allEnded_peer]
    · rw [callAt, after.intercom, intercom]
      exact callAt_allEnded s k
    · rw [after.intercom, intercom]
      exact ended.intercom.1
    · rw [stationOf, after.intercom, intercom, tget_tmap]
      exact ended.stations st
    · rw [kept .alarm (by simp), alarm]
    · rw [playerOf, players', clips]
      exact idle p
    · rw [directory', clips, directory]
    · rw [written', clips, written]
    · rw [kept .lines (by simp), lines]
    · rw [kept .reports (by simp), reports]
    · exact ringKept_of_congr (ring.trans (allEnded_ring free owners)) (by rw [control]) (by rw [control]) after.reply
    · rw [pointer, control]
    · rw [timer, control]
    · rw [node, control]
    · rw [saving, control]
    · have claimCounts : countsBut endCounts s (softResetAll s) :=
        countsBut_trans ended.counts (countsBut_of_counters counters)
      exact countsBut_trans (countsBut_mono (by simp [endCounts]) claimCounts)
        (countsBut_mono (by simp [answerCounts]) after.counts)
    · rw [kept .boundary (by simp), boundary]
    · rw [kept .pending (by simp), pending]

end Sys2Proof.Machine
end

section
namespace Sys2Proof.Machine

/-! ### The blocks after a power-on reset (R35, R57, R75, R142, R162, R176, R188) -/

/-- Settles O3, table by table. -/
theorem resetBlocks : Obligations.ResetBlocks := by
  have slot : ∀ i : SlotId, tget State.reset.slots i = resetSlot i := fun i => tget_ofFn _ i
  refine ⟨fun z => ?_, fun i => ?_, fun l => ?_, fun st => ?_, fun i => ?_, fun p => ?_, rfl, rfl, rfl, rfl, rfl⟩
  · exact congrArg Zone.gain (tget_replicate _ z)
  · rw [slot, resetSlot]
    split_ifs <;> exact ⟨rfl, rfl⟩
  · rw [show recordOf State.reset l = resetLane.record from congrArg Lane.record (tget_replicate _ l)]
    exact ⟨rfl, rfl⟩
  · rw [show stationOf State.reset st = resetStation from tget_replicate _ st]
    exact ⟨rfl, rfl⟩
  · exact tget_replicate _ i
  · rw [show playerOf State.reset p = idlePlayer from tget_replicate _ p]
    exact ⟨rfl, rfl⟩

/-! ### The judgment of a slot, by what it finds (R31) -/

section
variable {i : SlotId} {s : State}

theorem judgeSlot_of_unbound (h : (tget s.slots i).binding = .unbound) : judgeSlot i s = s := if_pos h

theorem judgeSlot_of_fresh (bound : (tget s.slots i).binding ≠ .unbound) (fresh : (tget s.slots i).fresh = true) :
    judgeSlot i s = if (tget s.slots i).health = .lost
      then report .sourceLive i.val 0 (modSlot i (fun x => { x with miss := 0, health := .live, fresh := false }) s)
      else modSlot i (fun x => { x with miss := 0, health := .live, fresh := false }) s := by
  simp [judgeSlot, bound, fresh]

theorem judgeSlot_of_first_miss (bound : (tget s.slots i).binding ≠ .unbound) (fresh : (tget s.slots i).fresh = false)
    (miss : (tget s.slots i).miss = 0) :
    judgeSlot i s = count (.slotLate (countedSlot i)) (modSlot i (fun x => { x with miss := 1, health := .late }) s) := by
  simp [judgeSlot, bound, fresh, miss]

theorem judgeSlot_of_further_miss (bound : (tget s.slots i).binding ≠ .unbound) (fresh : (tget s.slots i).fresh = false)
    (low : 1 ≤ (tget s.slots i).miss) (high : (tget s.slots i).miss ≤ 48) :
    judgeSlot i s = count (.slotMuted (countedSlot i))
      (modSlot i (fun x => { x with miss := x.miss + 1, health := .muted, block := silence }) s) := by
  have some : (tget s.slots i).miss ≠ 0 := by omega
  have few : (tget s.slots i).miss < 49 := by omega
  simp [judgeSlot, bound, fresh, some, few]

theorem judgeSlot_of_missing (bound : (tget s.slots i).binding ≠ .unbound) (fresh : (tget s.slots i).fresh = false)
    (h : 49 ≤ (tget s.slots i).miss) : judgeSlot i s = s := by
  have some : (tget s.slots i).miss ≠ 0 := by omega
  have many : ¬(tget s.slots i).miss < 49 := by omega
  simp [judgeSlot, bound, fresh, some, many]

theorem losesSource_iff : losesSource s i = true ↔ i.val < 27 ∧ (tget s.slots i).binding ≠ .unbound ∧
    (tget s.slots i).fresh = false ∧ (tget s.slots i).miss = 49 := by
  simp [losesSource, and_assoc]

end

/-- Settles O17, by the branches of the judgment. -/
theorem slotJudgment : Obligations.SlotJudgment := by
  refine fun i s hi => ⟨judgeSlot_of_unbound, fun bound => ⟨fun fresh => ⟨?_, fun lost => ?_, fun notLost => ?_⟩,
    fun fresh miss => ?_, fun fresh low high => ?_, fun fresh miss => ⟨?_, ?_⟩, fun fresh miss => ⟨?_, ?_⟩⟩,
    fun j ne => tget_judgeSlot_ne s ne.symm, judgeSlot_keeps i s⟩
  · rw [judgeSlot_of_fresh bound fresh]
    split <;> simp
  · rw [judgeSlot_of_fresh bound fresh, if_pos lost]
    exact report_reports_congr _ _ _ rfl rfl rfl
  · rw [judgeSlot_of_fresh bound fresh, if_neg notLost]
    rfl
  · rw [judgeSlot_of_first_miss bound fresh miss]
    exact ⟨by simp, countsOne_of_counters rfl⟩
  · rw [judgeSlot_of_further_miss bound fresh low high]
    exact ⟨by simp, countsOne_of_counters rfl⟩
  · exact judgeSlot_of_missing bound fresh (by omega)
  · exact losesSource_iff.mpr ⟨hi, bound, fresh, miss⟩
  · exact judgeSlot_of_missing bound fresh (by omega)
  · rw [Bool.eq_false_iff, ne_eq, losesSource_iff]
    omega

/-! ### Captures (R29, R30) -/

theorem countedSlot_val (i : SlotId) : (countedSlot i).val = min i.val 26 := rfl

theorem slotOverrun_ne {i j : SlotId} (hi : i.val < 27) (hj : j.val < 27) (h : i ≠ j) :
    counterIx (.slotOverrun (countedSlot i)) ≠ counterIx (.slotOverrun (countedSlot j)) := by
  have ne : i.val ≠ j.val := fun e => h (Fin.ext e)
  simp only [counterIx, counterRow, countedSlot_val, ne_eq, Fin.mk.injEq]
  omega

/-- A capture sets the block and the fresh flag of its slot, and counts an overrun of it alone, where it was fresh. -/
theorem capture_facts (i : SlotId) (b : Block) (s : State) :
    tget (capture i b s).slots i = { tget s.slots i with block := b, fresh := true } ∧
    (∀ j, i ≠ j → tget (capture i b s).slots j = tget s.slots j) ∧
    counterOf (capture i b s) (.slotOverrun (countedSlot i)) = (if (tget s.slots i).fresh
      then saturatingSucc (counterOf s (.slotOverrun (countedSlot i))) else counterOf s (.slotOverrun (countedSlot i))) ∧
    countsBut [.slotOverrun (countedSlot i)] s (capture i b s) := by
  unfold capture
  dsimp only
  split
  · exact ⟨tget_modSlot_self .., fun j ne => tget_modSlot_ne _ s ne, counterOf_count _ _,
      count_countsBut (by simp) (modSlot i _ s)⟩
  · exact ⟨tget_modSlot_self .., fun j ne => tget_modSlot_ne _ s ne, rfl, countsBut_refl _ s⟩

theorem capturesAll_keeps (block : SlotId → Block) (l : List SlotId) (s : State) :
    keepsBut [.slots, .counters] s (forEach l (fun i => capture i (block i)) s) :=
  keepsBut_forEach (fun i t => capture_keeps i (block i) t) l s

/-- A walk of captures, each into a slot of its own: the slots of the walk capture, and each that was fresh is counted. -/
theorem capturesAll_facts (block : SlotId → Block) {l : List SlotId} (nodup : l.Nodup) (low : ∀ i ∈ l, i.val < 27)
    (s : State) :
    (∀ i, tget (forEach l (fun i => capture i (block i)) s).slots i =
      if i ∈ l then { tget s.slots i with block := block i, fresh := true } else tget s.slots i) ∧
    (∀ i : SlotId, i.val < 27 → counterOf (forEach l (fun i => capture i (block i)) s) (.slotOverrun (countedSlot i)) =
      if i ∈ l ∧ (tget s.slots i).fresh = true then saturatingSucc (counterOf s (.slotOverrun (countedSlot i)))
      else counterOf s (.slotOverrun (countedSlot i))) ∧
    countsBut ((everyFin 27).map .slotOverrun) s (forEach l (fun i => capture i (block i)) s) := by
  induction l generalizing s with
  | nil => exact ⟨by simp, by simp, countsBut_refl _ s⟩
  | cons a l ih =>
    obtain ⟨fresh, nodup⟩ := List.nodup_cons.mp nodup
    obtain ⟨own, other, counted, rest⟩ := capture_facts a (block a) s
    obtain ⟨slots, counts, rest'⟩ := ih nodup (fun i hi => low i (List.mem_cons_of_mem _ hi)) (capture a (block a) s)
    refine ⟨fun i => ?_, fun i hi => ?_, countsBut_trans (countsBut_mono (by simp) rest) rest'⟩
    · rw [forEach_cons, slots]
      by_cases e : a = i
      · subst e
        simp [fresh, own]
      · simp [other i e, Ne.symm e]
    · rw [forEach_cons, counts i hi]
      by_cases e : a = i
      · subst e
        simp [fresh, counted]
      · have same := counterOf_of_countsBut rest (c := .slotOverrun (countedSlot i))
          (by simpa using slotOverrun_ne hi (low a List.mem_cons_self) (Ne.symm e))
        simp [other i e, Ne.symm e, same]

/-- The channel of a ring binding; 0 of any other. -/
def boundChannel : Binding → Nat
  | .ring _ _ c => c
  | _ => 0

/-- The binding takes a channel of the frames of an origin and a bundle with a number of channels. -/
def hears (origin bundle channels : Nat) (b : Binding) : Bool :=
  decide (b = .ring origin bundle (boundChannel b) ∧ boundChannel b < channels)

theorem hears_iff {origin bundle channels : Nat} {b : Binding} :
    hears origin bundle channels b = true ↔ ∃ c, b = .ring origin bundle c ∧ c < channels := by
  rw [hears, decide_eq_true_eq]
  constructor
  · exact fun h => ⟨_, h⟩
  · rintro ⟨c, rfl, h⟩
    exact ⟨rfl, h⟩

/-- The ring slots that hear a frame. -/
def hearingSlots (s : State) (origin bundle channels : Nat) : List SlotId :=
  ringSlots.filter fun i => hears origin bundle channels (tget s.slots i).binding

theorem mem_hearingSlots {s : State} {origin bundle channels : Nat} {i : SlotId} :
    i ∈ hearingSlots s origin bundle channels ↔
      i.val < 23 ∧ ∃ c, (tget s.slots i).binding = .ring origin bundle c ∧ c < channels := by
  simp [hearingSlots, ringSlots, hears_iff, and_comm]

theorem filterMap_eq_map_filter {α β : Type} {g : α → Option β} {p : α → Bool} {h : α → β}
    (e : ∀ a, g a = if p a then some (h a) else none) (l : List α) : l.filterMap g = (l.filter p).map h := by
  induction l with
  | nil => rfl
  | cons a l ih => cases k : p a <;> simp only [List.filterMap_cons, e a, k, ih, List.filter_cons] <;> rfl

theorem capturingSlots_eq (s : State) (origin bundle channels : Nat) : capturingSlots s origin bundle channels =
    (hearingSlots s origin bundle channels).map fun i => (i, boundChannel (tget s.slots i).binding) := by
  refine filterMap_eq_map_filter (fun i => ?_) ringSlots
  cases (tget s.slots i).binding <;> simp [hears, boundChannel, and_assoc, decide_eq_true_eq]

/-- A new AUDIO frame is captured by the slots that hear it, and counted where none does. -/
theorem audioCapture_eq (origin : Nat) (payload : List Byte) (s : State) : audioCapture origin payload s =
    if hearingSlots s origin (byteAt payload 0) (byteAt payload 1) = [] then count .audioUnmatched s
    else forEach (hearingSlots s origin (byteAt payload 0) (byteAt payload 1))
      (fun i => capture i (blockAt payload (6 + 144 * boundChannel (tget s.slots i).binding))) s := by
  unfold audioCapture
  rw [capturingSlots_eq]
  cases hearingSlots s origin (byteAt payload 0) (byteAt payload 1) with
  | nil => rfl
  | cons i l => simp [forEach, List.foldl_map]

theorem hearingSlots_nodup (s : State) (origin bundle channels : Nat) : (hearingSlots s origin bundle channels).Nodup :=
  ((List.nodup_finRange 32).filter _).filter _

/-- The station slots bound to a station. -/
def listeningSlots (s : State) (st : StationId) : List SlotId :=
  stationSlots.filter fun i => (tget s.slots i).binding == .station st

theorem mem_stationSlots (i : SlotId) : i ∈ stationSlots ↔ 23 ≤ i.val ∧ i.val ≤ 26 := by
  revert i
  decide

theorem mem_listeningSlots {s : State} {st : StationId} {i : SlotId} :
    i ∈ listeningSlots s st ↔ (23 ≤ i.val ∧ i.val ≤ 26) ∧ (tget s.slots i).binding = .station st := by
  simp [listeningSlots, mem_stationSlots]

theorem exec_micBlockArrival {st : StationId} {s : State} (b : Block) (hq : quiet s) (run : running s = true)
    (present : (stationOf s st).present = true) : exec (.micBlockArrival st b) s = .next (forEach (listeningSlots s st)
      (fun i => capture i b) (modStation st (fun x => { x with mic := b }) s)) := by
  change Host.Outcome.next _ = _
  rw [finish_of_quiet hq]
  simp only [run, present]
  rfl

/-- Settles O16: the slots that capture are known before the first capture, and each captures once. -/
theorem captures : Obligations.Captures := by
  refine ⟨fun origin payload s => ?_, fun st b s hq run present => ?_⟩
  · have frame : keepsBut [.slots, .counters] s (audioCapture origin payload s) := by
      rw [audioCapture_eq]
      exact keepsBut_ite (keepsBut_mono (by simp) (count_keeps _ s)) (capturesAll_keeps _ _ s)
    obtain ⟨slots, counts, rest⟩ := capturesAll_facts
      (fun i => blockAt payload (6 + 144 * boundChannel (tget s.slots i).binding))
      (hearingSlots_nodup s origin (byteAt payload 0) (byteAt payload 1))
      (fun i hi => by have := (mem_hearingSlots.mp hi).1; omega) s
    have deaf : ∀ i : SlotId, (∀ c, (tget s.slots i).binding = .ring origin (byteAt payload 0) c →
        23 ≤ i.val ∨ byteAt payload 1 ≤ c) → i ∉ hearingSlots s origin (byteAt payload 0) (byteAt payload 1) := by
      intro i h m
      obtain ⟨low, c, bound, lt⟩ := mem_hearingSlots.mp m
      have := h c bound
      omega
    have heard : ∀ (i : SlotId) (c : Nat), i.val < 23 → (tget s.slots i).binding = .ring origin (byteAt payload 0) c →
        c < byteAt payload 1 → i ∈ hearingSlots s origin (byteAt payload 0) (byteAt payload 1) :=
      fun i c low bound lt => mem_hearingSlots.mpr ⟨low, c, bound, lt⟩
    refine ⟨fun i c low bound lt => ?_, fun i h => ?_, fun h => ?_, fun i c low bound lt => ?_, fun i low h => ?_, frame⟩
    · have m := heard i c low bound lt
      rw [audioCapture_eq, if_neg (List.ne_nil_of_mem m), slots, if_pos m, bound]
      rfl
    · rw [audioCapture_eq]
      split
      · rfl
      · rw [slots, if_neg (deaf i h)]
    · have none : hearingSlots s origin (byteAt payload 0) (byteAt payload 1) = [] :=
        List.eq_nil_iff_forall_not_mem.mpr fun i m => by
          obtain ⟨low, c, bound, lt⟩ := mem_hearingSlots.mp m
          exact absurd (h i c low bound) (not_le.mpr lt)
      rw [audioCapture_eq, if_pos none]
      exact countsOne_count _ s
    · have m := heard i c low bound lt
      rw [audioCapture_eq, if_neg (List.ne_nil_of_mem m), counts i (by omega)]
      exact ⟨by simp [m], rest⟩
    · rw [audioCapture_eq]
      split
      · refine tget_count_ne .audioUnmatched s ?_
        simp only [counterIx, counterRow, countedSlot_val, ne_eq, Fin.mk.injEq]
        omega
      · rw [counts i low, if_neg fun k => deaf i h k.1]
  · obtain ⟨slots, counts, rest⟩ := capturesAll_facts (fun _ => b) (l := listeningSlots s st)
      ((by decide : stationSlots.Nodup).filter _) (fun i hi => by have := (mem_listeningSlots.mp hi).1; omega)
      (modStation st (fun x => { x with mic := b }) s)
    have kept := capturesAll_keeps (fun _ => b) (listeningSlots s st) (modStation st (fun x => { x with mic := b }) s)
    have stations := kept .intercom (by simp)
    have station : ∀ x, stationOf (forEach (listeningSlots s st) (fun i => capture i b)
        (modStation st (fun x => { x with mic := b }) s)) x =
          if st = x then { stationOf s x with mic := b } else stationOf s x := fun x => by
      rw [stationOf, stations]
      exact tget_tmod _ _ _ _
    refine ⟨_, exec_micBlockArrival b hq run present, by simp [station], fun x ne => by simp [station, Ne.symm ne],
      fun i => ?_, fun i low => ?_, rest, by rw [stations]; rfl,
      keepsBut_trans (keepsBut_mono (by simp) (keepsBut_modIntercom _ s)) (keepsBut_mono (by simp) kept)⟩
    · rw [slots, show (modStation st (fun x => { x with mic := b }) s).slots = s.slots from rfl]
      simp only [mem_listeningSlots, and_assoc]
    · rw [counts i low, show (modStation st (fun x => { x with mic := b }) s).slots = s.slots from rfl]
      have high : i.val ≤ 26 := by omega
      simp only [mem_listeningSlots, high, and_true, and_assoc]
      rfl

end Sys2Proof.Machine
end

section
namespace Sys2Proof.Machine

/-! ### The records of the report queue (R202) -/

theorem recorded_report (kind : ReportKind) (subject value : Nat) {s : State} (h : s.control.mode ≠ .unaddressed) :
    recorded kind subject value s (report kind subject value s) := by
  unfold recorded report
  dsimp only
  rw [if_neg h]
  split
  · next found =>
    obtain ⟨x, hx, same⟩ := List.any_eq_true.mp found
    simp only [Bool.and_eq_true, beq_iff_eq] at same
    obtain ⟨rfl, rfl⟩ := same
    exact List.mem_map.mpr ⟨x, hx, by simp⟩
  · split
    · simp
    · simp [count]

theorem length_report (kind : ReportKind) (subject value : Nat) (s : State) :
    (report kind subject value s).reports.queue.length ≤ s.reports.queue.length + 1 := by
  unfold report
  dsimp only
  split_ifs <;> simp [count, coalesce]

/-- A record stays while there is room, until one of its kind and subject takes its place. -/
theorem mem_report_of_mem {kind : ReportKind} {subject value : Nat} {s : State} {r : Report} (h : r ∈ s.reports.queue)
    (other : r.kind ≠ kind) (room : s.reports.queue.length < 32) : r ∈ (report kind subject value s).reports.queue := by
  unfold report
  dsimp only
  split_ifs
  · exact h
  · exact List.mem_map.mpr ⟨r, h, if_neg fun same => other same.1⟩
  · exact List.mem_append_left _ h

/-- The counters of a report placed (R202). -/
def reportCounts : List Counter := [.reportsCoalesced, .reportsDropped]

/-- From one state to another at most n reports of a kind are placed, and no other: every other record stays while there is
room. Of the counters those listed alone may change. -/
structure Notes (kind : ReportKind) (l : List Counter) (n : Nat) (s t : State) : Prop where
  length : t.reports.queue.length ≤ s.reports.queue.length + n
  stays : ∀ r ∈ s.reports.queue, r.kind ≠ kind → s.reports.queue.length + n ≤ 32 → r ∈ t.reports.queue
  counts : countsBut l s t

section
variable {kind : ReportKind} {l : List Counter} {s t u : State}

theorem notes_of_reports (n : Nat) (h : t.reports = s.reports) (counts : countsBut l s t) : Notes kind l n s t :=
  ⟨by rw [h]; omega, fun r hr _ _ => by rw [h]; exact hr, counts⟩

theorem notes_refl (n : Nat) (s : State) : Notes kind l n s s := notes_of_reports n rfl (countsBut_refl l s)

theorem notes_trans {m n : Nat} (h : Notes kind l m s t) (k : Notes kind l n t u) : Notes kind l (m + n) s u where
  length := by have := h.length; have := k.length; omega
  stays := fun r hr other room => k.stays r (h.stays r hr other (by omega)) other (by have := h.length; omega)
  counts := countsBut_trans h.counts k.counts

/-- A walk whose every change places at most one report. -/
theorem notes_forEach {α : Type} {f : α → State → State} (h : ∀ a s, Notes kind l 1 s (f a s)) (xs : List α) (s : State) :
    Notes kind l xs.length s (forEach xs f s) := by
  induction xs generalizing s with
  | nil => exact notes_refl 0 s
  | cons x xs ih =>
    rw [List.length_cons, Nat.add_comm]
    exact notes_trans (h x s) (ih (f x s))

theorem notes_report (subject value : Nat) (s : State) :
    Notes kind reportCounts 1 s (report kind subject value s) :=
  ⟨length_report _ _ _ _, fun _ hr other room => mem_report_of_mem hr other (Nat.lt_of_succ_le room),
    report_countsBut _ _ _ _⟩

end

/-! ### Entries that leave the lists (R78, R96) -/

/-- The note of a zone changes the zone state reported last alone, with at most one report. -/
theorem noteZone_facts (z : ZoneId) (s : State) :
    (noteZone false z s).claims = { s.claims with reported := (noteZone false z s).claims.reported } ∧
      Notes .zoneState reportCounts 1 s (noteZone false z s) := by
  unfold noteZone reportUnless
  dsimp only
  split
  · exact ⟨rfl, notes_refl 1 s⟩
  · obtain ⟨length, stays, counts⟩ := notes_report (kind := .zoneState) z.val
      (zoneStateCode (zoneStateIn s.claims.table (listOf s z)))
      (modClaims (fun x => { x with reported := tset x.reported z (zoneStateIn s.claims.table (listOf s z)) }) s)
    rw [if_neg (by decide)]
    exact ⟨by rw [report_keeps _ _ _ _ .claims (by simp)]; rfl, length, stays, counts⟩

/-- A removed entry leaves its list; of the claim unit nothing else changes but the zone states reported. -/
theorem removeEntry_facts (c : ClaimId) (z : ZoneId) (s : State) :
    (removeEntry false c z s).claims = { s.claims with
      lists := tset s.claims.lists z ((listOf s z).filter fun e => e.claim != c)
      reported := (removeEntry false c z s).claims.reported } ∧
    Notes .zoneState reportCounts 1 s (removeEntry false c z s) := by
  obtain ⟨claims, length, stays, counts⟩ := noteZone_facts z (setList z ((listOf s z).filter fun e => e.claim != c) s)
  exact ⟨claims, length, stays, counts⟩

theorem listOf_removeEntry (c : ClaimId) (z y : ZoneId) (s : State) : listOf (removeEntry false c z s) y =
    if z = y then (listOf s y).filter (fun e => e.claim != c) else listOf s y := by
  rw [listOf, (removeEntry_facts c z s).1]
  dsimp only
  rw [tget_tset]
  split
  · next e => rw [e]
  · rfl

/-- A claim's entries leave its zones' lists, with their reports (R78, R96). -/
def delisted (c : ClaimId) (s : State) : State := forEach (zonesWhere s c fun _ => true) (removeEntry false c) s

theorem delisted_keeps (c : ClaimId) (s : State) : keepsBut [.claims, .reports, .counters] s (delisted c s) :=
  keepsBut_forEach (removeEntry_keeps false c) _ s

theorem removeEntries_claims (c : ClaimId) (zs : List ZoneId) (s : State) :
    (forEach zs (removeEntry false c) s).claims = { s.claims with
      lists := (forEach zs (removeEntry false c) s).claims.lists
      reported := (forEach zs (removeEntry false c) s).claims.reported } := by
  induction zs generalizing s with
  | nil => rfl
  | cons z zs ih => rw [forEach_cons, ih, (removeEntry_facts c z s).1]

theorem delisted_facts (c : ClaimId) (s : State) :
    (delisted c s).claims = { s.claims with
      lists := (delisted c s).claims.lists, reported := (delisted c s).claims.reported } ∧
    Notes .zoneState reportCounts 24 s (delisted c s) := by
  obtain ⟨length, stays, counts⟩ := notes_forEach (fun z u => (removeEntry_facts c z u).2) (zonesWhere s c fun _ => true) s
  have few : (zonesWhere s c fun _ => true).length ≤ 24 :=
    (List.length_filter_le _ _).trans (List.length_finRange (n := 24)).le
  exact ⟨removeEntries_claims c _ s, length.trans (by omega), fun r hr other room => stays r hr other (by omega), counts⟩

theorem entryIn_eq_none {l : List ListEntry} {c : ClaimId} : entryIn l c = none ↔ ∀ e ∈ l, e.claim ≠ c := by
  simp [entryIn]

theorem mem_zonesWhere {s : State} {c : ClaimId} {z : ZoneId} :
    z ∈ zonesWhere s c (fun _ => true) ↔ entryIn (listOf s z) c ≠ none := by
  unfold zonesWhere
  rw [List.mem_filter]
  cases entryIn (listOf s z) c <;> simp

theorem listOf_delisted (c : ClaimId) (s : State) (z : ZoneId) :
    listOf (delisted c s) z = (listOf s z).filter (fun e => e.claim != c) := by
  obtain ⟨-, inside, outside⟩ := get_forEach_own (get := listOf) (f := removeEntry false c) (I := fun _ => True) (s := s)
    (fun y u _ same => ⟨trivial, by rw [listOf_removeEntry, listOf_removeEntry, same],
      fun x ne => by rw [listOf_removeEntry, if_neg ne]⟩)
    (l := zonesWhere s c fun _ => true) ((List.nodup_finRange 24).filter _) (t := s) trivial (fun _ _ => rfl)
  by_cases h : z ∈ zonesWhere s c fun _ => true
  · rw [delisted, inside z h, listOf_removeEntry, if_pos rfl]
  · rw [delisted, outside z h, eq_comm, List.filter_eq_self]
    rw [mem_zonesWhere, not_not, entryIn_eq_none] at h
    exact fun e he => bne_iff_ne.mpr (h e he)

/-! ### The end of an inbound claim (R91, R117) -/

theorem endClaim_eq {reason : EndReason} {c : ClaimId} {cl : Claim} {s : State} (h : claimAt s c = some cl)
    (loud : reason ≠ .reset) : endClaim reason c s = report .claimEnd c.val (reasonCode reason)
      (tellOwner c cl reason (freed c (releaseSlot c cl reason (delisted c s)))) := by
  have quiet : (reason == .reset) = false := beq_false_of_ne loud
  unfold endClaim
  rw [h, quiet]
  rfl

/-- The counters that the end of an inbound claim may count. -/
def inboundCounts : List Counter :=
  [.inboundPreempted, .linkDiscard .a, .linkDiscard .b, .queueFull .a, .queueFull .b, .reportsCoalesced, .reportsDropped]

/-- An inbound claim has ended with a reason: its lists, its slot and its place are free, its origin is told, and the end is
reported. -/
structure InboundEnded (reason : EndReason) (c : ClaimId) (cl : Claim) (s t : State) : Prop where
  gone : claimGone c s t
  claims : t.claims = { s.claims with
    table := t.claims.table, lists := t.claims.lists, reported := t.claims.reported }
  slots : t.slots = (rebind .unbound cl.slot s).slots
  told : originTold (preemptingEnd reason) cl id s t
  reported : s.control.mode ≠ .unaddressed → recorded .claimEnd c.val (reasonCode reason) s t
  stays : ∀ r ∈ s.reports.queue, r.kind ≠ .zoneState → r.kind ≠ .claimEnd → s.reports.queue.length ≤ 7 →
    r ∈ t.reports.queue
  counts : countsBut inboundCounts s t
  keeps : keepsBut [.ring, .slots, .claims, .reports, .counters] s t

theorem sendAnswer_keeps (origin tag answered : Nat) (code : AnswerCode) (granted requested : Nat) (s : State) :
    keepsBut [.ring, .counters] s (sendAnswer origin tag answered code granted requested s) := originate_keeps _ _ _ s

theorem sendAnswer_countsBut (origin tag answered : Nat) (code : AnswerCode) (granted requested : Nat) (s : State) :
    countsBut [.linkDiscard .a, .linkDiscard .b, .queueFull .a, .queueFull .b] s
      (sendAnswer origin tag answered code granted requested s) :=
  originate_countsBut origin _ s (by decide)

theorem sendAnswer_ring_congr (origin tag answered : Nat) (code : AnswerCode) (granted requested : Nat) {s t : State}
    (ring : t.ring = s.ring) (mode : t.control.mode = s.control.mode) :
    (sendAnswer origin tag answered code granted requested t).ring =
      (sendAnswer origin tag answered code granted requested s).ring := originate_ring_congr ring mode

theorem tellOrigin_keeps (node tag n : Nat) (reason : EndReason) (s : State) :
    keepsBut [.ring, .counters] s (tellOrigin node tag n reason s) :=
  keepsBut_ite (keepsBut_trans (sendAnswer_keeps _ _ _ _ _ _ s) (keepsBut_mono (by simp) (count_keeps _ _)))
    (keepsBut_refl _ s)

theorem sendAnswer_period (origin tag answered : Nat) (code : AnswerCode) (granted requested : Nat) (s : State) :
    (sendAnswer origin tag answered code granted requested s).ring.period = s.ring.period := by
  rw [sendAnswer, sendClaim, (sends_originate _ _ _ s).ring]

theorem tellOrigin_period (node tag n : Nat) (reason : EndReason) (s : State) :
    (tellOrigin node tag n reason s).ring.period = s.ring.period := by
  unfold tellOrigin
  split
  · exact sendAnswer_period _ _ _ _ _ _ s
  · rfl

theorem tellOrigin_countsBut (node tag n : Nat) (reason : EndReason) (s : State) :
    countsBut inboundCounts s (tellOrigin node tag n reason s) := by
  unfold tellOrigin
  split
  · exact countsBut_trans (countsBut_mono (by simp [inboundCounts]) (sendAnswer_countsBut _ _ _ _ _ _ s))
      (count_countsBut (by simp [inboundCounts]) _)
  · exact countsBut_refl _ s

theorem inServiceFor_congr {s t : State} (h : t.peer = s.peer) (node tag : Nat) :
    inServiceFor t node tag = inServiceFor s node tag := by rw [inServiceFor, h, inServiceFor]

/-- What the origin hears depends on the ring, the mode and the RESERVE in service alone. -/
theorem tellOrigin_told {node tag n : Nat} {reason : EndReason} {s t : State} (ring : t.ring = s.ring)
    (control : t.control = s.control) (peer : t.peer = s.peer) :
    (preemptingEnd reason = true → inServiceFor s node tag = false →
      (tellOrigin node tag n reason t).ring = (sendAnswer node tag 0 .preempted 0 n s).ring ∧
      counterOf (tellOrigin node tag n reason t) .inboundPreempted = saturatingSucc (counterOf t .inboundPreempted)) ∧
    (preemptingEnd reason = false ∨ inServiceFor s node tag = true →
      (tellOrigin node tag n reason t).ring = s.ring ∧
      counterOf (tellOrigin node tag n reason t) .inboundPreempted = counterOf t .inboundPreempted) := by
  unfold tellOrigin
  rw [inServiceFor_congr peer]
  refine ⟨fun told free => ?_, fun h => ?_⟩
  · rw [told, free]
    refine ⟨sendAnswer_ring_congr _ _ _ _ _ _ ring (by rw [control]), (counterOf_count _ _).trans (congrArg _ ?_)⟩
    exact counterOf_of_countsBut (sendAnswer_countsBut _ _ _ _ _ _ t) (by decide)
  · have silent : (preemptingEnd reason && !inServiceFor s node tag) = false := by rcases h with h | h <;> simp [h]
    rw [silent]
    exact ⟨ring, rfl⟩

theorem endClaim_inbound {reason : EndReason} {c : ClaimId} {cl : Claim} {node tag : Nat} {s : State}
    (loud : reason ≠ .reset) (held : claimAt s c = some cl) (owner : cl.owner = .peer node tag) :
    InboundEnded reason c cl s (endClaim reason c s) := by
  obtain ⟨claims, notes⟩ := delisted_facts c s
  have kept := delisted_keeps c s
  have released : releaseSlot c cl reason (delisted c s) = rebind .unbound cl.slot (delisted c s) := by
    rw [releaseSlot, owner]
  have freedKeeps : keepsBut [.slots, .claims, .reports, .counters] s (freed c (rebind .unbound cl.slot (delisted c s))) :=
    keepsBut_trans (keepsBut_mono (by simp) kept) (keepsBut_trans (keepsBut_mono (by simp) (rebind_keeps _ _ _))
      (keepsBut_mono (by simp) (keepsBut_modClaims _ _)))
  have told := tellOrigin_told (node := node) (tag := tag) (n := (zonesOf cl.target).length) (reason := reason)
    (freedKeeps .ring (by simp)) (freedKeeps .control (by simp)) (freedKeeps .peer (by simp))
  have ended : endClaim reason c s = report .claimEnd c.val (reasonCode reason) (tellOrigin node tag
      (zonesOf cl.target).length reason (freed c (rebind .unbound cl.slot (delisted c s)))) := by
    rw [endClaim_eq held loud, released, tellOwner, owner]
  have tail := keepsBut_trans (keepsBut_mono (by simp) (tellOrigin_keeps node tag (zonesOf cl.target).length reason
    (freed c (rebind .unbound cl.slot (delisted c s))))) (keepsBut_mono (m := [.ring, .reports, .counters]) (by simp)
      (report_keeps .claimEnd c.val (reasonCode reason) _))
  rw [← ended] at tail
  have counted : counterOf (freed c (rebind .unbound cl.slot (delisted c s))) .inboundPreempted =
      counterOf s .inboundPreempted := counterOf_of_countsBut notes.counts (by decide)
  have whole : (endClaim reason c s).claims = (freed c (rebind .unbound cl.slot (delisted c s))).claims :=
    tail .claims (by simp)
  have atPlace : ∀ d, claimAt (endClaim reason c s) d = if c = d then none else claimAt s d := fun d => by
    rw [claimAt, whole, ← claimAt, claimAt_freed, claimAt]
    change (if c = d then none else tget (delisted c s).claims.table d) = _
    rw [claims]
    rfl
  have period : (tellOrigin node tag (zonesOf cl.target).length reason
      (freed c (rebind .unbound cl.slot (delisted c s)))).ring.period = s.ring.period :=
    (tellOrigin_period _ _ _ _ _).trans (congrArg Ring.period (freedKeeps .ring (by simp)))
  have mode : (tellOrigin node tag (zonesOf cl.target).length reason
      (freed c (rebind .unbound cl.slot (delisted c s)))).control = s.control :=
    (tellOrigin_keeps _ _ _ _ _ .control (by simp)).trans (freedKeeps .control (by simp))
  have queue : (tellOrigin node tag (zonesOf cl.target).length reason
      (freed c (rebind .unbound cl.slot (delisted c s)))).reports = (delisted c s).reports :=
    tellOrigin_keeps _ _ _ _ _ .reports (by simp)
  refine ⟨⟨by simp [atPlace], fun d ne => by simp [atPlace, Ne.symm ne], fun z => ?_⟩, ?_, ?_, ?_, fun addressed => ?_,
    fun r hr other notEnd few => ?_, ?_, ?_⟩
  · rw [listOf, whole]
    exact (listOf_delisted c s z).trans (List.filter_congr fun e _ => Bool.eq_iff_iff.mpr (by simp))
  · rw [whole, freed, modClaims_claims, show (rebind .unbound cl.slot (delisted c s)).claims = (delisted c s).claims from rfl,
      claims]
  · have slots : (delisted c s).slots = s.slots := kept .slots (by simp)
    rw [tail .slots (by simp), freed, modClaims_slots, rebind, rebind, modSlot, modSlot, modSlots_slots, modSlots_slots, slots]
  · intro n g same
    obtain ⟨rfl, rfl⟩ := Owner.peer.inj (owner.symm.trans same)
    have after : ∀ u : State, (report .claimEnd c.val (reasonCode reason) u).ring = u.ring ∧
        counterOf (report .claimEnd c.val (reasonCode reason) u) .inboundPreempted = counterOf u .inboundPreempted :=
      fun u => ⟨report_ring _ _ _ u, counterOf_of_countsBut (report_countsBut _ _ _ u) (by decide)⟩
    rw [ended, (after _).1, (after _).2, ← counted]
    exact told
  · rw [ended]
    have := recorded_report .claimEnd c.val (reasonCode reason) (s := tellOrigin node tag (zonesOf cl.target).length reason
      (freed c (rebind .unbound cl.slot (delisted c s)))) (by rw [mode]; exact addressed)
    rw [recorded, period] at this
    exact this
  · rw [ended]
    have := notes.length
    refine mem_report_of_mem ?_ notEnd (by rw [queue]; omega)
    rw [queue]
    exact notes.stays r hr other (by omega)
  · rw [ended]
    exact countsBut_trans (countsBut_trans (countsBut_mono (by simp [inboundCounts, reportCounts]) notes.counts)
      (tellOrigin_countsBut _ _ _ _ (freed c (rebind .unbound cl.slot (delisted c s)))))
      (countsBut_mono (by simp [inboundCounts]) (report_countsBut _ _ _ _))
  · exact keepsBut_trans (keepsBut_mono (by simp) freedKeeps) (keepsBut_mono (by simp) tail)

end Sys2Proof.Machine
end

section
namespace Sys2Proof.Machine

/-! ### The loss of a source (R31, R32) -/

/-- A slot at its 50th miss: LOST and silent. -/
def lostSlot (x : Slot) : Slot := { x with miss := 50, health := .lost, block := silence }

/-- The loss of a slot's source is carried out: the slot LOST, reported and counted. -/
def lostState (i : SlotId) (s : State) : State :=
  count (.slotLost (countedSlot i)) (report .sourceLost i.val 0 (modSlot i lostSlot (dropDue (.sourceLost i) s)))

/-- What follows the loss of a slot: for a DYNAMIC slot the end of its claim or of the service it was bound for. -/
theorem loseSource_dropDue {i : SlotId} {s : State} (h : losesSource s i = true) :
    loseSource i (dropDue (.sourceLost i) s) =
      if (tget s.slots i).mode = some .dynamic then loseDynamic i (lostState i s) else lostState i s := by
  have loses : losesSource (dropDue (.sourceLost i) s) i = true := (losesSource_congr rfl i).trans h
  rw [loseSource, if_pos loses]
  rfl

theorem lostState_keeps (i : SlotId) (s : State) : keepsBut [.slots, .reports, .counters, .boundary] s (lostState i s) :=
  keepsBut_trans (keepsBut_mono (by simp) (keepsBut_modBoundary _ s)) (keepsBut_trans (keepsBut_mono (by simp)
    (modSlot_keeps i lostSlot _)) (keepsBut_trans (keepsBut_mono (by simp) (report_keeps _ _ _ _))
      (keepsBut_mono (by simp) (count_keeps _ _))))

theorem slotLost_ne_reports (i : SlotId) : ∀ d ∈ [Counter.reportsCoalesced, .reportsDropped],
    counterIx (.slotLost (countedSlot i)) ≠ counterIx d := by
  simp only [List.mem_cons, List.not_mem_nil, or_false, forall_eq_or_imp, forall_eq, counterIx, counterRow, countedSlot_val,
    ne_eq, Fin.mk.injEq]
  omega

theorem slotLost_ne_inbound (i : SlotId) : ∀ d ∈ inboundCounts, counterIx (.slotLost (countedSlot i)) ≠ counterIx d := by
  simp only [inboundCounts, List.mem_cons, List.not_mem_nil, or_false, forall_eq_or_imp, forall_eq, counterIx, counterRow,
    portIx, countedSlot_val, ne_eq, Fin.mk.injEq]
  omega

theorem lostState_facts (i : SlotId) (s : State) :
    tget (lostState i s).slots i = lostSlot (tget s.slots i) ∧
    (∀ j, j ≠ i → tget (lostState i s).slots j = tget s.slots j) ∧
    reportedOnce .sourceLost i.val 0 s (lostState i s) ∧
    counterOf (lostState i s) (.slotLost (countedSlot i)) = saturatingSucc (counterOf s (.slotLost (countedSlot i))) ∧
    countsBut [.slotLost (countedSlot i), .reportsCoalesced, .reportsDropped] s (lostState i s) ∧
    (lostState i s).boundary = (dropDue (.sourceLost i) s).boundary := by
  have reported := report_countsBut .sourceLost i.val 0 (modSlot i lostSlot (dropDue (.sourceLost i) s))
  have slots : (lostState i s).slots = (modSlot i lostSlot (dropDue (.sourceLost i) s)).slots := report_slots _ _ _ _
  refine ⟨?_, fun j ne => ?_, report_reports_congr _ _ _ rfl rfl rfl, ?_, ?_, report_keeps _ _ _ _ .boundary (by simp)⟩
  · rw [slots, tget_modSlot_self]
    rfl
  · rw [slots, tget_modSlot_ne _ _ ne.symm]
    rfl
  · rw [lostState, counterOf_count, counterOf_of_countsBut reported (slotLost_ne_reports i)]
    rfl
  · exact countsBut_trans (countsBut_mono (s := s) (by simp) reported) (count_countsBut (by simp) _)

/-- The command of a loss that is due carries it out, with what follows it. -/
theorem carriesOut_sourceLost {i : SlotId} {s u : State} (due : isDue (.sourceLost i) s)
    (h : loseSource i (dropDue (.sourceLost i) s) = u) (kept : u.boundary = (lostState i s).boundary) :
    carriesOut (.sourceLost i) (.sourceLost i) s u :=
  ⟨by rw [← h]; exact congrArg Host.Outcome.next (takeDue_of_due _ due),
    kept.trans (lostState_facts i s).2.2.2.2.2⟩

theorem loseDynamic_of_service {i : SlotId} {s : State} {v : InService} (service : s.peer.service = some v)
    (slot : v.slot = i) : loseDynamic i s =
      sendAnswer v.reserve.origin v.reserve.tag 1 .refused 0 0 (abandonService v s) := by
  rw [loseDynamic, service]
  exact if_pos slot

/-- The only inbound claim on a DYNAMIC slot that is LOST ends SOURCE-LOST. -/
theorem loseDynamic_of_claim {i : SlotId} {c : ClaimId} {cl : Claim} {node tag : Nat} {s : State}
    (service : ∀ v, s.peer.service = some v → v.slot ≠ i) (held : claimAt s c = some cl) (owner : cl.owner = .peer node tag)
    (slot : cl.slot = i) (only : ∀ d x n m, claimAt s d = some x → x.owner = .peer n m → x.slot = i → d = c) :
    loseDynamic i s = endClaim .sourceLost c s := by
  have one : (everyFin 48).filter (· == c) = [c] := by
    rw [List.filter_beq, List.count_eq_one_of_mem (List.nodup_finRange 48) (List.mem_finRange c), List.replicate_one]
  have ends : loseDynamic.endOnSlot i s = endClaim .sourceLost c s := by
    change forEach _ _ s = forEach [c] (endClaim .sourceLost) s
    congr 1
    rw [← one]
    refine List.filter_congr fun d _ => ?_
    by_cases e : d = c
    · simp [e, held, owner, slot]
    · rw [beq_false_of_ne e]
      cases hd : claimAt s d with
      | none => rfl
      | some x =>
        refine Bool.eq_false_iff.mpr fun h => ?_
        simp only [Bool.and_eq_true, beq_iff_eq] at h
        obtain ⟨same, inbound⟩ := h
        split at inbound
        · next n m ho => exact e (only d x n m hd ho same)
        · cases inbound
  unfold loseDynamic
  cases h : s.peer.service with
  | none => exact ends
  | some v => exact (if_neg (service v h)).trans ends

section
variable {i : SlotId} {s : State}

theorem loseDynamic_inbound {c : ClaimId} {cl : Claim} {node tag : Nat} (loses : losesSource s i = true)
    (dynamic : (tget s.slots i).mode = some .dynamic) (service : ∀ v, s.peer.service = some v → v.slot ≠ i)
    (held : claimAt s c = some cl) (owner : cl.owner = .peer node tag) (slot : cl.slot = i)
    (only : ∀ d x n m, claimAt s d = some x → x.owner = .peer n m → x.slot = i → d = c) :
    loseSource i (dropDue (.sourceLost i) s) = endClaim .sourceLost c (lostState i s) ∧
      InboundEnded .sourceLost c cl (lostState i s) (endClaim .sourceLost c (lostState i s)) := by
  have kept := lostState_keeps i s
  have place : ∀ d, claimAt (lostState i s) d = claimAt s d := fun d =>
    congrArg (fun x : Claims => tget x.table d) (kept .claims (by simp))
  refine ⟨?_, endClaim_inbound (by decide) ((place c).trans held) owner⟩
  rw [loseSource_dropDue loses, if_pos dynamic]
  refine loseDynamic_of_claim (fun v h => service v ?_) ((place c).trans held) owner slot
    fun d x n m h => only d x n m ((place d).symm.trans h)
  exact (congrArg Peer.service (kept .peer (by simp))).symm.trans h

theorem recorded_of_reportedOnce {kind : ReportKind} {subject value : Nat} {t : State}
    (addressed : s.control.mode ≠ .unaddressed) (h : reportedOnce kind subject value s t) :
    recorded kind subject value s t := by
  rw [recorded, h]
  exact recorded_report kind subject value addressed

end

/-- Settles O18: the loss itself is one change of the slot; what follows it is the end of the slot's inbound claim, or of
the service it was bound for. -/
theorem sourceLost : Obligations.SourceLost := by
  refine ⟨fun i s due loses static => ?_, fun i c cl node tag s due loses dynamic service held owner slot only => ?_,
    fun i v s due loses dynamic service slot => ?_⟩ <;>
    obtain ⟨own, others, reported, counted, counts, -⟩ := lostState_facts i s <;>
    have kept := lostState_keeps i s
  · have done : loseSource i (dropDue (.sourceLost i) s) = lostState i s := by
      rw [loseSource_dropDue loses, if_neg static]
    exact ⟨_, carriesOut_sourceLost due done rfl, own, others, reported, counted, counts, kept⟩
  · obtain ⟨done, ended⟩ := loseDynamic_inbound loses dynamic (fun v h => (service v h).1) held owner slot only
    obtain ⟨free, left, lists⟩ := ended.gone
    have claims : (lostState i s).claims = s.claims := kept .claims (by simp)
    have ring : (lostState i s).ring = s.ring := kept .ring (by simp)
    have control : (lostState i s).control = s.control := kept .control (by simp)
    have unserved : inServiceFor (lostState i s) node tag = false := by
      rw [inServiceFor_congr (kept .peer (by simp)), inServiceFor]
      cases h : s.peer.service with
      | none => rfl
      | some v => simpa [Decidable.imp_iff_not_or] using (service v h).2
    obtain ⟨sent, preempted⟩ := (ended.told node tag owner).1 rfl unserved
    have apart : ∀ d ∈ [Counter.slotLost (countedSlot i), .reportsCoalesced, .reportsDropped],
        counterIx .inboundPreempted ≠ counterIx d :=
      List.forall_mem_cons.mpr ⟨(slotLost_ne_inbound i .inboundPreempted (by simp [inboundCounts])).symm, by decide⟩
    refine ⟨_, carriesOut_sourceLost due done (ended.keeps .boundary (by simp)), ⟨free, fun d ne => (left d ne).trans ?_,
      fun z => (lists z).trans ?_⟩, ?_, fun j ne => ?_, ?_, fun addressed => ⟨?_, fun few => ?_⟩, ?_, ?_, ?_, ?_, ?_⟩
    · rw [claimAt, claims, claimAt]
    · rw [listOf, claims, listOf]
    · rw [ended.slots, slot, rebind, tget_modSlot_self, own]
      rfl
    · rw [ended.slots, slot, rebind, tget_modSlot_ne _ _ ne.symm, others j ne]
    · rw [ended.claims, claims]
    · have := ended.reported (by rw [control]; exact addressed)
      rwa [recorded, ring] at this
    · have length := length_report .sourceLost i.val 0 s
      exact ended.stays _ (recorded_of_reportedOnce addressed reported) (by simp) (by simp) (by rw [reported]; omega)
    · rw [sent]
      exact sendAnswer_ring_congr _ _ _ _ _ _ ring (by rw [control])
    · rw [counterOf_of_countsBut ended.counts (slotLost_ne_inbound i), counted]
    · rw [preempted, counterOf_of_countsBut counts apart]
    · exact countsBut_trans (countsBut_mono (by simp) counts) (countsBut_mono (by simp [inboundCounts]) ended.counts)
    · exact keepsBut_trans (keepsBut_mono (by simp) kept) (keepsBut_mono (by simp) ended.keeps)
  · have same : (lostState i s).peer = s.peer := kept .peer (by simp)
    have claims : (lostState i s).claims = s.claims := kept .claims (by simp)
    have done : loseSource i (dropDue (.sourceLost i) s) = sendAnswer v.reserve.origin v.reserve.tag 1 .refused 0 0
        (abandonService v (lostState i s)) := by
      rw [loseSource_dropDue loses, if_pos dynamic, loseDynamic_of_service (by rw [same]; exact service) slot]
    have abandoned : keepsBut [.slots, .claims, .peer] (lostState i s) (abandonService v (lostState i s)) :=
      keepsBut_trans (keepsBut_mono (by simp) (keepsBut_modPeer _ _)) (keepsBut_trans (keepsBut_mono (by simp)
        (keepsBut_modClaims _ _)) (keepsBut_mono (by simp) (rebind_keeps _ _ _)))
    have sent := sendAnswer_keeps v.reserve.origin v.reserve.tag 1 .refused 0 0 (abandonService v (lostState i s))
    have slots := sent .slots (by simp)
    refine ⟨_, carriesOut_sourceLost due done ((sent .boundary (by simp)).trans (abandoned .boundary (by simp))), ?_, ?_, ?_,
      fun j ne => ?_, ?_, ?_, ?_, ?_⟩
    · rw [sent .peer (by simp), ← same]
      rfl
    · rw [sent .claims (by simp), ← claims]
      rfl
    · rw [slots, abandonService, slot, rebind, tget_modSlot_self]
      exact (congrArg unboundSlot own : unboundSlot (tget (lostState i s).slots i) = _)
    · rw [slots, abandonService, slot, rebind, tget_modSlot_ne _ _ ne.symm]
      exact others j ne
    · exact sendAnswer_ring_congr _ _ _ _ _ _ ((abandoned .ring (by simp)).trans (kept .ring (by simp)))
        (congrArg Control.mode ((abandoned .control (by simp)).trans (kept .control (by simp))))
    · rw [reportedOnce, sent .reports (by simp), abandoned .reports (by simp), reported]
    · rw [counterOf_of_countsBut (sendAnswer_countsBut _ _ _ _ _ _ _)
        (fun d hd => slotLost_ne_inbound i d (by revert hd; simp only [inboundCounts, List.mem_cons]; tauto)), ← counted]
      exact congrArg (tget · _) (abandoned .counters (by simp))
    · exact keepsBut_trans (keepsBut_mono (by simp) kept) (keepsBut_trans (keepsBut_mono (by simp) abandoned)
        (keepsBut_mono (by simp) sent))

end Sys2Proof.Machine
end

section
namespace Sys2Proof.Machine

/-! ### A change of supervision (R182) -/

/-- The record of a lane whose supervision ends: UNKNOWN, with nothing of its window left. -/
def unsupervisedRecord (r : LaneRecord) : LaneRecord :=
  { clearAccumulators { r with state := none } with overtemp := false, lastVerdict := none, whole := false }

/-- The record of a lane when the enable of its supervision is written. -/
def supervisionWritten (old new : Bool) (r : LaneRecord) : LaneRecord :=
  if old && !new then unsupervisedRecord r else if !old && new then { r with whole := false } else r

@[simp] theorem report_lines (kind : ReportKind) (subject value : Nat) (s : State) :
    (report kind subject value s).lines = s.lines := report_keeps kind subject value s .lines (by simp)

theorem modRecord_lines (l : LaneId) (f : LaneRecord → LaneRecord) (s : State) : (modRecord l f s).lines =
    { s.lines with lanes := tmod s.lines.lanes l fun x => { x with record := f x.record } } := rfl

theorem recordOf_modRecord (l k : LaneId) (f : LaneRecord → LaneRecord) (s : State) :
    recordOf (modRecord l f s) k = if l = k then f (recordOf s k) else recordOf s k := by
  rw [recordOf, modRecord_lines, tget_tmod]
  split <;> rfl

theorem modRecord_keeps (l : LaneId) (f : LaneRecord → LaneRecord) (s : State) : keepsBut [.lines] s (modRecord l f s) :=
  keepsBut_modLines _ s

theorem setLineState_of_change {l : LaneId} {v : LineState} {s : State} (h : (recordOf s l).state ≠ v) :
    setLineState l v s = count (.lineChanges l) (report .lineState l.val (lineStateCode v)
      (modRecord l (fun r => { r with state := v }) s)) := if_neg h

theorem changeSupervision_same (z : ZoneId) (b : Bool) (s : State) : changeSupervision z b b s = s := by cases b <;> rfl

theorem changeSupervision_off (z : ZoneId) (s : State) :
    changeSupervision z true false s = endSupervision (laneOfZone z) s := rfl

theorem changeSupervision_on (z : ZoneId) (s : State) :
    changeSupervision z false true s = modRecord (laneOfZone z) (fun r => { r with whole := false }) s := rfl

theorem supervisionWritten_same (b : Bool) (r : LaneRecord) : supervisionWritten b b r = r := by cases b <;> rfl

theorem modRecord_congr {l : LaneId} {f g : LaneRecord → LaneRecord} {s : State}
    (h : f (recordOf s l) = g (recordOf s l)) : modRecord l f s = modRecord l g s :=
  congrArg (fun v => modLines (fun x => { x with lanes := v }) s)
    (tmod_congr (congrArg (fun r => ({ (tget s.lines.lanes l) with record := r } : Lane)) h))

theorem modRecord_modRecord (l : LaneId) (f g : LaneRecord → LaneRecord) (s : State) :
    modRecord l g (modRecord l f s) = modRecord l (fun r => g (f r)) s :=
  congrArg (fun v => modLines (fun x => { x with lanes := v }) s) (tmod_tmod s.lines.lanes l
    (fun x => { x with record := f x.record }) (fun x => { x with record := g x.record }))

theorem modRecord_id {l : LaneId} {f : LaneRecord → LaneRecord} {s : State} (h : f (recordOf s l) = recordOf s l) :
    modRecord l f s = s := by
  have same : tmod s.lines.lanes l (fun x => { x with record := f x.record }) = s.lines.lanes := by
    refine table_ext fun k => ?_
    rw [tget_tmod]
    split
    · next e =>
      subst e
      exact congrArg (fun r => ({ (tget s.lines.lanes l) with record := r } : Lane)) h
    · rfl
  exact congrArg (fun v => ({ s with lines := { s.lines with lanes := v } } : State)) same

/-- The written lane: its record, and of the lines nothing else. -/
theorem changeSupervision_lines (z : ZoneId) (old new : Bool) (s : State) : (changeSupervision z old new s).lines =
    (modRecord (laneOfZone z) (supervisionWritten old new) s).lines := by
  by_cases same : old = new
  · subst same
    rw [changeSupervision_same, modRecord_id (supervisionWritten_same old _)]
  · cases old <;> cases new <;> first | exact absurd rfl same | skip
    · rfl
    · rw [changeSupervision_off, endSupervision]
      by_cases h : (recordOf s (laneOfZone z)).state = none
      · rw [setLineState, if_pos h]
        refine congrArg State.lines (modRecord_congr ?_)
        rw [supervisionWritten, unsupervisedRecord, ← h]
        rfl
      · have written := modRecord_modRecord (laneOfZone z) (fun r => { r with state := none }) (fun r =>
          { clearAccumulators r with overtemp := false, lastVerdict := none, whole := false }) s
        rw [setLineState_of_change h, modRecord_lines, count_lines, report_lines]
        exact congrArg State.lines written

/-- A lane that is no more supervised, and was not UNKNOWN, is reported and counted. -/
theorem changeSupervision_reported {z : ZoneId} {s : State} (h : (recordOf s (laneOfZone z)).state ≠ none) :
    (changeSupervision z true false s).reports = (report .lineState z.val 0 s).reports ∧
      counterOf (changeSupervision z true false s) (.lineChanges (laneOfZone z)) =
        saturatingSucc (counterOf s (.lineChanges (laneOfZone z))) := by
  rw [changeSupervision_off, endSupervision, setLineState_of_change h]
  refine ⟨report_reports_congr _ _ _ rfl rfl rfl, (counterOf_count _ _).trans (congrArg saturatingSucc ?_)⟩
  refine counterOf_of_countsBut (s := s) (report_countsBut _ _ _ _) ?_
  have low : (laneOfZone z).val < 28 := (laneOfZone z).isLt
  simp only [List.mem_cons, List.not_mem_nil, or_false, forall_eq_or_imp, forall_eq, counterIx, counterRow, ne_eq,
    Fin.mk.injEq]
  omega

theorem changeSupervision_silent {z : ZoneId} {old new : Bool} {s : State}
    (h : old = true → new = false → (recordOf s (laneOfZone z)).state = none) :
    keepsBut [.lines] s (changeSupervision z old new s) := by
  by_cases same : old = new
  · rw [same, changeSupervision_same]
    exact keepsBut_refl _ s
  · cases old <;> cases new <;> first | exact absurd rfl same | skip
    · rw [changeSupervision_on]
      exact modRecord_keeps _ _ s
    · rw [changeSupervision_off, endSupervision, setLineState, if_pos (h rfl rfl)]
      exact modRecord_keeps _ _ s

/-- The counters of a change of line states. -/
def lineCounts : List Counter := (everyFin 28).map .lineChanges ++ reportCounts

theorem changeSupervision_keeps (z : ZoneId) (old new : Bool) (s : State) :
    keepsBut [.lines, .reports, .counters] s (changeSupervision z old new s) := by
  have set : keepsBut [.lines, .reports, .counters] s (setLineState (laneOfZone z) none s) :=
    keepsBut_ite (keepsBut_refl _ s) (keepsBut_trans (keepsBut_mono (by simp) (modRecord_keeps _ _ s)) (keepsBut_trans
      (keepsBut_mono (by simp) (report_keeps _ _ _ _)) (keepsBut_mono (by simp) (count_keeps _ _))))
  exact keepsBut_ite (keepsBut_trans set (keepsBut_mono (by simp) (modRecord_keeps _ _ _)))
    (keepsBut_ite (keepsBut_mono (by simp) (modRecord_keeps _ _ s)) (keepsBut_refl _ s))

theorem changeSupervision_notes (z : ZoneId) (old new : Bool) (s : State) :
    Notes .lineState lineCounts 1 s (changeSupervision z old new s) := by
  by_cases h : old = true ∧ new = false ∧ (recordOf s (laneOfZone z)).state ≠ none
  · obtain ⟨rfl, rfl, h⟩ := h
    rw [changeSupervision_off, endSupervision, setLineState_of_change h]
    obtain ⟨length, stays, counts⟩ := notes_report (kind := .lineState) (laneOfZone z).val (lineStateCode none)
      (modRecord (laneOfZone z) (fun r => { r with state := none }) s)
    exact ⟨length, stays, countsBut_trans (countsBut_mono (s := s) (fun c hc => List.mem_append_right _ hc) counts)
      (count_countsBut (by simp [lineCounts]) _)⟩
  · have silent := changeSupervision_silent (z := z) (old := old) (new := new) (s := s)
      (fun ho hn => by by_contra k; exact h ⟨ho, hn, k⟩)
    exact notes_of_reports 1 (silent .reports (by simp)) (countsBut_of_counters (silent .counters (by simp)))

/-! ### The tables installed (R35, R57, R182, R198) -/

/-- One zone record as the load leaves it, with the supervision of its line. -/
def installZone (x : ImageTables) (z : ZoneId) (s : State) : State :=
  changeSupervision z (tget s.mix.zones z).cfg.supervision (clampZone (tget x.zones z)).supervision
    (modZone z (fun r => { r with cfg := clampZone (tget x.zones z) }) s)

theorem installZones_eq (x : ImageTables) (s : State) : installZones x s = forEach (everyFin 24) (installZone x) s := by
  unfold installZones
  congr 1

theorem modZone_keeps (z : ZoneId) (f : Zone → Zone) (s : State) : keepsBut [.mix] s (modZone z f s) := keepsBut_modMix _ s

theorem installZone_keeps (x : ImageTables) (z : ZoneId) (s : State) :
    keepsBut [.mix, .lines, .reports, .counters] s (installZone x z s) :=
  keepsBut_trans (keepsBut_mono (by simp) (modZone_keeps z _ s))
    (keepsBut_mono (by simp) (changeSupervision_keeps z _ _ _))

theorem installZone_notes (x : ImageTables) (z : ZoneId) (s : State) :
    Notes .lineState lineCounts 1 s (installZone x z s) := by
  obtain ⟨length, stays, counts⟩ := changeSupervision_notes z (tget s.mix.zones z).cfg.supervision
    (clampZone (tget x.zones z)).supervision (modZone z (fun r => { r with cfg := clampZone (tget x.zones z) }) s)
  exact ⟨length, stays, counts⟩

theorem laneOfZone_injective {y z : ZoneId} (h : laneOfZone y = laneOfZone z) : y = z := Fin.ext (Fin.mk.inj h)

/-- A zone's record with that of its primary lane. -/
def zoneAndLane (s : State) (z : ZoneId) : Zone × LaneRecord := (tget s.mix.zones z, recordOf s (laneOfZone z))

theorem zoneAndLane_zone (s : State) (z : ZoneId) : (zoneAndLane s z).1 = tget s.mix.zones z := rfl

theorem zoneAndLane_record (s : State) (z : ZoneId) : (zoneAndLane s z).2 = recordOf s (laneOfZone z) := rfl

/-- What the load makes of a zone's record and of its primary lane's. -/
def zoneLoaded (x : ImageTables) (z : ZoneId) (r : Zone × LaneRecord) : Zone × LaneRecord :=
  ({ r.1 with cfg := clampZone (tget x.zones z) },
    supervisionWritten r.1.cfg.supervision (tget x.zones z).supervision r.2)

theorem installZone_own (x : ImageTables) (z y : ZoneId) (s : State) : zoneAndLane (installZone x z s) y =
    if z = y then zoneLoaded x y (zoneAndLane s y) else zoneAndLane s y := by
  have mix : (installZone x z s).mix = (modZone z (fun r => { r with cfg := clampZone (tget x.zones z) }) s).mix :=
    changeSupervision_keeps z _ _ _ .mix (by simp)
  rw [zoneAndLane, mix, recordOf, installZone, changeSupervision_lines, ← recordOf, recordOf_modRecord]
  by_cases e : z = y
  · subst e
    simp [modZone]
    rfl
  · have ne : laneOfZone z ≠ laneOfZone y := fun h => e (laneOfZone_injective h)
    simp [modZone, e, ne, tget_tmod_ne]
    rfl

theorem installZones_own (x : ImageTables) (z : ZoneId) (s : State) :
    zoneAndLane (installZones x s) z = zoneLoaded x z (zoneAndLane s z) := by
  obtain ⟨-, own, -⟩ := get_forEach_own (get := zoneAndLane) (f := installZone x) (I := fun _ => True) (s := s)
    (fun y u _ same => ⟨trivial, by rw [installZone_own, installZone_own, if_pos rfl, if_pos rfl, same],
      fun k ne => by rw [installZone_own, if_neg ne]⟩) (List.nodup_finRange 24) (t := s) trivial (fun _ _ => rfl)
  rw [installZones_eq, own z (List.mem_finRange z), installZone_own, if_pos rfl]

theorem installZones_keeps (x : ImageTables) (s : State) :
    keepsBut [.mix, .lines, .reports, .counters] s (installZones x s) := by
  rw [installZones_eq]
  exact keepsBut_forEach (installZone_keeps x) _ s

theorem installZones_notes (x : ImageTables) (s : State) : Notes .lineState lineCounts 24 s (installZones x s) := by
  rw [installZones_eq]
  have := notes_forEach (installZone_notes x) (everyFin 24) s
  rwa [List.length_finRange] at this

/-- Beside the zones the load writes the slots, the taper, the banks, the groups, the chime, the stations, the key maps, the
programs, the patterns and the NODE record, and nothing else. -/
theorem installTables_parts (x : ImageTables) (s : State) :
    keepsBut [.slots, .mix, .scene, .claims, .intercom, .alarm, .control] (installZones x s) (installTables x s) ∧
    (installTables x s).slots = loadSlots x (installZones x s).slots ∧
    (installTables x s).mix = { (installZones x s).mix with taper := x.taper } ∧
    (installTables x s).scene = { (installZones x s).scene with active := x.bank, staged := x.bank } ∧
    (installTables x s).claims = { (installZones x s).claims with
      groups := tmap (fun _ e => clampGroup e) x.groups, chimeTable := tmap (fun _ e => clampChime e) x.chime } ∧
    (installTables x s).intercom = { (installZones x s).intercom with
      stations := tmap (fun st y => { y with cfg := clampStation (tget x.stations st) }) (installZones x s).intercom.stations
      keymap := tmap (fun _ r => tmap (fun _ k => clampKey k) r) x.keys } ∧
    (installTables x s).alarm = { (installZones x s).alarm with
      programs := tmap (fun _ e => clampProgram e) x.programs, patterns := tmap (fun _ e => clampPattern e) x.patterns } ∧
    (installTables x s).control = { (installZones x s).control with node := clampNode x.node } := by
  unfold installTables
  generalize installZones x s = u
  exact ⟨fun p hp => by cases p <;> first | (simp at hp; done) | simp [agree], rfl, rfl, rfl, rfl, rfl, rfl, rfl⟩

/-- The tables that the load installs, read one by one. -/
theorem installed_of_parts {x : ImageTables} {s t : State} (node : t.control.node = clampNode x.node)
    (parts : keepsBut [.control, .lines, .counters, .clips, .ring, .peer, .reports, .boundary, .pending] (installTables x s) t) :
    installed x s t := by
  have kept := installZones_keeps x s
  obtain ⟨-, slots, mix, scene, claims, intercom, alarm, -⟩ := installTables_parts x s
  rw [kept .slots (by simp)] at slots
  rw [kept .intercom (by simp)] at intercom
  replace slots : t.slots = _ := (parts .slots (by simp)).trans slots
  replace mix : t.mix = _ := (parts .mix (by simp)).trans mix
  replace scene : t.scene = _ := (parts .scene (by simp)).trans scene
  replace claims : t.claims = _ := (parts .claims (by simp)).trans claims
  replace intercom : t.intercom = _ := (parts .intercom (by simp)).trans intercom
  replace alarm : t.alarm = _ := (parts .alarm (by simp)).trans alarm
  refine ⟨node, by rw [mix], by rw [scene], by rw [scene], fun i low => ?_, fun i high => ?_,
    fun z => ?_, fun g => ?_, fun i => ?_, fun st => ?_, fun st k => ?_, fun p => ?_, fun p => ?_⟩
  · rw [slots, loadSlots, tget_tmap, dif_pos low]
  · rw [slots, loadSlots, tget_tmap, dif_neg (by omega)]
  · have zone : tget (installZones x s).mix.zones z = { tget s.mix.zones z with cfg := clampZone (tget x.zones z) } := by
      rw [← zoneAndLane_zone, installZones_own, zoneLoaded, zoneAndLane_zone]
    have zones : t.mix.zones = (installZones x s).mix.zones := by rw [mix]
    rw [zones, zone]
    exact ⟨rfl, rfl⟩
  · rw [claims, tget_tmap]
  · rw [claims, tget_tmap]
  · rw [stationOf, intercom, tget_tmap, stationOf]
  · rw [intercom, tget_tmap, tget_tmap]
  · rw [programOf, alarm, tget_tmap]
  · rw [alarm, tget_tmap]

/-! ### The end of the load (R186, R188, R198) -/

/-- The lines at the end of a load: at that of a reload every supervised lane begins its window at once (R188). -/
def loadedLines (reload : Bool) (s : State) : Lines :=
  { (if reload then startWindows s else s).lines with freshStart := true }

theorem countsOne_count_of_counters (c : Counter) {u v : State} (h : v.counters = u.counters) :
    countsOne c u (count c v) :=
  countsOne_of_counters (by rw [count, count, modCounters_counters, modCounters_counters, h])

theorem endLoad_parts (reload : Bool) (x : ImageTables) (s : State) :
    keepsBut [.lines, .control, .counters] (installTables x s) (endLoad reload x s) ∧
    (endLoad reload x s).lines = loadedLines reload (installTables x s) ∧
    (endLoad reload x s).control = { (installTables x s).control with mode := .run, timer := 0, load := none } ∧
    countsOne .imageLoads (installTables x s) (endLoad reload x s) := by
  unfold endLoad
  generalize installTables x s = u
  cases reload
  · exact ⟨fun p hp => by cases p <;> first | (simp at hp; done) | simp [agree, count], rfl, rfl,
      countsOne_count_of_counters _ (by simp)⟩
  · exact ⟨fun p hp => by cases p <;> first | (simp at hp; done) | simp [agree, count, startWindows], rfl, rfl,
      countsOne_count_of_counters _ (by simp [startWindows])⟩

/-- A load has ended: its tables are installed, and nothing else changes of the ring, the claims and the clip store. -/
structure LoadEnded (reload : Bool) (x : ImageTables) (s t : State) : Prop where
  installed : installed x s t
  control : t.control.mode = .run ∧ t.control.timer = 0 ∧ t.control.load = none
  lines : t.lines = loadedLines reload (installTables x s)
  zones : t.mix.zones = (installTables x s).mix.zones
  loads : counterOf t .imageLoads = saturatingSucc (counterOf s .imageLoads)
  table : t.claims.table = s.claims.table
  keeps : keepsBut [.slots, .mix, .scene, .claims, .intercom, .alarm, .lines, .control, .reports, .counters] s t
  notes : Notes .lineState (.imageLoads :: lineCounts) 24 s t

theorem endLoad_ended (reload : Bool) (x : ImageTables) (s : State) : LoadEnded reload x s (endLoad reload x s) := by
  obtain ⟨kept, lines, control, counted, counts⟩ := endLoad_parts reload x s
  obtain ⟨tables, -, -, -, claims, -, -, node⟩ := installTables_parts x s
  have zones := installZones_keeps x s
  obtain ⟨length, stays, lineChanged⟩ := installZones_notes x s
  have counters : (installTables x s).counters = (installZones x s).counters := tables .counters (by simp)
  have reports : (endLoad reload x s).reports = (installZones x s).reports :=
    (kept .reports (by simp)).trans (tables .reports (by simp))
  refine ⟨installed_of_parts (by rw [control, node]) (keepsBut_mono (by simp) kept), by rw [control]; exact ⟨rfl, rfl, rfl⟩,
    lines, congrArg Mix.zones (kept .mix (by simp)), ?_, ?_, ?_, ?_⟩
  · rw [counted]
    refine congrArg saturatingSucc (counterOf_of_countsBut (countsBut_trans lineChanged (countsBut_of_counters counters)) ?_)
    decide
  · have before : (installZones x s).claims = s.claims := zones .claims (by simp)
    have after : (endLoad reload x s).claims = (installTables x s).claims := kept .claims (by simp)
    rw [after, claims, before]
  · exact keepsBut_trans (keepsBut_mono (by simp) zones) (keepsBut_trans (keepsBut_mono (by simp) tables)
      (keepsBut_mono (by simp) kept))
  · refine ⟨by rw [reports]; exact length, by rw [reports]; exact stays, ?_⟩
    exact countsBut_trans (countsBut_mono (fun c hc => List.mem_cons_of_mem _ hc) lineChanged)
      (countsBut_trans (countsBut_of_counters counters) (countsBut_mono (by simp) counts))

end Sys2Proof.Machine
end

section
namespace Sys2Proof.Machine

/-! ### A read completes (R170) -/

/-- The state in which the data of a completed read is handed over: the port idle, the read counted. -/
def readTaken (s : State) : State := count .flashReads (modClips (fun c => { c with inFlight := none }) s)

theorem readTaken_keeps (s : State) : keepsBut [.clips, .counters] s (readTaken s) :=
  keepsBut_trans (keepsBut_mono (by simp) (keepsBut_modClips _ s)) (keepsBut_mono (by simp) (count_keeps _ _))

theorem readTaken_countsBut (s : State) : countsBut [.flashReads] s (readTaken s) :=
  count_countsBut (by simp) (modClips _ s)

theorem exec_flashReadComplete {r : ReadRequest} {s : State} (data : List Byte) (hq : quiet s)
    (h : s.clips.inFlight = some (.read r)) :
    exec (.flashReadComplete data) s = .next (arbitrateFlash (deliverRead r.reader data (readTaken s))) := by
  change execFlashReadComplete data s = _
  rw [execFlashReadComplete, settle_of_quiet hq]
  dsimp only
  rw [h]
  rfl

/-! ### The image judged (R198) -/

/-- The tables to install: those of a valid image, or the built-in defaults. -/
def judgedTables : Except Nat ImageTables → ImageTables
  | .error _ => builtIn
  | .ok x => x

/-- The report of an image that is not valid. -/
def imageReported : Except Nat ImageTables → State → State
  | .error v, s => report .imageInvalid 0 v s
  | .ok _, s => s

theorem imageReported_keeps (r : Except Nat ImageTables) (s : State) :
    keepsBut [.reports, .counters] s (imageReported r s) := by
  cases r
  · exact report_keeps _ _ _ s
  · exact keepsBut_refl _ s

theorem imageReported_notes (r : Except Nat ImageTables) (s : State) :
    Notes .imageInvalid reportCounts 1 s (imageReported r s) := by
  cases r
  · exact notes_report 0 _ s
  · exact notes_refl 1 s

theorem imageRead_eq (l : Load) (s : State) : imageRead l s =
    if l.withDirectory then
      requestRead (.directory 1) 9 (requestRead (.directory 0) 8
        (modControl (fun c => { c with load := some { l with tables := some (judgedTables (judgeImage l.image)) } })
          (imageReported (judgeImage l.image) s)))
    else endLoad true (judgedTables (judgeImage l.image)) (imageReported (judgeImage l.image) s) := by
  unfold imageRead
  cases judgeImage l.image <;> rfl

theorem imageSector_last {l : Load} {s : State} (data : List Byte) (h : s.control.load = some l) :
    imageSector 7 data s = imageRead { l with image := l.image ++ data } s := by
  rw [imageSector, h]
  rfl

/-- With nothing waiting at an idle port, the two sectors of the directory are read, the first at once (R198). -/
theorem directoryRequested_clips {s : State} (idle : s.clips.inFlight = none) (reads : s.clips.reads = [])
    (writes : s.clips.writes = []) :
    (arbitrateFlash (requestRead (.directory 1) 9 (requestRead (.directory 0) 8 s))).clips = { s.clips with
      inFlight := some (.read ⟨.directory 0, 8, s.clips.stamp⟩)
      reads := [⟨.directory 1, 9, s.clips.stamp + 1⟩]
      stamp := s.clips.stamp + 2 } := by
  have first : requestRead (.directory 0) 8 s = modClips (fun c => { c with
      inFlight := some (.read ⟨.directory 0, 8, s.clips.stamp⟩), reads := [], stamp := s.clips.stamp + 1 }) s := by
    simp [requestRead, arbitrateFlash, idle, reads, writes, chooseRead, readEligible, modClips]
  have busy : ∀ t : State, t.clips.inFlight.isSome = true → arbitrateFlash t = t := fun t h => by
    rw [arbitrateFlash, if_pos h]
  have second : requestRead (.directory 1) 9 (requestRead (.directory 0) 8 s) = modClips (fun c => { c with
      reads := c.reads ++ [⟨.directory 1, 9, c.stamp⟩], stamp := c.stamp + 1 }) (requestRead (.directory 0) 8 s) := by
    rw [requestRead, busy]
    rw [first]
    rfl
  rw [busy, second, first]
  · rfl
  · rw [second, first]
    rfl

/-! ### The directory loaded (R164) -/

theorem setClip_keeps (c : ClipId) (e : DirEntry) (s : State) :
    keepsBut [.clips, .reports, .counters] s (setClip c e s) :=
  keepsBut_trans (keepsBut_mono (by simp) (keepsBut_modClips _ s)) (keepsBut_mono (by simp) (report_keeps _ _ _ _))

/-- The counters of a directory loaded. -/
def directoryCounts : List Counter := .directoryRejected :: reportCounts

/-- What the load of the directory may change, and that the directory it leaves depends on the one it found alone. -/
theorem loadEntries_facts (l : List (ClipId × DirEntry)) (taken : List DirEntry) (s : State) :
    keepsBut [.clips, .reports, .counters] s (loadEntries l taken s) ∧ countsBut directoryCounts s (loadEntries l taken s) ∧
      ∀ t : State, t.clips.directory = s.clips.directory →
        (loadEntries l taken t).clips.directory = (loadEntries l taken s).clips.directory := by
  induction l generalizing taken s with
  | nil => exact ⟨keepsBut_refl _ s, countsBut_refl _ s, fun t h => h⟩
  | cons a l ih =>
    obtain ⟨c, e⟩ := a
    have after : ∀ (f : State → State) (more : List DirEntry), keepsBut [.clips, .reports, .counters] s (f s) →
        countsBut directoryCounts s (f s) →
        (∀ t : State, t.clips.directory = s.clips.directory → (f t).clips.directory = (f s).clips.directory) →
        keepsBut [.clips, .reports, .counters] s (loadEntries l more (f s)) ∧
          countsBut directoryCounts s (loadEntries l more (f s)) ∧
          ∀ t : State, t.clips.directory = s.clips.directory →
            (loadEntries l more (f t)).clips.directory = (loadEntries l more (f s)).clips.directory :=
      fun f more kept counts same =>
        have ⟨kept', counts', same'⟩ := ih more (f s)
        ⟨keepsBut_trans kept kept', countsBut_trans counts counts', fun t h => same' (f t) (same t h)⟩
    unfold loadEntries
    cases judgeEntry taken e with
    | asFound x =>
      exact after (modClips fun y => { y with directory := tset y.directory c x }) _
        (keepsBut_mono (by simp) (keepsBut_modClips _ s)) (countsBut_refl _ s)
        (fun t h => by rw [modClips_clips, modClips_clips, h])
    | bad x =>
      refine after (setClip c x) _ (setClip_keeps c x s)
        (countsBut_mono (s := s) (by simp [directoryCounts, reportCounts]) (report_countsBut _ _ _ _)) (fun t h => ?_)
      have set : ∀ u : State, (setClip c x u).clips.directory = tset u.clips.directory c x := fun u => by
        rw [setClip, report_keeps _ _ _ _ .clips (by simp)]
        rfl
      rw [set, set, h]
    | rejected =>
      exact after (fun u => count .directoryRejected
          (modClips (fun y => { y with directory := tset y.directory c emptyClip }) u)) _
        (keepsBut_trans (keepsBut_mono (by simp) (keepsBut_modClips _ s)) (keepsBut_mono (by simp) (count_keeps _ _)))
        (count_countsBut (by simp [directoryCounts]) (modClips _ s))
        (fun t h => congrArg (fun d => tset d c emptyClip) h)

theorem sectorEntries_facts (base : Nat) (l : List Byte) (s : State) :
    keepsBut [.counters] s (sectorEntries base l s).2 ∧ countsBut directoryCounts s (sectorEntries base l s).2 ∧
      ∀ t, (sectorEntries base l t).1 = (sectorEntries base l s).1 := by
  unfold sectorEntries
  cases directorySector l with
  | some es => exact ⟨keepsBut_refl _ s, countsBut_refl _ s, fun _ => rfl⟩
  | none => exact ⟨count_keeps _ s, count_countsBut (by simp [directoryCounts]) s, fun _ => rfl⟩

theorem loadDirectory_facts (a b : List Byte) (s : State) :
    keepsBut [.clips, .reports, .counters] s (loadDirectory a b s) ∧ countsBut directoryCounts s (loadDirectory a b s) ∧
      ∀ t : State, t.clips.directory = s.clips.directory →
        (loadDirectory a b t).clips.directory = (loadDirectory a b s).clips.directory := by
  unfold loadDirectory
  dsimp only
  have first := sectorEntries_facts 0 a
  have second := sectorEntries_facts 32 b
  obtain ⟨kept, counts, same⟩ := loadEntries_facts ((sectorEntries 0 a s).1 ++ (sectorEntries 32 b (sectorEntries 0 a s).2).1)
    [] (sectorEntries 32 b (sectorEntries 0 a s).2).2
  refine ⟨keepsBut_trans (keepsBut_mono (by simp) (first s).1) (keepsBut_trans (keepsBut_mono (by simp) (second _).1) kept),
    countsBut_trans (first s).2.1 (countsBut_trans (second _).2.1 counts), fun t h => ?_⟩
  rw [(first s).2.2 t, (second (sectorEntries 0 a s).2).2.2 (sectorEntries 0 a t).2]
  refine same _ ?_
  have directory : ∀ u : State, (sectorEntries 32 b (sectorEntries 0 a u).2).2.clips = u.clips := fun u =>
    ((second _).1 .clips (by simp)).trans ((first u).1 .clips (by simp))
  rw [directory, directory, h]

theorem dirSector_first {l : Load} {s : State} (data : List Byte) (h : s.control.load = some l) :
    dirSector 0 data s = modControl (fun c => { c with load := some { l with sector8 := data } }) s := by
  rw [dirSector, h]
  rfl

theorem dirSector_second {l : Load} {x : ImageTables} {s : State} (data : List Byte) (h : s.control.load = some l)
    (tables : l.tables = some x) : dirSector 1 data s = endLoad false x (loadDirectory l.sector8 data s) := by
  rw [dirSector, h]
  dsimp only
  rw [if_neg (by decide), tables, Option.getD_some]

/-! ### The end of the load -/

/-- The tables are installed seen from before what the load does beside, and after the flash port has gone on. -/
theorem installed_seen {x : ImageTables} {s s' t t' : State} (before : keepsBut [.clips, .reports, .counters] s s')
    (after : keepsBut [.clips] t t') (h : installed x s' t) : installed x s t' := by
  have slots : s'.slots = s.slots := before .slots (by simp)
  have mix : s'.mix = s.mix := before .mix (by simp)
  have intercom : s'.intercom = s.intercom := before .intercom (by simp)
  have slots' : t'.slots = t.slots := after .slots (by simp)
  have mix' : t'.mix = t.mix := after .mix (by simp)
  have scene' : t'.scene = t.scene := after .scene (by simp)
  have claims' : t'.claims = t.claims := after .claims (by simp)
  have intercom' : t'.intercom = t.intercom := after .intercom (by simp)
  have alarm' : t'.alarm = t.alarm := after .alarm (by simp)
  have control' : t'.control = t.control := after .control (by simp)
  unfold installed stationOf programOf at *
  rw [slots', mix', scene', claims', intercom', alarm', control', ← slots, ← mix, ← intercom]
  exact h

/-- What the end of a load leaves, seen from the command that ended it: s is the state that the command found, s' the one in
which the load ends. -/
structure LoadDone (reload : Bool) (x : ImageTables) (s s' t : State) : Prop where
  control : t.control.mode = .run ∧ t.control.timer = 0 ∧ t.control.load = none
  installed : installed x s t
  lines : t.lines = loadedLines reload (installTables x s')
  zones : t.mix.zones = (installTables x s').mix.zones
  loads : counterOf t .imageLoads = saturatingSucc (counterOf s .imageLoads)
  table : t.claims.table = s.claims.table
  ring : t.ring = s.ring
  directory : t.clips.directory = s'.clips.directory
  stays : ∀ r ∈ s'.reports.queue, r.kind ≠ .lineState → s'.reports.queue.length + 24 ≤ 32 → r ∈ t.reports.queue

theorem endLoad_done (reload : Bool) (x : ImageTables) {s s' : State} (before : keepsBut [.clips, .reports, .counters] s s')
    (counts : counterOf s' .imageLoads = counterOf s .imageLoads) :
    LoadDone reload x s s' (arbitrateFlash (endLoad reload x s')) := by
  have ended := endLoad_ended reload x s'
  have after := arbitrateFlash_keeps (endLoad reload x s')
  have control : (arbitrateFlash (endLoad reload x s')).control = (endLoad reload x s').control := after .control (by simp)
  have mix : (arbitrateFlash (endLoad reload x s')).mix = (endLoad reload x s').mix := after .mix (by simp)
  have claims : (arbitrateFlash (endLoad reload x s')).claims = (endLoad reload x s').claims := after .claims (by simp)
  have claims' : s'.claims = s.claims := before .claims (by simp)
  have counters : (arbitrateFlash (endLoad reload x s')).counters = (endLoad reload x s').counters :=
    after .counters (by simp)
  have clips : (endLoad reload x s').clips = s'.clips := ended.keeps .clips (by simp)
  refine ⟨by rw [control]; exact ended.control, installed_seen before after ended.installed,
    (after .lines (by simp)).trans ended.lines, by rw [mix, ended.zones], ?_, by rw [claims, ended.table, claims'],
    (after .ring (by simp)).trans ((ended.keeps .ring (by simp)).trans (before .ring (by simp))), ?_, ?_⟩
  · rw [counterOf, counters, ← counterOf, ended.loads, counts]
  · rw [(arbitrateFlash_clips _).2.1, clips]
  · have reports : (arbitrateFlash (endLoad reload x s')).reports = (endLoad reload x s').reports :=
      after .reports (by simp)
    rw [reports]
    exact ended.notes.stays

/-- At the end of a reload every lane begins its window, whole where it is supervised (R188). -/
theorem recordOf_reloaded {u t : State} (h : t.lines = loadedLines true u) (l : LaneId) :
    recordOf t l = { clearAccumulators (recordOf u l) with whole := supervised u.mix.zones l } := by
  rw [recordOf, h, loadedLines, if_pos rfl, startWindows, modLines_lines, tget_tmap, recordOf]

theorem clearAccumulators_whole (r : LaneRecord) (b : Bool) :
    { clearAccumulators { clearAccumulators r with whole := b } with whole := b } =
      ({ clearAccumulators r with whole := b } : LaneRecord) := rfl

theorem state_clearAccumulators (r : LaneRecord) (b : Bool) :
    ({ clearAccumulators r with whole := b } : LaneRecord).state = r.state := rfl

theorem windowCount_reloaded (u : State) : (loadedLines true u).windowCount = 0 := rfl

theorem freshStart_loaded (reload : Bool) (u : State) : (loadedLines reload u).freshStart = true := rfl

/-- A lane whose supervision the image takes off is UNKNOWN (R182). -/
theorem state_installTables {x : ImageTables} {s : State} {z : ZoneId} (old : (tget s.mix.zones z).cfg.supervision = true)
    (new : (tget x.zones z).supervision = false) : (recordOf (installTables x s) (laneOfZone z)).state = none := by
  have lines : (installTables x s).lines = (installZones x s).lines := (installTables_parts x s).1 .lines (by simp)
  rw [recordOf, lines, ← recordOf, ← zoneAndLane_record, installZones_own, zoneLoaded, zoneAndLane_zone, old, new]
  rfl

/-- The end of the image's read at a reload (R198). -/
theorem reload_ends {image : List Byte} {s : State} (fresh : s.reports.queue = []) (mode : s.control.mode = .loading) :
    LoadDone true (judgedTables (judgeImage image)) s (imageReported (judgeImage image) (readTaken s))
      (arbitrateFlash (endLoad true (judgedTables (judgeImage image))
        (imageReported (judgeImage image) (readTaken s)))) ∧
    ∀ v, judgeImage image = .error v → recorded .imageInvalid 0 v s (arbitrateFlash (endLoad true
      (judgedTables (judgeImage image)) (imageReported (judgeImage image) (readTaken s)))) := by
  have notes := imageReported_notes (judgeImage image) (readTaken s)
  have queue : (readTaken s).reports.queue = [] := fresh
  have done := endLoad_done true (judgedTables (judgeImage image)) (s := s)
    (s' := imageReported (judgeImage image) (readTaken s))
    (keepsBut_trans (keepsBut_mono (by simp) (readTaken_keeps s)) (keepsBut_mono (by simp) (imageReported_keeps _ _)))
    (counterOf_of_countsBut (countsBut_trans (countsBut_mono (m := .flashReads :: reportCounts) (by simp) (readTaken_countsBut s))
      (countsBut_mono (fun c hc => List.mem_cons_of_mem _ hc) notes.counts)) (by decide))
  refine ⟨done, fun v invalid => done.stays _ ?_ (by simp) ?_⟩
  · rw [invalid]
    exact recorded_report .imageInvalid 0 v (s := readTaken s)
      (by rw [show (readTaken s).control = s.control from rfl, mode]; simp)
  · have := notes.length
    rw [queue, List.length_nil] at this
    omega

/-- The end of the image's read at power-on: the tables wait, and the directory is read (R198). -/
theorem powerOn_goesOn {l : Load} {x : ImageTables} {u : State} (r : Except Nat ImageTables) {s : State}
    (h : u = arbitrateFlash (requestRead (.directory 1) 9 (requestRead (.directory 0) 8
      (modControl (fun c => { c with load := some { l with tables := some x } }) (imageReported r (readTaken s)))))) :
    u.control = { s.control with load := some { l with tables := some x } } ∧
    (s.clips.reads = [] → s.clips.writes = [] → u.clips = { s.clips with
      inFlight := some (.read ⟨.directory 0, 8, s.clips.stamp⟩)
      reads := [⟨.directory 1, 9, s.clips.stamp + 1⟩]
      stamp := s.clips.stamp + 2 }) ∧
    u.reports = (imageReported r (readTaken s)).reports ∧ keepsBut [.clips, .control, .reports, .counters] s u := by
  have reported := keepsBut_trans (keepsBut_mono (m := [.clips, .reports, .counters]) (by simp) (readTaken_keeps s))
    (keepsBut_mono (by simp) (imageReported_keeps r _))
  have clips : (imageReported r (readTaken s)).clips = (readTaken s).clips := imageReported_keeps r _ .clips (by simp)
  have control : (imageReported r (readTaken s)).control = s.control := reported .control (by simp)
  have requested : keepsBut [.clips] (modControl (fun c => { c with load := some { l with tables := some x } })
      (imageReported r (readTaken s))) u := by
    rw [h]
    exact keepsBut_trans (requestRead_keeps _ _ _) (keepsBut_trans (requestRead_keeps _ _ _) (arbitrateFlash_keeps _))
  refine ⟨?_, fun reads writes => ?_, requested .reports (by simp), keepsBut_trans (keepsBut_mono (by simp) reported)
    (keepsBut_trans (keepsBut_mono (by simp) (keepsBut_modControl _ _)) (keepsBut_mono (by simp) requested))⟩
  · rw [requested .control (by simp), modControl_control, control]
  · rw [h, directoryRequested_clips, modControl_clips, clips]
    · rfl
    · rw [modControl_clips, clips]
      rfl
    · rw [modControl_clips, clips]
      exact reads
    · rw [modControl_clips, clips]
      exact writes

/-- Settles O41, by the sector that has been read: the last of the image at a reload and at power-on, and each of the
directory. -/
theorem loadEnds : Obligations.LoadEnds := by
  intro data r l s hq mode flight load
  have ran := exec_flashReadComplete data hq flight
  have same : (readTaken s).control = s.control := rfl
  have load' : (readTaken s).control.load = some l := load
  refine ⟨fun reader fresh => ?_, fun reader => ?_, fun x reader tables => ?_⟩
  · have read : deliverRead r.reader data (readTaken s) = imageRead { l with image := l.image ++ data } (readTaken s) := by
      rw [reader]
      exact imageSector_last data load'
    rw [read, imageRead_eq] at ran
    dsimp only at ran
    have tables : ∀ y, judgeImage (l.image ++ data) = .ok y → judgedTables (judgeImage (l.image ++ data)) = y :=
      fun y valid => by rw [valid]; rfl
    have defaults : ∀ v, judgeImage (l.image ++ data) = .error v → judgedTables (judgeImage (l.image ++ data)) = builtIn :=
      fun v invalid => by rw [invalid]; rfl
    have mix : (imageReported (judgeImage (l.image ++ data)) (readTaken s)).mix = s.mix :=
      imageReported_keeps _ _ .mix (by simp)
    have clips : (imageReported (judgeImage (l.image ++ data)) (readTaken s)).clips = (readTaken s).clips :=
      imageReported_keeps _ _ .clips (by simp)
    by_cases powerOn : l.withDirectory = true
    · rw [if_pos powerOn] at ran
      obtain ⟨control, requested, reports, kept⟩ := powerOn_goesOn (l := { l with image := l.image ++ data })
        (x := judgedTables (judgeImage (l.image ++ data))) (judgeImage (l.image ++ data)) (s := s) rfl
      refine ⟨_, _, ran, tables, fun v invalid => ⟨defaults v invalid, ?_⟩, fun h => by simp [powerOn] at h,
        fun _ => ⟨control, requested, kept⟩⟩
      rw [recorded, reports, invalid]
      exact recorded_report .imageInvalid 0 v (s := readTaken s) (by rw [same, mode]; simp)
    · rw [if_neg powerOn] at ran
      obtain ⟨done, recorded⟩ := reload_ends (image := l.image ++ data) fresh mode
      obtain ⟨run, timer, noLoad⟩ := done.control
      refine ⟨_, _, ran, tables, fun v invalid => ⟨defaults v invalid, recorded v invalid⟩,
        fun _ => ⟨run, timer, noLoad, done.installed, fun lane => ?_, by rw [done.lines, windowCount_reloaded],
          fun z old new => ?_, done.loads, done.table, ?_, done.ring⟩, fun h => absurd h powerOn⟩
      · rw [recordOf_reloaded done.lines, isSupervised, done.zones, clearAccumulators_whole]
      · rw [recordOf_reloaded done.lines, state_clearAccumulators]
        exact state_installTables (by rw [mix]; exact old) new
      · rw [done.directory, clips]
        rfl
  · have read : deliverRead r.reader data (readTaken s) =
        modControl (fun c => { c with load := some { l with sector8 := data } }) (readTaken s) := by
      rw [reader]
      exact dirSector_first data load'
    rw [read] at ran
    have after := arbitrateFlash_keeps (modControl (fun c => { c with load := some { l with sector8 := data } }) (readTaken s))
    exact ⟨_, ran, after .control (by simp), keepsBut_trans (keepsBut_mono (by simp) (readTaken_keeps s))
      (keepsBut_trans (keepsBut_mono (by simp) (keepsBut_modControl _ _)) (keepsBut_mono (by simp) after))⟩
  · have read : deliverRead r.reader data (readTaken s) = endLoad false x (loadDirectory l.sector8 data (readTaken s)) := by
      rw [reader]
      exact dirSector_second data load' tables
    rw [read] at ran
    obtain ⟨kept, counts, same⟩ := loadDirectory_facts l.sector8 data (readTaken s)
    have loads : counterOf (loadDirectory l.sector8 data (readTaken s)) .imageLoads = counterOf s .imageLoads :=
      counterOf_of_countsBut (countsBut_trans (countsBut_mono (m := .flashReads :: directoryCounts) (by simp)
        (readTaken_countsBut s)) (countsBut_mono (fun c hc => List.mem_cons_of_mem _ hc) counts)) (by decide)
    have done := endLoad_done false x (s := s) (keepsBut_trans (keepsBut_mono (by simp) (readTaken_keeps s)) kept) loads
    obtain ⟨run, timer, noLoad⟩ := done.control
    refine ⟨_, ran, run, timer, noLoad, done.installed, ?_, by rw [done.lines, freshStart_loaded], done.loads, done.table,
      done.ring⟩
    rw [done.directory]
    exact (loadDirectory_facts l.sector8 data s).2.2 (readTaken s) rfl

end Sys2Proof.Machine
end

section
namespace Sys2Proof.Machine

/-! ### The answer of an operation, seen from before its effect (R190, R197) -/

/-- Two states from which the same answer makes the same REPLY: the ring, the mode and the frame in service agree. -/
structure SameReply (s t : State) : Prop where
  ring : t.ring = s.ring
  mode : t.control.mode = s.control.mode
  service : t.control.service = s.control.service

section
variable {s t : State} (h : SameReply s t)
include h

theorem finishFrame_sameReply (v : ControlService) : SameReply (finishFrame v s) (finishFrame v t) := by
  unfold finishFrame
  dsimp only
  split
  · exact ⟨h.ring, h.mode, rfl⟩
  · refine ⟨originate_ring_congr h.ring h.mode, ?_, ?_⟩
    · rw [originate_control, originate_control]
      exact h.mode
    · rw [originate_control, originate_control]
      rfl

theorem continueFrame_sameReply (v : ControlService) : SameReply (continueFrame v s) (continueFrame v t) := by
  unfold continueFrame
  split
  · exact finishFrame_sameReply h v
  · split
    · exact finishFrame_sameReply (s := count .operationsRefused s) (t := count .operationsRefused t)
        ⟨h.ring, h.mode, h.service⟩ _
    · exact ⟨h.ring, h.mode, rfl⟩

theorem operationIndex_sameReply : operationIndex t = operationIndex s := by
  rw [operationIndex, h.service, operationIndex]

theorem finishOperation_sameReply (owed : Bool) (code : ResultCode) (data : ResultData) :
    SameReply (finishOperation owed code data s) (finishOperation owed code data t) := by
  obtain ⟨controlS, ringS, -⟩ := answeredState_facts code data s
  obtain ⟨controlT, ringT, -⟩ := answeredState_facts code data t
  have recorded : SameReply (answeredState code data s) (answeredState code data t) :=
    ⟨by rw [ringT, ringS, h.ring], by rw [controlT, controlS]; exact h.mode, by rw [controlT, controlS]; exact h.service⟩
  have next : ∀ v, nextOperation owed code data t v = nextOperation owed code data s v := fun v => by
    rw [nextOperation, operationIndex_sameReply h, nextOperation]
  rw [finishOperation_eq, finishOperation_eq, h.service]
  cases s.control.service with
  | none => exact recorded
  | some v =>
    dsimp only
    rw [next]
    exact continueFrame_sameReply recorded _

end

/-- A refusal is carried by the REPLY whether or not the result is owed (R197). -/
theorem finishOperation_owed {owed owed' : Bool} {code : ResultCode} (data : ResultData) (s : State)
    (h : (owed || isRefusal code) = (owed' || isRefusal code)) :
    finishOperation owed code data s = finishOperation owed' code data s := by
  rw [finishOperation_eq, finishOperation_eq]
  simp only [nextOperation, h]

/-- An operation whose own effect has led from s to u has been answered in t. -/
structure Finished (code : ResultCode) (data : ResultData) (s u t : State) : Prop where
  answer : t.control.answer = ⟨operationIndex s, code, data⟩
  pointer : t.control.pointer = u.control.pointer
  node : t.control.node = u.control.node
  keeps : keepsBut answerParts u t
  counts : countsBut answerCounts u t
  kept : answerKept s t

/-- The answer as R197 has it, when the operation has left the ring and the control interpreter but for the pointer. -/
theorem finishOperation_finished {owed : Bool} {code : ResultCode} {data : ResultData} {s u : State}
    (ring : u.ring = s.ring) (control : u.control = { s.control with pointer := u.control.pointer })
    (h : (owed || isRefusal code) = (owes code data || isRefusal code)) :
    Finished code data s u (finishOperation owed code data u) := by
  have same : SameReply s u := ⟨ring, by rw [control], by rw [control]⟩
  have index := operationIndex_sameReply same
  rw [finishOperation_owed data u h]
  obtain ⟨kept, reply, alone, counts⟩ := finishOperation_answers (owes code data) code data u
  have after := finishOperation_sameReply same (owes code data) code data
  refine ⟨by rw [kept, index], by rw [kept], by rw [kept], finishOperation_keeps _ _ _ u, counts, ?_, ?_, ?_, ?_, ?_⟩
  · rw [controlKept, kept, control]
    exact ⟨rfl, rfl, rfl, rfl, rfl, rfl⟩
  · exact ringKept_of_congr ring same.mode same.service reply
  · rw [kept]
    exact after.ring
  · rw [show (finishOperation (owes code data) code data u).control.answer = ⟨operationIndex u, code, data⟩ by rw [kept]]
    exact after.service
  · intro none
    obtain ⟨r, c⟩ := alone (same.service.trans none)
    exact ⟨r.trans ring, c⟩

/-! ### WRITE, entry by entry (R194) -/

theorem exec_write {s : State} (h : ready s) (entries : List Entry) : exec (.write entries) s =
    .next (finishOperation false (writeAll entries ⟨0, .ok⟩ s).1.code
      (if (writeAll entries ⟨0, .ok⟩ s).1.code = .ok then .none else .taken (writeAll entries ⟨0, .ok⟩ s).1.taken)
      (writeAll entries ⟨0, .ok⟩ s).2) := by
  change execWrite entries s = _
  rw [execWrite, settle_of_quiet h.1, operation_of_ready _ h]

/-- The write of an entry at the pointer. -/
def writeHere (e : Entry) (s : State) : ResultCode × State :=
  writeEntry s.control.pointer.table s.control.pointer.row s.control.pointer.column e s

theorem writeAll_cons {e : Entry} {code : ResultCode} {s u : State} (h : writeHere e s = (code, u)) (more : List Entry)
    (w : Written) : writeAll (e :: more) w s =
      if code = .outOfRange then (notedWrite w code, u) else writeAll more (notedWrite w code) (advance u) := by
  rw [writeAll]
  change (if (writeHere e s).1 = .outOfRange then (notedWrite w (writeHere e s).1, (writeHere e s).2)
    else writeAll more (notedWrite w (writeHere e s).1) (advance (writeHere e s).2)) = _
  rw [h]

theorem advance_keeps (s : State) : keepsBut [.control] s (advance s) := keepsBut_modControl _ s

/-- What an answered operation leaves whose own effect ends with the pointer past its entry. -/
theorem Finished.leaving {code : ResultCode} {data : ResultData} {l : List Part} {s u t : State}
    (done : Finished code data s (advance u) t) (kept : keepsBut l s u) (control : .control ∉ l) :
    t.control.pointer = advancePointer s.control.pointer ∧ keepsBut answerParts u t ∧ keepsBut (l ++ answerParts) s t ∧
      countsBut answerCounts u t ∧ answerKept s t := by
  have sameControl : u.control = s.control := kept .control control
  have after : keepsBut answerParts u t :=
    keepsBut_trans (keepsBut_mono (by simp) (advance_keeps u)) done.keeps
  refine ⟨?_, after, keepsBut_trans (keepsBut_mono (by simp +contextual) kept) (keepsBut_mono (by simp +contextual) after),
    countsBut_trans (countsBut_refl _ u) done.counts, done.kept⟩
  rw [done.pointer, advance, modControl_control, sameControl]

/-- The data of the answer to a WRITE (R194). -/
def writtenData (code : ResultCode) (taken : Nat) : ResultData := if code = .ok then .none else .taken taken

/-- A WRITE of one entry that is taken, or refused for a reason other than its form: the pointer advances past it. -/
theorem exec_write_one {e : Entry} {code : ResultCode} {s u : State} (hs : ready s) (h : writeHere e s = (code, u))
    (formed : code ≠ .outOfRange) :
    exec (.write [e]) s = .next (finishOperation false code (writtenData code 0) (advance u)) := by
  have ran := writeAll_cons h [] ⟨0, .ok⟩
  rw [if_neg formed, writeAll] at ran
  rw [exec_write hs, ran]
  by_cases ok : code = .ok
  · subst ok
    rfl
  · have noted : notedWrite ⟨0, .ok⟩ code = ⟨0, code⟩ := by simp [notedWrite, ok]
    rw [noted]
    rfl

section
variable {e : Entry} {s u : State} (hs : ready s)
include hs

/-- One entry taken, by a change that leaves the ring and the control interpreter. -/
theorem write_taken (h : writeHere e s = (.ok, u)) (ring : u.ring = s.ring) (control : u.control = s.control) :
    ∃ t, exec (.write [e]) s = .next t ∧ Finished .ok .none s (advance u) t :=
  ⟨_, exec_write_one hs h (by decide), finishOperation_finished ring (by rw [advance, modControl_control, control]) rfl⟩

/-- One entry taken, as the statements say it. -/
theorem write_taken_leaving {l : List Part} (h : writeHere e s = (.ok, u)) (kept : keepsBut l s u)
    (ring : .ring ∉ l) (control : .control ∉ l) : ∃ t, exec (.write [e]) s = .next t ∧ answered .ok s t ∧
      t.control.pointer = advancePointer s.control.pointer ∧ keepsBut answerParts u t ∧ keepsBut (l ++ answerParts) s t ∧
      countsBut answerCounts u t ∧ answerKept s t := by
  obtain ⟨t, ran, done⟩ := write_taken hs h (kept .ring ring) (kept .control control)
  exact ⟨t, ran, done.answer, done.leaving kept control⟩

/-- One entry taken, by a change of one part of the state. -/
theorem write_part {p : Part} (h : writeHere e s = (.ok, u)) (kept : keepsBut [p] s u) (other : p ∉ answerParts) :
    ∃ t, exec (.write [e]) s = .next t ∧ answered .ok s t ∧ t.control.pointer = advancePointer s.control.pointer ∧
      agree u t p ∧ keepsBut (p :: answerParts) s t ∧ answerKept s t := by
  obtain ⟨t, ran, answer, pointer, after, whole, -, reply⟩ := write_taken_leaving hs h kept
    (fun m => other (by simp at m; simp [m])) (fun m => other (by simp at m; simp [m]))
  exact ⟨t, ran, answer, pointer, after p other, whole, reply⟩

/-- One entry refused for a reason other than its form. -/
theorem write_refused {code : ResultCode} (h : writeHere e s = (code, s)) (refusal : isRefusal code = true)
    (formed : code ≠ .outOfRange) : ∃ t, exec (.write [e]) s = .next t ∧
      t.control.answer = ⟨operationIndex s, code, .taken 0⟩ ∧ t.control.pointer = advancePointer s.control.pointer ∧
      keepsBut answerParts s t ∧ answerKept s t := by
  have data : writtenData code 0 = .taken 0 := if_neg fun ok => by simp [ok, isRefusal] at refusal
  have done := finishOperation_finished (owed := false) (code := code) (data := .taken 0) (s := s) (u := advance s) rfl rfl
    (by rw [refusal, Bool.or_true, Bool.or_true])
  refine ⟨_, by rw [exec_write_one hs h formed, data], done.answer, done.pointer, ?_, done.kept⟩
  exact keepsBut_trans (keepsBut_mono (by simp) (advance_keeps s)) done.keeps

/-- One malformed entry: the pointer stays (R194). -/
theorem write_malformed (h : writeHere e s = (.outOfRange, s)) : ∃ t, exec (.write [e]) s = .next t ∧
      t.control.answer = ⟨operationIndex s, .outOfRange, .taken 0⟩ ∧ t.control.pointer = s.control.pointer ∧
      keepsBut answerParts s t ∧ answerKept s t := by
  have ran := writeAll_cons h [] ⟨0, .ok⟩
  rw [if_pos rfl] at ran
  have done := finishOperation_finished (owed := false) (code := .outOfRange) (data := .taken 0) (s := s) (u := s) rfl rfl rfl
  exact ⟨_, by rw [exec_write hs, ran]; rfl, done.answer, done.pointer, done.keeps, done.kept⟩

end

/-! ### The write of an entry, table by table (R194) -/

theorem writeHere_of_writable {e : Entry} {s : State}
    (h : readOnlyAt s.control.pointer.table s.control.pointer.row = false) : writeHere e s =
      putEntry s.control.pointer.table s.control.pointer.row s.control.pointer.column e s := by
  rw [writeHere, writeEntry, if_neg (by rw [h]; decide)]

theorem writeHere_of_readOnly {e : Entry} {s : State}
    (h : readOnlyAt s.control.pointer.table s.control.pointer.row = true) : writeHere e s = (.readOnly, s) := if_pos h

/-- A row or column in range is its own place of the table. -/
theorem finUpTo_of_eq {k n : Nat} {i : Fin (k + 1)} (h : i.val = n) : finUpTo k n = i := by
  subst h
  exact Fin.ext (min_eq_left (Nat.lt_succ_iff.mp i.isLt))

theorem writable_of_table {s : State} {tb : TableName} (h : s.control.pointer.table = tb) (other : tb ≠ .source)
    (writable : readOnlyTable tb = false) : readOnlyAt s.control.pointer.table s.control.pointer.row = false := by
  rw [h, readOnlyAt, writable, beq_false_of_ne other]
  rfl

theorem writeHere_of_table {e : Entry} {s : State} {tb : TableName} (h : s.control.pointer.table = tb)
    (other : tb ≠ .source) (writable : readOnlyTable tb = false) :
    writeHere e s = putEntry tb s.control.pointer.row s.control.pointer.column e s := by
  rw [writeHere_of_writable (writable_of_table h other writable), h]

theorem writable_of_source {s : State} (h : s.control.pointer.table = .source) (row : s.control.pointer.row < 23) :
    readOnlyAt s.control.pointer.table s.control.pointer.row = false := by
  rw [h, readOnlyAt]
  simp [readOnlyTable, row]

theorem writeHere_source {e : SourceEntry} {i : SlotId} {s : State} (h : s.control.pointer.table = .source)
    (row : i.val = s.control.pointer.row) (low : i.val < 23) : writeHere (.source e) s = writeSource i e s := by
  rw [writeHere_of_writable (writable_of_source h (by omega)), h, ← finUpTo_of_eq row]
  rfl

end Sys2Proof.Machine
end

section
namespace Sys2Proof.Machine

/-! ### The SOURCE table (R24, R25, R26) -/

theorem putSource_inUse {i : SlotId} {mode : SlotMode} {b : Binding} {cls : SlotClass} {trim : Code} {s : State}
    (change : b ≠ (tget s.slots i).binding ∨ (tget s.slots i).mode ≠ some mode) (used : slotInUse s i = true) :
    putSource i mode b cls trim s = (.inUse, s) := if_pos ⟨change.imp Ne.symm id, used⟩

/-- The record that a write of a slot leaves (R24, R26). -/
def writtenSlot (mode : SlotMode) (b : Binding) (cls : SlotClass) (trim : Code) (x : Slot) : Slot :=
  let y := { x with mode := some mode, cls := cls, trim := trim }
  if x.binding = b then y else if b = .unbound then unboundSlot y else boundSlot b y

theorem putSource_taken {i : SlotId} {mode : SlotMode} {b : Binding} {cls : SlotClass} {trim : Code} {s : State}
    (free : slotInUse s i = false ∨ (b = (tget s.slots i).binding ∧ (tget s.slots i).mode = some mode)) :
    ∃ u, putSource i mode b cls trim s = (.ok, u) ∧ keepsBut [.slots] s u ∧
      tget u.slots i = writtenSlot mode b cls trim (tget s.slots i) ∧ ∀ j, j ≠ i → tget u.slots j = tget s.slots j := by
  have open' : ¬(((tget s.slots i).binding ≠ b ∨ (tget s.slots i).mode ≠ some mode) ∧ slotInUse s i = true) := by
    rcases free with free | ⟨rfl, same⟩
    · simp [free]
    · simp [same]
  have kept := modSlot_keeps i (fun y => { y with mode := some mode, cls := cls, trim := trim }) s
  unfold putSource
  dsimp only
  rw [if_neg open']
  by_cases same : (tget s.slots i).binding = b
  · rw [if_pos same]
    exact ⟨_, rfl, kept, by rw [tget_modSlot_self, writtenSlot, if_pos same], fun j ne => tget_modSlot_ne _ _ ne.symm⟩
  · rw [if_neg same]
    refine ⟨_, rfl, keepsBut_trans kept (rebind_keeps _ _ _), ?_, fun j ne => ?_⟩
    · rw [rebind, tget_modSlot_self, tget_modSlot_self, writtenSlot, if_neg same]
    · rw [rebind, tget_modSlot_ne _ _ ne.symm, tget_modSlot_ne _ _ ne.symm]

theorem write_source_taken {e : SourceEntry} {i : SlotId} {s : State} (hs : ready s)
    (table : s.control.pointer.table = .source) (row : i.val = s.control.pointer.row) (low : i.val < 23)
    (free : slotInUse s i = false ∨
      (writtenBinding e.mode e.binding = (tget s.slots i).binding ∧ (tget s.slots i).mode = some e.mode)) :
    ∃ t, exec (.write [.source e]) s = .next t ∧ answered .ok s t ∧
      t.control.pointer = advancePointer s.control.pointer ∧ (∀ j, j ≠ i → tget t.slots j = tget s.slots j) ∧
      tget t.slots i = writtenSlot e.mode (writtenBinding e.mode e.binding) (slotClass e.cls) e.trim (tget s.slots i) ∧
      keepsBut (.slots :: answerParts) s t ∧ answerKept s t := by
  obtain ⟨u, taken, kept, own, others⟩ := putSource_taken (cls := slotClass e.cls) (trim := e.trim) free
  obtain ⟨t, ran, answer, pointer, slots, whole, reply⟩ := write_part hs
    ((writeHere_source table row low).trans taken) kept (by decide)
  have same : t.slots = u.slots := slots
  exact ⟨t, ran, answer, pointer, fun j ne => by rw [same, others j ne], by rw [same, own], whole, reply⟩

/-! ### The ALARM-PROGRAM table (R143) -/

theorem alarmEntry_ne_none {s : State} {p : ProgramId} : alarmEntry s p ≠ none ↔ programPresent s p = true := by
  rw [alarmEntry, programPresent, ne_eq, List.find?_eq_none, List.any_eq_true]
  simp

theorem putProgram_present {p : ProgramId} {s : State} (e : ProgramEntry) (h : alarmEntry s p ≠ none) :
    putProgram p e s = (.inUse, s) := if_pos (alarmEntry_ne_none.mp h)

theorem putProgram_absent {p : ProgramId} {s : State} (e : ProgramEntry) (h : alarmEntry s p = none) : putProgram p e s =
    (.ok, modAlarm (fun a => { a with programs := tset a.programs p e }) s) :=
  if_neg fun k => alarmEntry_ne_none.mpr k h

theorem writeHere_program {e : ProgramEntry} {p : ProgramId} {s : State} (h : s.control.pointer.table = .alarmProgram)
    (row : p.val = s.control.pointer.row) : writeHere (.program e) s = putProgram p (clampProgram e) s := by
  rw [writeHere_of_table h (by decide) rfl, ← finUpTo_of_eq row]
  rfl

@[simp] theorem advancePointer_table (p : Pointer) : (advancePointer p).table = p.table := by
  unfold advancePointer
  split <;> split_ifs <;> rfl

/-- A program that is present is passed over, and the one after it is written (R143, R194). -/
theorem write_program_past {e f : ProgramEntry} {p q : ProgramId} {s : State} (hs : ready s)
    (table : s.control.pointer.table = .alarmProgram) (row : p.val = s.control.pointer.row)
    (present : alarmEntry s p ≠ none) (absent : alarmEntry s q = none)
    (next : (advancePointer s.control.pointer).row = q.val) : ∃ t, exec (.write [.program e, .program f]) s = .next t ∧
      t.control.answer = ⟨operationIndex s, .inUse, .taken 1⟩ ∧
      t.control.pointer = advancePointer (advancePointer s.control.pointer) ∧
      t.alarm = { s.alarm with programs := tset s.alarm.programs q (clampProgram f) } ∧
      keepsBut (.alarm :: answerParts) s t ∧ answerKept s t := by
  have first : writeHere (.program e) s = (.inUse, s) :=
    (writeHere_program table row).trans (putProgram_present _ present)
  have second : writeHere (.program f) (advance s) = (.ok, modAlarm (fun a =>
      { a with programs := tset a.programs q (clampProgram f) }) (advance s)) :=
    (writeHere_program (by simpa [advance] using table) next.symm).trans (putProgram_absent _ absent)
  have ran : writeAll [.program e, .program f] ⟨0, .ok⟩ s = (⟨1, .inUse⟩, advance (modAlarm (fun a =>
      { a with programs := tset a.programs q (clampProgram f) }) (advance s))) := by
    rw [writeAll_cons first, if_neg (by decide), writeAll_cons second, if_neg (by decide), writeAll]
    rfl
  have done := finishOperation_finished (owed := false) (code := .inUse) (data := .taken 1) (s := s)
    (u := advance (modAlarm (fun a => { a with programs := tset a.programs q (clampProgram f) }) (advance s))) rfl rfl rfl
  refine ⟨_, by rw [exec_write hs, ran]; rfl, done.answer, done.pointer, done.keeps .alarm (by simp), ?_, done.kept⟩
  exact keepsBut_trans (keepsBut_mono (by simp) (advance_keeps s)) (keepsBut_trans (keepsBut_mono (by simp)
    (keepsBut_modAlarm _ _)) (keepsBut_trans (keepsBut_mono (by simp) (advance_keeps _)) (keepsBut_mono (by simp) done.keeps)))

/-! ### The NODE record (R192) -/

theorem write_node {e : NodeEntry} {s : State} (hs : ready s) (table : s.control.pointer.table = .node) :
    ∃ t, exec (.write [.node e]) s = .next t ∧ answered .ok s t ∧
      t.control.pointer = advancePointer s.control.pointer ∧ t.control.node = clampNode e ∧ keepsBut answerParts s t ∧
      answerKept (modControl (fun c => { c with node := clampNode e }) s) t := by
  have here : writeHere (.node e) s = (.ok, modControl (fun c => { c with node := clampNode e }) s) := by
    rw [writeHere_of_table table (by decide) rfl]
    rfl
  have done := finishOperation_finished (owed := false) (code := .ok) (data := .none)
    (s := modControl (fun c => { c with node := clampNode e }) s)
    (u := advance (modControl (fun c => { c with node := clampNode e }) s)) rfl rfl rfl
  exact ⟨_, exec_write_one hs here (by decide), done.answer, done.pointer, done.node,
    keepsBut_trans (keepsBut_mono (by simp) (keepsBut_modControl _ s)) (keepsBut_trans (keepsBut_mono (by simp)
      (advance_keeps _)) done.keeps), done.kept⟩

/-! ### The TAPER table, entry after entry (R41, R193, R194) -/

/-- The pointer goes down one column of its window, with n rows left before its end. -/
structure Descends (p : Pointer) (n : Nat) : Prop where
  order : p.advance = .rowFirst
  last : p.lastColumn ≤ p.column
  first : p.firstColumn = p.column
  room : p.row + n ≤ p.lastRow + 1
  rows : p.lastRow ≤ 255

theorem advancePointer_descends {p : Pointer} {n : Nat} (h : Descends p (n + 1)) (more : 0 < n) :
    advancePointer p = { p with row := p.row + 1 } := by
  have row : p.row < p.lastRow := by have := h.room; omega
  unfold advancePointer
  rw [h.order]
  dsimp only
  rw [if_neg (not_lt.mpr h.last), if_pos row, h.first]

theorem descends_advance {p : Pointer} {n : Nat} (h : Descends p (n + 1)) (more : 0 < n) :
    Descends (advancePointer p) n := by
  rw [advancePointer_descends h more]
  exact ⟨h.order, h.last, h.first, by have := h.room; dsimp only; omega, h.rows⟩

/-- The taper with gains written from a row on. -/
def taperFrom (row : Nat) (gains : List Gain) (v : Vector Gain 256) : Vector Gain 256 :=
  tmap (fun c x => if row ≤ c.val then gains.getD (c.val - row) x else x) v

theorem taperFrom_nil (row : Nat) (v : Vector Gain 256) : taperFrom row [] v = v :=
  table_ext fun c => by simp [taperFrom]

theorem taperFrom_cons {row : Nat} {g : Gain} {gains : List Gain} {v : Vector Gain 256} {c : Code} (h : c.val = row) :
    taperFrom (row + 1) gains (tset v c g) = taperFrom row (g :: gains) v := by
  subst h
  refine table_ext fun d => ?_
  rw [taperFrom, taperFrom, tget_tmap, tget_tmap, tget_tset]
  by_cases e : c = d
  · subst e
    simp
  · have ne : c.val ≠ d.val := fun k => e (Fin.ext k)
    rw [if_neg e]
    by_cases low : c.val ≤ d.val
    · obtain ⟨k, hk⟩ : ∃ k, d.val - c.val = k + 1 := ⟨d.val - c.val - 1, by omega⟩
      have hk' : d.val - (c.val + 1) = k := by omega
      rw [if_pos (by omega), if_pos low, hk, hk', List.getD_cons_succ]
    · rw [if_neg (by omega), if_neg low]

/-- The state after gains have been written to the TAPER table, one after the other. -/
def gainsWritten (gains : List Gain) (s : State) : State :=
  modControl (fun c => { c with pointer := iterate advancePointer gains.length c.pointer })
    (modMix (fun m => { m with taper := taperFrom s.control.pointer.row gains m.taper }) s)

theorem writeHere_gain {g : Gain} {c : Code} {s : State} (h : s.control.pointer.table = .taper)
    (row : c.val = s.control.pointer.row) :
    writeHere (.gain g) s = (.ok, modMix (fun m => { m with taper := tset m.taper c g }) s) := by
  rw [writeHere_of_table h (by decide) rfl, ← finUpTo_of_eq row]
  rfl

theorem gainsWritten_nil (s : State) : gainsWritten [] s = s := by
  unfold gainsWritten
  rw [List.length_nil]
  simp only [taperFrom_nil]
  rfl

/-- One gain written, then those after it. -/
theorem gainsWritten_cons {g : Gain} {gains : List Gain} {c : Code} {s : State}
    (h : Descends s.control.pointer (gains.length + 1)) (row : c.val = s.control.pointer.row) :
    gainsWritten gains (advance (modMix (fun m => { m with taper := tset m.taper c g }) s)) = gainsWritten (g :: gains) s := by
  have head : gainsWritten (g :: gains) s =
      modControl (fun k => { k with pointer := iterate advancePointer gains.length (advancePointer k.pointer) })
        (modMix (fun m => { m with taper := taperFrom (s.control.pointer.row + 1) gains (tset m.taper c g) }) s) := by
    simp only [taperFrom_cons row]
    rfl
  rw [head]
  cases gains with
  | nil =>
    rw [gainsWritten_nil]
    simp only [taperFrom_nil]
    rfl
  | cons k l =>
    unfold gainsWritten
    simp only [advance, modControl_control, modMix_control]
    rw [advancePointer_descends h (by simp)]
    generalize taperFrom (s.control.pointer.row + 1) (k :: l) = later
    generalize tset s.mix.taper c g = written
    rfl

theorem writeAll_gains {gains : List Gain} {s : State} (table : s.control.pointer.table = .taper)
    (h : Descends s.control.pointer gains.length) (more : List Entry) (n : Nat) :
    writeAll (gains.map .gain ++ more) ⟨n, .ok⟩ s = writeAll more ⟨n + gains.length, .ok⟩ (gainsWritten gains s) := by
  induction gains generalizing s n with
  | nil => rw [gainsWritten_nil]; rfl
  | cons g gains ih =>
    have low : s.control.pointer.row < 256 := by
      have := h.room
      have := h.rows
      rw [List.length_cons] at *
      omega
    obtain ⟨c, row⟩ : ∃ c : Code, c.val = s.control.pointer.row := ⟨⟨_, low⟩, rfl⟩
    rw [List.map_cons, List.cons_append, writeAll_cons (writeHere_gain table row), if_neg (by decide),
      show notedWrite ⟨n, .ok⟩ .ok = ⟨n + 1, .ok⟩ from rfl]
    cases gains with
    | nil => rw [← gainsWritten_cons h row, gainsWritten_nil]; rfl
    | cons k l =>
      rw [ih (by simpa [advance] using table) (descends_advance h (by simp)), gainsWritten_cons h row,
        List.length_cons (as := k :: l)]
      congr 2
      omega

end Sys2Proof.Machine
end

section
namespace Sys2Proof.Machine

/-- Gains written down the TAPER table, all of them taken. -/
theorem gainsWritten_keeps (gains : List Gain) (s : State) : keepsBut [.mix, .control] s (gainsWritten gains s) :=
  keepsBut_trans (keepsBut_mono (by simp) (keepsBut_modMix _ s)) (keepsBut_mono (by simp) (keepsBut_modControl _ _))

theorem gainsWritten_pointer (gains : List Gain) (s : State) :
    (gainsWritten gains s).control.pointer = iterate advancePointer gains.length s.control.pointer := rfl

theorem gainsWritten_mix (gains : List Gain) (s : State) :
    (gainsWritten gains s).mix = { s.mix with taper := taperFrom s.control.pointer.row gains s.mix.taper } := rfl

theorem tget_taperFrom (row : Nat) (gains : List Gain) (v : Vector Gain 256) (c : Code) :
    tget (taperFrom row gains v) c = if row ≤ c.val then gains.getD (c.val - row) (tget v c) else tget v c :=
  tget_tmap ..

/-- What an answered WRITE leaves after gains down the TAPER table. -/
theorem gainsWritten_finished {code : ResultCode} {data : ResultData} {gains : List Gain} {s t : State}
    (h : Finished code data s (gainsWritten gains s) t) :
    t.control.pointer = iterate advancePointer gains.length s.control.pointer ∧
    (∀ c : Code, tget t.mix.taper c = if s.control.pointer.row ≤ c.val
      then gains.getD (c.val - s.control.pointer.row) (tget s.mix.taper c) else tget s.mix.taper c) ∧
    t.mix = { s.mix with taper := t.mix.taper } ∧ keepsBut (.mix :: answerParts) s t ∧ answerKept s t := by
  have mix : t.mix = (gainsWritten gains s).mix := h.keeps .mix (by simp)
  rw [gainsWritten_mix] at mix
  refine ⟨h.pointer, fun c => ?_, ?_, ?_, h.kept⟩
  · rw [mix]
    exact tget_taperFrom ..
  · rw [mix]
  · exact keepsBut_trans (keepsBut_mono (by simp) (gainsWritten_keeps gains s)) (keepsBut_mono (by simp) h.keeps)

theorem gainsWritten_control (gains : List Gain) (s : State) : (gainsWritten gains s).control =
    { s.control with pointer := (gainsWritten gains s).control.pointer } := rfl

theorem gainsWritten_ring (gains : List Gain) (s : State) : (gainsWritten gains s).ring = s.ring :=
  gainsWritten_keeps gains s .ring (by simp)

theorem write_gains {gains : List Gain} {s : State} (hs : ready s) (table : s.control.pointer.table = .taper)
    (h : Descends s.control.pointer gains.length) : ∃ t, exec (.write (gains.map .gain)) s = .next t ∧
      Finished .ok .none s (gainsWritten gains s) t := by
  have ran := writeAll_gains table h [] 0
  rw [List.append_nil, writeAll] at ran
  exact ⟨_, by rw [exec_write hs, ran]; rfl,
    finishOperation_finished (gainsWritten_ring gains s) (gainsWritten_control gains s) rfl⟩

/-- The gains before a malformed entry stay written (R194). -/
theorem write_gains_malformed {gains : List Gain} {e : Entry} {s : State} (hs : ready s)
    (table : s.control.pointer.table = .taper) (h : Descends s.control.pointer gains.length) (other : ∀ g, e ≠ .gain g)
    (more : List Entry) : ∃ t, exec (.write (gains.map .gain ++ e :: more)) s = .next t ∧
      Finished .outOfRange (.taken gains.length) s (gainsWritten gains s) t := by
  have table' : (gainsWritten gains s).control.pointer.table = .taper := by
    rw [gainsWritten_pointer]
    generalize gains.length = n
    revert table
    generalize s.control.pointer = p
    intro table
    induction n generalizing p with
    | zero => exact table
    | succ n ih => exact ih _ ((advancePointer_table p).trans table)
  have here : writeHere e (gainsWritten gains s) = (.outOfRange, gainsWritten gains s) := by
    rw [writeHere_of_table table' (by decide) rfl]
    cases e <;> first | exact absurd rfl (other _) | rfl
  have ran := writeAll_gains table h (e :: more) 0
  rw [writeAll_cons here, if_pos rfl, Nat.zero_add] at ran
  exact ⟨_, by rw [exec_write hs, ran]; rfl,
    finishOperation_finished (gainsWritten_ring gains s) (gainsWritten_control gains s) rfl⟩

/-! ### The tables that are a part's own (R85, R97, R125, R126, R143, R158) -/

section
variable {s : State} (hs : ready s)
include hs

theorem write_level (c : Code) (table : s.control.pointer.table = .matrix) :
    ∃ t, exec (.write [.level c]) s = .next t ∧ answered .ok s t ∧ t.control.pointer = advancePointer s.control.pointer ∧
      t.scene = { s.scene with
        staged := tmod s.scene.staged (finUpTo 23 s.control.pointer.row) fun r =>
          tset r (finUpTo 31 s.control.pointer.column) c } ∧
      keepsBut (.scene :: answerParts) s t ∧ answerKept s t := by
  have done := write_part (e := .level c) hs (writeHere_of_table table (by decide) rfl) (keepsBut_modScene _ s) (by decide)
  exact done

theorem write_group {e : GroupEntry} {g : GroupId} (table : s.control.pointer.table = .group)
    (row : g.val = s.control.pointer.row) (peers : e.peers.length ≤ 4) :
    ∃ t, exec (.write [.group e]) s = .next t ∧ answered .ok s t ∧ t.control.pointer = advancePointer s.control.pointer ∧
      t.claims = { s.claims with groups := tset s.claims.groups g ⟨e.zones, e.peers.map clampPeer⟩ } ∧
      keepsBut (.claims :: answerParts) s t ∧ answerKept s t := by
  have clamped : clampGroup e = ⟨e.zones, e.peers.map clampPeer⟩ := by rw [clampGroup, List.take_of_length_le peers]
  rw [← clamped, ← finUpTo_of_eq row]
  have done := write_part (e := .group e) hs ((writeHere_of_table table (by decide) rfl).trans
    (if_neg (by simpa [tooManyPeers] using peers))) (keepsBut_modClaims _ s) (by decide)
  exact done

theorem write_group_malformed {e : GroupEntry} (table : s.control.pointer.table = .group) (peers : 4 < e.peers.length) :
    ∃ t, exec (.write [.group e]) s = .next t ∧ t.control.answer = ⟨operationIndex s, .outOfRange, .taken 0⟩ ∧
      t.control.pointer = s.control.pointer ∧ keepsBut answerParts s t ∧ answerKept s t :=
  write_malformed hs ((writeHere_of_table table (by decide) rfl).trans (if_pos (by simpa [tooManyPeers] using peers)))

theorem write_chime (e : ChimeEntry) {i : Fin 4} (table : s.control.pointer.table = .chime)
    (row : i.val = s.control.pointer.row) :
    ∃ t, exec (.write [.chime e]) s = .next t ∧ answered .ok s t ∧ t.control.pointer = advancePointer s.control.pointer ∧
      t.claims = { s.claims with chimeTable := tset s.claims.chimeTable i (clampChime e) } ∧
      keepsBut (.claims :: answerParts) s t ∧ answerKept s t := by
  rw [← finUpTo_of_eq row]
  have done := write_part (e := .chime e) hs (writeHere_of_table table (by decide) rfl) (keepsBut_modClaims _ s) (by decide)
  exact done

theorem write_station (e : StationEntry) {st : StationId} (table : s.control.pointer.table = .station)
    (row : st.val = s.control.pointer.row) :
    ∃ t, exec (.write [.station e]) s = .next t ∧ answered .ok s t ∧ t.control.pointer = advancePointer s.control.pointer ∧
      stationOf t st = { stationOf s st with cfg := clampStation e } ∧ (∀ x, x ≠ st → stationOf t x = stationOf s x) ∧
      t.intercom = { s.intercom with stations := t.intercom.stations } ∧
      keepsBut (.intercom :: answerParts) s t ∧ answerKept s t := by
  obtain ⟨t, ran, answer, pointer, written, whole, reply⟩ := write_part (e := .station e) hs
    (writeHere_of_table table (by decide) rfl) (keepsBut_modIntercom _ s) (by decide)
  rw [finUpTo_of_eq row] at written
  have own : t.intercom = { s.intercom with
      stations := tmod s.intercom.stations st fun x => { x with cfg := clampStation e } } := written
  refine ⟨t, ran, answer, pointer, ?_, fun x ne => ?_, by rw [own], whole, reply⟩
  · rw [stationOf, own]
    exact tget_tmod_self ..
  · rw [stationOf, own]
    exact tget_tmod_ne _ _ ne.symm

theorem write_key (f : KeyFn) {st : StationId} {k : KeyId} (table : s.control.pointer.table = .keymap)
    (row : st.val = s.control.pointer.row) (column : k.val = s.control.pointer.column) :
    ∃ t, exec (.write [.key f]) s = .next t ∧ answered .ok s t ∧ t.control.pointer = advancePointer s.control.pointer ∧
      t.intercom = { s.intercom with
        keymap := tset s.intercom.keymap st (tset (tget s.intercom.keymap st) k (clampKey f)) } ∧
      keepsBut (.intercom :: answerParts) s t ∧ answerKept s t := by
  rw [← finUpTo_of_eq row, ← finUpTo_of_eq column]
  have done := write_part (e := .key f) hs (writeHere_of_table table (by decide) rfl) (keepsBut_modIntercom _ s) (by decide)
  exact done

theorem write_program (e : ProgramEntry) {p : ProgramId} (table : s.control.pointer.table = .alarmProgram)
    (row : p.val = s.control.pointer.row) (absent : alarmEntry s p = none) :
    ∃ t, exec (.write [.program e]) s = .next t ∧ answered .ok s t ∧
      t.control.pointer = advancePointer s.control.pointer ∧
      t.alarm = { s.alarm with programs := tset s.alarm.programs p (clampProgram e) } ∧
      keepsBut (.alarm :: answerParts) s t ∧ answerKept s t :=
  write_part hs ((writeHere_program table row).trans (putProgram_absent _ absent)) (keepsBut_modAlarm _ s) (by decide)

theorem write_pattern (e : PatternEntry) {p : PatternId} (table : s.control.pointer.table = .pattern)
    (row : p.val = s.control.pointer.row) :
    ∃ t, exec (.write [.pattern e]) s = .next t ∧ answered .ok s t ∧
      t.control.pointer = advancePointer s.control.pointer ∧
      t.alarm = { s.alarm with patterns := tset s.alarm.patterns p (clampPattern e) } ∧
      keepsBut (.alarm :: answerParts) s t ∧ answerKept s t := by
  rw [← finUpTo_of_eq row]
  have done := write_part (e := .pattern e) hs (writeHere_of_table table (by decide) rfl) (keepsBut_modAlarm _ s) (by decide)
  exact done

/-- An entry of another form than the MATRIX table's. -/
theorem write_matrix_malformed {e : Entry} (table : s.control.pointer.table = .matrix) (other : ∀ c, e ≠ .level c) :
    ∃ t, exec (.write [e]) s = .next t ∧ t.control.answer = ⟨operationIndex s, .outOfRange, .taken 0⟩ ∧
      t.control.pointer = s.control.pointer ∧ keepsBut answerParts s t ∧ answerKept s t := by
  refine write_malformed hs ((writeHere_of_table table (by decide) rfl).trans ?_)
  cases e <;> first | exact absurd rfl (other _) | rfl

end

end Sys2Proof.Machine
end

section
namespace Sys2Proof.Machine

/-! ### A management write of a zone record (R37, R39, R68, R182) -/

/-- A zone's record as written, with its master fade cancelled and its line's supervision changed, before the effects of a
change of its enable. -/
def zoneRecorded (z : ZoneId) (master : Bool) (e : ZoneEntry) (s : State) : State :=
  changeSupervision z (tget s.mix.zones z).cfg.supervision e.supervision
    (modZone z (fun r => { r with cfg := e }) (if master then cancelMaster z s else s))

theorem putZone_eq (z : ZoneId) (master : Bool) (e : ZoneEntry) (s : State) : putZone z master e s =
    changeEnabled z (tget s.mix.zones z).cfg.enabled e.enabled (zoneRecorded z master e s) := rfl

theorem changeEnabled_same (z : ZoneId) (b : Bool) (s : State) : changeEnabled z b b s = s := by cases b <;> rfl

theorem cancelMaster_of_none {z : ZoneId} {s : State} (h : fadeOn s (.master z) = none) : cancelMaster z s = s := by
  rw [cancelMaster, h]
  rfl

theorem cancelMaster_of_some {z : ZoneId} {f : Fade} {s : State} (h : fadeOn s (.master z) = some f) :
    cancelMaster z s = cancelFade (.master z) s := by
  rw [cancelMaster, h]
  rfl

theorem cancelFade_keeps (g : FadeTarget) (s : State) : keepsBut [.scene, .reports, .counters] s (cancelFade g s) :=
  keepsBut_trans (keepsBut_mono (by simp) (keepsBut_modScene _ s)) (keepsBut_trans (keepsBut_mono (by simp)
    (report_keeps _ _ _ _)) (keepsBut_mono (by simp) (count_keeps _ _)))

theorem cancelMaster_keeps (z : ZoneId) (s : State) : keepsBut [.scene, .reports, .counters] s (cancelMaster z s) :=
  keepsBut_ite (cancelFade_keeps _ s) (keepsBut_refl _ s)

theorem cancelFade_scene (g : FadeTarget) (s : State) : (cancelFade g s).scene =
    { s.scene with fades := s.scene.fades.filter fun x => x.target ≠ g } := by
  rw [cancelFade, count_keeps _ _ .scene (by simp), report_keeps _ _ _ _ .scene (by simp), dropFade, modScene_scene]
  congr 1
  exact List.filter_congr fun x _ => Bool.eq_iff_iff.mpr (by simp)

theorem cancelFade_reports (g : FadeTarget) (s : State) :
    reportedOnce .fadeCancelled (fadeSubject g) (targetCode s g).val s (cancelFade g s) :=
  report_reports_congr _ _ _ rfl rfl rfl

theorem counterOf_cancelFade (g : FadeTarget) (s : State) :
    counterOf (cancelFade g s) .fadesCancelled = saturatingSucc (counterOf s .fadesCancelled) :=
  (counterOf_count _ _).trans (congrArg _ (counterOf_of_countsBut (s := dropFade g s) (report_countsBut _ _ _ _) (by decide)))

section
variable (z : ZoneId) (master : Bool) (e : ZoneEntry) (s : State)

theorem zoneRecorded_keeps : keepsBut [.mix, .scene, .lines, .reports, .counters] s (zoneRecorded z master e s) :=
  keepsBut_trans (keepsBut_ite (keepsBut_mono (by simp) (cancelMaster_keeps z s)) (keepsBut_refl _ s)) (keepsBut_trans
    (keepsBut_mono (by simp) (modZone_keeps z _ _)) (keepsBut_mono (by simp) (changeSupervision_keeps z _ _ _)))

theorem zoneRecorded_mix : (zoneRecorded z master e s).mix =
    { s.mix with zones := tmod s.mix.zones z fun r => { r with cfg := e } } := by
  have first : (if master then cancelMaster z s else s).mix = s.mix :=
    keepsBut_ite (cancelMaster_keeps z s) (keepsBut_refl _ s) .mix (by simp)
  rw [zoneRecorded, changeSupervision_keeps _ _ _ _ .mix (by simp), modZone, modMix_mix, first]

end

section
variable {z : ZoneId} {master : Bool} {e : ZoneEntry} {s : State}

/-- Without a change of supervision the master fade and the record are all that is touched. -/
theorem zoneRecorded_of_supervision (h : (tget s.mix.zones z).cfg.supervision = e.supervision) :
    zoneRecorded z master e s = modZone z (fun r => { r with cfg := e }) (if master then cancelMaster z s else s) := by
  rw [zoneRecorded, h, changeSupervision_same]

theorem zoneRecorded_of_no_fade (h : fadeOn s (.master z) = none) : zoneRecorded z master e s =
    changeSupervision z (tget s.mix.zones z).cfg.supervision e.supervision (modZone z (fun r => { r with cfg := e }) s) := by
  rw [zoneRecorded, cancelMaster_of_none h, ite_self]

/-- A record written where nothing follows from it. -/
theorem zoneRecorded_plain (h : (tget s.mix.zones z).cfg.supervision = e.supervision)
    (still : fadeOn s (.master z) = none ∨ master = false) :
    zoneRecorded z master e s = modZone z (fun r => { r with cfg := e }) s := by
  rw [zoneRecorded_of_supervision h]
  rcases still with still | rfl
  · rw [cancelMaster_of_none still, ite_self]
  · rfl

theorem putZone_of_enabled (h : (tget s.mix.zones z).cfg.enabled = e.enabled) :
    putZone z master e s = zoneRecorded z master e s := by rw [putZone_eq, h, changeEnabled_same]

/-- A record written over a running master fade. -/
theorem zoneRecorded_fading {f : Fade} (h : (tget s.mix.zones z).cfg.supervision = e.supervision)
    (fading : fadeOn s (.master z) = some f) :
    (zoneRecorded z true e s).scene = { s.scene with fades := s.scene.fades.filter fun x => x.target ≠ .master z } ∧
      reportedOnce .fadeCancelled (768 + z.val) (tget s.mix.zones z).cfg.master.val s (zoneRecorded z true e s) ∧
      counterOf (zoneRecorded z true e s) .fadesCancelled = saturatingSucc (counterOf s .fadesCancelled) ∧
      keepsBut [.mix, .scene, .reports, .counters] s (zoneRecorded z true e s) := by
  rw [zoneRecorded_of_supervision h, if_pos rfl, cancelMaster_of_some fading]
  exact ⟨cancelFade_scene _ s, cancelFade_reports _ s, counterOf_cancelFade _ s,
    keepsBut_trans (keepsBut_mono (by simp) (cancelFade_keeps _ s)) (keepsBut_mono (by simp) (modZone_keeps z _ _))⟩

end

theorem writeHere_zone {e : ZoneEntry} {z : ZoneId} {s : State} (table : s.control.pointer.table = .zone)
    (row : z = finUpTo 23 s.control.pointer.row) : writeHere (.zone e) s = (.ok, putZone z true (clampZone e) s) := by
  rw [writeHere_of_table table (by decide) rfl, row]
  rfl

section
variable {e : ZoneEntry} {z : ZoneId} {s : State} (hs : ready s) (table : s.control.pointer.table = .zone)
  (row : z = finUpTo 23 s.control.pointer.row)
include hs table row

theorem write_zone_plain (enabled : (tget s.mix.zones z).cfg.enabled = e.enabled)
    (supervision : (tget s.mix.zones z).cfg.supervision = e.supervision) (still : fadeOn s (.master z) = none) :
    ∃ t, exec (.write [.zone e]) s = .next t ∧ answered .ok s t ∧ t.control.pointer = advancePointer s.control.pointer ∧
      t.mix = { s.mix with zones := tset s.mix.zones z { tget s.mix.zones z with cfg := clampZone e } } ∧
      keepsBut (.mix :: answerParts) s t ∧ answerKept s t := by
  have here := writeHere_zone (e := e) table row
  rw [putZone_of_enabled (e := clampZone e) enabled, zoneRecorded_plain (e := clampZone e) supervision (.inl still)] at here
  have done := write_part hs here (modZone_keeps z _ s) (by decide)
  exact done

theorem write_zone_fading {f : Fade} (fading : fadeOn s (.master z) = some f)
    (enabled : (tget s.mix.zones z).cfg.enabled = e.enabled)
    (supervision : (tget s.mix.zones z).cfg.supervision = e.supervision) :
    ∃ t, exec (.write [.zone e]) s = .next t ∧ answered .ok s t ∧
      t.mix = { s.mix with zones := tset s.mix.zones z { tget s.mix.zones z with cfg := clampZone e } } ∧
      t.scene = { s.scene with fades := s.scene.fades.filter fun x => x.target ≠ .master z } ∧
      reportedOnce .fadeCancelled (768 + z.val) (tget s.mix.zones z).cfg.master.val s t ∧
      counterOf t .fadesCancelled = saturatingSucc (counterOf s .fadesCancelled) ∧
      keepsBut (.mix :: .scene :: .reports :: answerParts) s t ∧ answerKept s t := by
  have here := writeHere_zone (e := e) table row
  obtain ⟨scene, reports, counted, kept⟩ := zoneRecorded_fading (e := clampZone e) supervision fading
  rw [putZone_of_enabled (e := clampZone e) enabled] at here
  obtain ⟨t, ran, answer, -, after, whole, counts, reply⟩ := write_taken_leaving hs here kept (by simp) (by simp)
  refine ⟨t, ran, answer, (after .mix (by simp)).trans (zoneRecorded_mix ..), (after .scene (by simp)).trans scene,
    (after .reports (by simp)).trans reports, ?_, keepsBut_mono (by simp) whole, reply⟩
  rw [counterOf_of_countsBut counts (by decide), counted]

end

end Sys2Proof.Machine
end

section
namespace Sys2Proof.Machine

/-! ### The supervision enable written (R182) -/

theorem keepsBut_of_agree {p : Part} {l : List Part} {s t : State} (h : keepsBut (p :: l) s t) (same : agree s t p) :
    keepsBut l s t := fun q hq => by
  by_cases e : q = p
  · exact e ▸ same
  · exact h q (by simp [e, hq])

theorem lineChanges_not_answered (l : LaneId) : ∀ d ∈ answerCounts, counterIx (.lineChanges l) ≠ counterIx d := by
  have low := l.isLt
  simp only [answerCounts, List.mem_cons, List.not_mem_nil, or_false, forall_eq_or_imp, forall_eq, counterIx, counterRow,
    portIx, ne_eq, Fin.mk.injEq]
  omega

section
variable {e : ZoneEntry} {z : ZoneId} {s : State} (hs : ready s) (table : s.control.pointer.table = .zone)
  (row : z = finUpTo 23 s.control.pointer.row) (enabled : (tget s.mix.zones z).cfg.enabled = e.enabled)
  (still : fadeOn s (.master z) = none)
include hs table row enabled still

/-- The write of a zone record with its supervision enable changed. -/
theorem write_zone_supervision : ∃ t, exec (.write [.zone e]) s = .next t ∧ answered .ok s t ∧
      t.mix = { s.mix with zones := tset s.mix.zones z { tget s.mix.zones z with cfg := clampZone e } } ∧
      t.lines = (modRecord (laneOfZone z)
        (supervisionWritten (tget s.mix.zones z).cfg.supervision e.supervision) s).lines ∧
      t.reports = (zoneRecorded z true (clampZone e) s).reports ∧
      countsBut answerCounts (zoneRecorded z true (clampZone e) s) t ∧
      keepsBut (.mix :: .lines :: .reports :: answerParts) s t ∧ answerKept s t := by
  have here := writeHere_zone (e := e) table row
  have recorded := zoneRecorded_of_no_fade (master := true) (e := clampZone e) still
  rw [putZone_of_enabled (e := clampZone e) enabled] at here
  have kept : keepsBut [.mix, .lines, .reports, .counters] s (zoneRecorded z true (clampZone e) s) := by
    rw [recorded]
    exact keepsBut_trans (keepsBut_mono (by simp) (modZone_keeps z _ _))
      (keepsBut_mono (by simp) (changeSupervision_keeps z _ _ _))
  obtain ⟨t, ran, answer, -, after, whole, counts, reply⟩ := write_taken_leaving hs here kept (by simp) (by simp)
  refine ⟨t, ran, answer, (after .mix (by simp)).trans (zoneRecorded_mix ..), ?_, after .reports (by simp), counts,
    keepsBut_mono (by simp) whole, reply⟩
  rw [after .lines (by simp), recorded, changeSupervision_lines]
  rfl

theorem write_zone_supervision_off (off : (tget s.mix.zones z).cfg.supervision = true) (written : e.supervision = false) :
    ∃ t, exec (.write [.zone e]) s = .next t ∧ answered .ok s t ∧
      t.mix = { s.mix with zones := tset s.mix.zones z { tget s.mix.zones z with cfg := clampZone e } } ∧
      recordOf t (laneOfZone z) = unsupervisedRecord (recordOf s (laneOfZone z)) ∧
      t.lines = { s.lines with lanes := (tset s.lines.lanes (laneOfZone z)
        ⟨recordOf t (laneOfZone z), (tget s.lines.lanes (laneOfZone z)).back⟩) } ∧
      ((recordOf s (laneOfZone z)).state = none → keepsBut (.mix :: .lines :: answerParts) s t) ∧
      ((recordOf s (laneOfZone z)).state ≠ none → reportedOnce .lineState z.val 0 s t ∧
        counterOf t (.lineChanges (laneOfZone z)) = saturatingSucc (counterOf s (.lineChanges (laneOfZone z)))) ∧
      keepsBut (.mix :: .lines :: .reports :: answerParts) s t ∧ answerKept s t := by
  obtain ⟨t, ran, answer, mix, lines, reports, counts, whole, reply⟩ := write_zone_supervision hs table row enabled still
  have recorded : zoneRecorded z true (clampZone e) s =
      changeSupervision z true false (modZone z (fun r => { r with cfg := clampZone e }) s) := by
    rw [zoneRecorded_of_no_fade still, off]
    exact congrArg (changeSupervision z true · _) written
  rw [off, written] at lines
  have own : recordOf t (laneOfZone z) = unsupervisedRecord (recordOf s (laneOfZone z)) := by
    rw [recordOf, lines, ← recordOf, recordOf_modRecord, if_pos rfl]
    rfl
  refine ⟨t, ran, answer, mix, own, by rw [own, lines]; rfl, fun unknown => ?_, fun known => ⟨?_, ?_⟩, whole, reply⟩
  · refine keepsBut_of_agree (p := .reports) (keepsBut_mono (by simp) whole) (reports.trans ?_)
    rw [recorded]
    exact changeSupervision_silent (s := modZone z _ s) (fun _ _ => unknown) .reports (by simp)
  · rw [reportedOnce, reports, recorded, (changeSupervision_reported (s := modZone z _ s) known).1]
    exact report_reports_congr _ _ _ rfl rfl rfl
  · rw [counterOf_of_countsBut counts (lineChanges_not_answered _), recorded]
    exact (changeSupervision_reported (s := modZone z _ s) known).2

theorem write_zone_supervision_on (on : (tget s.mix.zones z).cfg.supervision = false) (written : e.supervision = true) :
    ∃ t, exec (.write [.zone e]) s = .next t ∧ answered .ok s t ∧
      t.mix = { s.mix with zones := tset s.mix.zones z { tget s.mix.zones z with cfg := clampZone e } } ∧
      t.lines = { s.lines with lanes := (tset s.lines.lanes (laneOfZone z)
        ⟨{ recordOf s (laneOfZone z) with whole := false }, (tget s.lines.lanes (laneOfZone z)).back⟩) } ∧
      keepsBut (.mix :: .lines :: answerParts) s t ∧ answerKept s t := by
  obtain ⟨t, ran, answer, mix, lines, reports, -, whole, reply⟩ := write_zone_supervision hs table row enabled still
  have recorded : zoneRecorded z true (clampZone e) s =
      changeSupervision z false true (modZone z (fun r => { r with cfg := clampZone e }) s) := by
    rw [zoneRecorded_of_no_fade still, on]
    exact congrArg (changeSupervision z false · _) written
  rw [on, written] at lines
  refine ⟨t, ran, answer, mix, lines, ?_, reply⟩
  refine keepsBut_of_agree (p := .reports) (keepsBut_mono (by simp) whole) (reports.trans ?_)
  rw [recorded]
  rfl

end

end Sys2Proof.Machine
end

section
namespace Sys2Proof.Machine

/-! ### Zones brought to a running alarm's claim (R38, R154) -/

/-- The request by which a channel brings zones to its claim. -/
def addedRequest (s : State) (zs : ZoneSet) (ch : ChanId) : Request :=
  match (channelOf s ch).claim with
  | some c => .gain ch c zs
  | none => .start (channelRequest s ch)

/-- The requests that channels offer at once; the others owe the zones. -/
def addedRequests (s : State) (zs : ZoneSet) (l : List ChanId) : List Request :=
  (l.filter fun ch => (channelOf s ch).request = .none).map (addedRequest s zs)

/-- A channel after zones have been brought to its claim. -/
def zonesAdded (zs : ZoneSet) (x : Channel) : Channel :=
  if x.request ≠ .none then { x with owed := unionZones x.owed zs }
  else { x with request := if x.claim = none then .start else .gain }

theorem channelOf_modChannel (ch k : ChanId) (f : Channel → Channel) (s : State) :
    channelOf (modChannel ch f s) k = if ch = k then f (channelOf s k) else channelOf s k := tget_tmod ..

theorem channelRequest_congr {s t : State} {ch : ChanId} (own : channelOf t ch = channelOf s ch)
    (alarm : t.alarm = { s.alarm with channels := t.alarm.channels }) : channelRequest t ch = channelRequest s ch := by
  have programs : ∀ p, programOf t p = programOf s p := fun p => by rw [programOf, alarm, programOf]
  have entries : ∀ p, alarmEntry t p = alarmEntry s p := fun p => by rw [alarmEntry, alarm, alarmEntry]
  have clip : atClip t ch = atClip s ch := by simp only [atClip, stepAt, own, programs]
  have zones : channelZones t ch = channelZones s ch := by simp only [channelZones, own, entries]
  rw [channelRequest, channelSlot, clip, zones, own, channelRequest, channelSlot]
  simp only [programs]

theorem addedRequest_congr {s t : State} {ch : ChanId} (zs : ZoneSet) (own : channelOf t ch = channelOf s ch)
    (alarm : t.alarm = { s.alarm with channels := t.alarm.channels }) : addedRequest t zs ch = addedRequest s zs ch := by
  simp only [addedRequest, own, channelRequest_congr own alarm]

/-- With a place in the request queue a channel's request joins it. -/
theorem addZones_eq {s : State} (ch : ChanId) (zs : ZoneSet) (run : running s = true) (room : s.claims.queue.length < 16) :
    addZones ch zs s = modChannel ch (zonesAdded zs)
      (modClaims (fun x => { x with queue := x.queue ++ addedRequests s zs [ch] }) s) := by
  have gain : ∀ c, queueAdmits s (.gain ch c zs) = true := fun c => by simp [queueAdmits, run, isAlarmRequest, room]
  have start : queueAdmits s (.start (channelRequest s ch)) = true := by
    simp [queueAdmits, run, isAlarmRequest, channelRequest, room]
  unfold addZones
  by_cases waits : (channelOf s ch).request = .none
  · rw [if_neg (not_not.mpr waits)]
    have added : addedRequests s zs [ch] = [addedRequest s zs ch] := by simp [addedRequests, waits]
    rw [added, addedRequest]
    cases claim : (channelOf s ch).claim with
    | some c =>
      dsimp only
      rw [offerGain, offerRequest]
      rw [if_pos (gain c), if_pos (gain c)]
      refine congrArg (fun v => modAlarm (fun x => { x with channels := v }) _) (tmod_congr ?_)
      change _ = zonesAdded zs (channelOf s ch)
      rw [zonesAdded, if_neg (not_not.mpr waits), if_neg (by rw [claim]; simp)]
      rfl
    | none =>
      dsimp only
      rw [offerStart, offerRequest]
      rw [if_pos start, if_pos start]
      refine congrArg (fun v => modAlarm (fun x => { x with channels := v }) _) (tmod_congr ?_)
      change _ = zonesAdded zs (channelOf s ch)
      rw [zonesAdded, if_neg (not_not.mpr waits), if_pos claim]
      rfl
  · rw [if_pos waits]
    have added : addedRequests s zs [ch] = [] := by simp [addedRequests, waits]
    rw [added]
    simp only [List.append_nil]
    refine congrArg (fun v => modAlarm (fun x => { x with channels := v }) s) (tmod_congr ?_)
    change _ = zonesAdded zs (channelOf s ch)
    rw [zonesAdded, if_pos waits]
    rfl

/-- Channels have been brought zones, one after the other. -/
structure Brought (zs : ZoneSet) (l : List ChanId) (s t : State) : Prop where
  claims : t.claims = { s.claims with queue := s.claims.queue ++ addedRequests s zs l }
  channels : ∀ k, channelOf t k = if k ∈ l then zonesAdded zs (channelOf s k) else channelOf s k
  alarm : t.alarm = { s.alarm with channels := t.alarm.channels }
  keeps : keepsBut [.claims, .alarm] s t

theorem addZones_brought {s : State} (ch : ChanId) (zs : ZoneSet) (run : running s = true)
    (room : s.claims.queue.length < 16) : Brought zs [ch] s (addZones ch zs s) := by
  rw [addZones_eq ch zs run room]
  refine ⟨rfl, fun k => ?_, rfl, keepsBut_trans (keepsBut_mono (by simp) (keepsBut_modClaims _ s))
    (keepsBut_mono (by simp) (keepsBut_modAlarm _ _))⟩
  rw [channelOf_modChannel]
  by_cases h : ch = k
  · subst h
    rw [if_pos rfl, if_pos (by simp)]
    rfl
  · rw [if_neg h, if_neg (by simpa using Ne.symm h)]
    rfl

theorem length_addedRequests (s : State) (zs : ZoneSet) (l : List ChanId) : (addedRequests s zs l).length ≤ l.length := by
  rw [addedRequests, List.length_map]
  exact List.length_filter_le _ _

theorem addZones_all (zs : ZoneSet) {l : List ChanId} {s : State} (run : running s = true) (once : l.Nodup)
    (room : s.claims.queue.length + l.length ≤ 16) : Brought zs l s (forEach l (fun ch => addZones ch zs) s) := by
  induction l generalizing s with
  | nil => exact ⟨by simp [addedRequests], fun k => by simp, rfl, keepsBut_refl _ s⟩
  | cons ch l ih =>
    obtain ⟨fresh, once⟩ := List.nodup_cons.mp once
    rw [List.length_cons] at room
    have first := addZones_brought ch zs run (by omega)
    have running' : running (addZones ch zs s) = true := by
      rw [running, first.keeps .control (by simp)]
      exact run
    have one := length_addedRequests s zs [ch]
    have queue : (addZones ch zs s).claims.queue.length + l.length ≤ 16 := by
      rw [first.claims]
      simp only [List.length_append, List.length_singleton] at *
      omega
    have rest := ih running' once queue
    have same : ∀ k ∈ l, channelOf (addZones ch zs s) k = channelOf s k := fun k hk => by
      rw [first.channels, if_neg (by rintro h; exact fresh (List.mem_singleton.mp h ▸ hk))]
    have requests : addedRequests (addZones ch zs s) zs l = addedRequests s zs l := by
      unfold addedRequests
      rw [List.filter_congr fun k hk => by rw [same k hk]]
      exact List.map_congr_left fun k hk => addedRequest_congr zs (same k (List.mem_filter.mp hk).1) first.alarm
    rw [forEach_cons]
    refine ⟨?_, fun k => ?_, ?_, keepsBut_trans first.keeps rest.keeps⟩
    · rw [rest.claims, first.claims, requests, List.append_assoc, addedRequests, addedRequests, ← List.map_append,
        ← List.filter_append, List.singleton_append]
      rfl
    · rw [rest.channels]
      by_cases hk : k ∈ l
      · rw [if_pos hk, if_pos (List.mem_cons_of_mem _ hk), same k hk]
      · rw [if_neg hk, first.channels]
        simp [hk]
    · rw [rest.alarm, first.alarm]

/-- The channels of the running alarms of a zone (R38). -/
def alarmChannels (s : State) (z : ZoneId) : List ChanId :=
  s.alarm.list.filterMap fun x => if tget x.zones z then x.channel else none

theorem enableZone_eq (z : ZoneId) (s : State) :
    enableZone z s = forEach (alarmChannels s z) (fun ch => addZones ch (tset noZones z true)) s := by
  unfold enableZone alarmChannels
  generalize s.alarm.list = entries
  induction entries generalizing s with
  | nil => rfl
  | cons e entries ih =>
    rw [forEach_cons, List.filterMap_cons, ih]
    cases channel : e.channel with
    | none => simp
    | some ch =>
      dsimp only
      cases tget e.zones z <;> rfl

theorem write_zone_enable {e : ZoneEntry} {z : ZoneId} {s : State} (hs : ready s)
    (table : s.control.pointer.table = .zone) (row : z = finUpTo 23 s.control.pointer.row)
    (disabled : (tget s.mix.zones z).cfg.enabled = false) (enables : e.enabled = true)
    (supervision : (tget s.mix.zones z).cfg.supervision = e.supervision) (still : fadeOn s (.master z) = none)
    (once : (alarmChannels s z).Nodup) (room : s.claims.queue.length + (alarmChannels s z).length ≤ 16) :
    ∃ t, exec (.write [.zone e]) s = .next t ∧ answered .ok s t ∧
      t.mix = { s.mix with zones := tset s.mix.zones z { tget s.mix.zones z with cfg := clampZone e } } ∧
      t.claims = { s.claims with
        queue := s.claims.queue ++ addedRequests s (tset noZones z true) (alarmChannels s z) } ∧
      (∀ k, channelOf t k = if k ∈ alarmChannels s z then zonesAdded (tset noZones z true) (channelOf s k)
        else channelOf s k) ∧
      t.alarm = { s.alarm with channels := t.alarm.channels } ∧
      keepsBut (.mix :: .claims :: .alarm :: answerParts) s t ∧ answerKept s t := by
  have here := writeHere_zone (e := e) table row
  have recorded := zoneRecorded_plain (master := true) (e := clampZone e) supervision (.inl still)
  have kept := modZone_keeps z (fun r => { r with cfg := clampZone e }) s
  have brought := addZones_all (tset noZones z true) (l := alarmChannels s z)
    (s := modZone z (fun r => { r with cfg := clampZone e }) s) hs.2.1 once room
  have enabled : putZone z true (clampZone e) s = forEach (alarmChannels s z) (fun ch => addZones ch (tset noZones z true))
      (modZone z (fun r => { r with cfg := clampZone e }) s) := by
    rw [putZone_eq, disabled, show (clampZone e).enabled = true from enables, recorded]
    exact enableZone_eq z _
  rw [enabled] at here
  obtain ⟨t, ran, answer, -, after, whole, -, reply⟩ := write_taken_leaving (l := [.mix, .claims, .alarm]) hs here
    (keepsBut_trans (keepsBut_mono (by simp) kept) (keepsBut_mono (by simp) brought.keeps)) (by simp) (by simp)
  have alarm := after .alarm (by simp)
  have requests : addedRequests (modZone z (fun r => { r with cfg := clampZone e }) s) (tset noZones z true)
      (alarmChannels s z) = addedRequests s (tset noZones z true) (alarmChannels s z) :=
    List.map_congr_left fun _ _ => addedRequest_congr _ rfl rfl
  refine ⟨t, ran, answer, ?_, ?_, fun k => ?_, ?_, whole, reply⟩
  · rw [after .mix (by simp), brought.keeps .mix (by simp)]
    rfl
  · rw [after .claims (by simp), brought.claims, requests]
    rfl
  · rw [channelOf, alarm]
    exact brought.channels k
  · rw [alarm]
    exact brought.alarm

end Sys2Proof.Machine
end

section
namespace Sys2Proof.Machine

/-! ### A zone disabled (R38, R95) -/

/-- The parts that the end of a claim may touch (R91). -/
def endingParts : List Part := [.ring, .slots, .claims, .peer, .intercom, .alarm, .clips, .reports, .counters]

theorem flashPage_keeps (st : StationId) (c : ClaimId) (s : State) : keepsBut [.intercom] s (flashPage st c s) := by
  unfold flashPage
  split
  · exact keepsBut_ite (keepsBut_modIntercom _ s) (keepsBut_refl _ s)
  · exact keepsBut_refl _ s

theorem tellStation_intercom (st : StationId) (c : ClaimId) (reason : EndReason) (s : State) :
    keepsBut [.intercom] s (tellStation st c reason s) :=
  keepsBut_trans (keepsBut_ite (flashPage_keeps st c s) (keepsBut_refl _ s))
    (keepsBut_trans (keepsBut_modIntercom _ _) (keepsBut_modIntercom _ _))

theorem tellOwner_parts (c : ClaimId) (cl : Claim) (reason : EndReason) (s : State) :
    keepsBut [.peer, .ring, .counters, .intercom, .alarm] s (tellOwner c cl reason s) := by
  unfold tellOwner
  split
  · exact keepsBut_trans (keepsBut_mono (by simp) (tellStation_intercom _ c reason s))
      (keepsBut_mono (by simp) (releasePeers_keeps c _))
  · exact keepsBut_mono (by simp) (releasePeers_keeps c s)
  · exact keepsBut_mono (by simp) (keepsBut_modAlarm _ s)
  · exact keepsBut_mono (by simp) (tellOrigin_keeps _ _ _ _ s)

theorem endClaim_parts {reason : EndReason} (loud : reason ≠ .reset) (c : ClaimId) (s : State) :
    keepsBut endingParts s (endClaim reason c s) := by
  cases held : claimAt s c with
  | none => rw [endClaim_of_free reason held]; exact keepsBut_refl _ s
  | some cl =>
    rw [endClaim_eq held loud]
    exact keepsBut_trans (keepsBut_mono (by simp [endingParts]) (delisted_keeps c s)) (keepsBut_trans
      (keepsBut_mono (by simp [endingParts]) (releaseSlot_keeps c cl reason _)) (keepsBut_trans
      (keepsBut_mono (by simp [endingParts]) (keepsBut_modClaims _ _)) (keepsBut_trans
      (keepsBut_mono (by simp [endingParts]) (tellOwner_parts c cl reason _))
      (keepsBut_mono (by simp [endingParts]) (report_keeps _ _ _ _)))))

/-- A claim's end takes entries away, and adds none. -/
theorem mem_of_endClaim {reason : EndReason} (loud : reason ≠ .reset) {c : ClaimId} {s : State} {z : ZoneId}
    {e : ListEntry} (h : e ∈ listOf (endClaim reason c s) z) : e ∈ listOf s z := by
  cases held : claimAt s c with
  | none => rwa [endClaim_of_free reason held] at h
  | some cl =>
    rw [endClaim_eq held loud, listOf, report_keeps _ _ _ _ .claims (by simp), tellOwner_parts _ _ _ _ .claims (by simp),
      freed, modClaims_claims, releaseSlot_keeps _ _ _ _ .claims (by simp)] at h
    have listed : e ∈ listOf (delisted c s) z := h
    rw [listOf_delisted] at listed
    exact (List.mem_filter.mp listed).1

theorem loseEntry_parts (c : ClaimId) (s : State) : keepsBut endingParts s (loseEntry c s) := by
  have lost : keepsBut endingParts s (modClaim c (fun x => { x with lost := x.lost + 1 }) s) :=
    keepsBut_mono (by simp [endingParts]) (keepsBut_modClaims _ s)
  exact keepsBut_ite lost (keepsBut_trans lost (endClaim_parts (by decide) c _))

theorem mem_of_loseEntry {c : ClaimId} {s : State} {z : ZoneId} {e : ListEntry} (h : e ∈ listOf (loseEntry c s) z) :
    e ∈ listOf s z := by
  unfold loseEntry at h
  dsimp only at h
  split at h
  · exact h
  · exact mem_of_endClaim (s := modClaim c (fun x => { x with lost := x.lost + 1 }) s) (by decide) h

/-- An entry leaves the list of a disabled zone as by an eviction. -/
def dropEntry (z : ZoneId) (e : ListEntry) (s : State) : State :=
  loseEntry e.claim (count (.entriesEvicted z) (removeEntry false e.claim z s))

theorem disableZone_eq (z : ZoneId) (s : State) : disableZone z s = forEach (listOf s z).reverse (dropEntry z) s := by
  unfold disableZone dropEntry
  rfl

theorem dropEntry_parts (z : ZoneId) (e : ListEntry) (s : State) : keepsBut endingParts s (dropEntry z e s) :=
  keepsBut_trans (keepsBut_mono (by simp [endingParts]) (removeEntry_keeps false _ z s)) (keepsBut_trans
    (keepsBut_mono (by simp [endingParts]) (count_keeps _ _)) (loseEntry_parts _ _))

theorem mem_of_dropEntry {z : ZoneId} {e x : ListEntry} {s : State} (h : x ∈ listOf (dropEntry z e s) z) :
    x ∈ listOf s z ∧ x.claim ≠ e.claim := by
  rw [dropEntry] at h
  have listed := mem_of_loseEntry h
  rw [listOf, count_keeps _ _ .claims (by simp), ← listOf, listOf_removeEntry, if_pos rfl, List.mem_filter] at listed
  exact ⟨listed.1, bne_iff_ne.mp listed.2⟩

theorem mem_of_dropEntries {z : ZoneId} {x : ListEntry} (l : List ListEntry) {s : State}
    (h : x ∈ listOf (forEach l (dropEntry z) s) z) : x ∈ listOf s z ∧ ∀ e ∈ l, x.claim ≠ e.claim := by
  induction l generalizing s with
  | nil => exact ⟨h, by simp⟩
  | cons e l ih =>
    obtain ⟨listed, others⟩ := ih h
    obtain ⟨before, own⟩ := mem_of_dropEntry listed
    exact ⟨before, List.forall_mem_cons.mpr ⟨own, others⟩⟩

theorem disableZone_parts (z : ZoneId) (s : State) : keepsBut endingParts s (disableZone z s) :=
  keepsBut_forEach (dropEntry_parts z) _ s

/-- A disabled zone's list is empty. -/
theorem listOf_disableZone (z : ZoneId) (s : State) : listOf (disableZone z s) z = [] :=
  List.eq_nil_iff_forall_not_mem.mpr fun x hx => by
    rw [disableZone_eq] at hx
    obtain ⟨listed, others⟩ := mem_of_dropEntries _ hx
    exact others x (List.mem_reverse.mpr listed) rfl

/-- An entry has left a zone's list, and its claim has lost the zone. -/
def zoneLost (z : ZoneId) (c : ClaimId) (s : State) : State :=
  modClaim c (fun x => { x with lost := x.lost + 1 }) (count (.entriesEvicted z) (removeEntry false c z s))

theorem zoneLost_keeps (z : ZoneId) (c : ClaimId) (s : State) : keepsBut [.claims, .reports, .counters] s (zoneLost z c s) :=
  keepsBut_trans (removeEntry_keeps false c z s) (keepsBut_trans (keepsBut_mono (by simp) (count_keeps _ _))
    (keepsBut_mono (by simp) (keepsBut_modClaims _ _)))

theorem claimAt_zoneLost (z : ZoneId) (c d : ClaimId) (s : State) : claimAt (zoneLost z c s) d =
    if c = d then (claimAt s d).map (fun x => { x with lost := x.lost + 1 }) else claimAt s d := by
  have table : (removeEntry false c z s).claims.table = s.claims.table := by rw [(removeEntry_facts c z s).1]
  rw [claimAt, zoneLost, modClaim, modClaims_claims, count_keeps _ _ .claims (by simp)]
  dsimp only
  rw [tget_tmod, table]
  rfl

theorem listOf_zoneLost (z y : ZoneId) (c : ClaimId) (s : State) : listOf (zoneLost z c s) y =
    if z = y then (listOf s y).filter (fun e => e.claim != c) else listOf s y := listOf_removeEntry c z y s

/-- The evictions of a zone are counted in a row of their own. -/
theorem entriesEvicted_other (z : ZoneId) {l : List Counter} (h : ∀ d ∈ l, counterRow d < 197 ∨ 221 ≤ counterRow d) :
    ∀ d ∈ l, counterIx (.entriesEvicted z) ≠ counterIx d := fun d hd same => by
  have row : 197 + z.val = counterRow d := congrArg Fin.val same
  have := h d hd
  have := z.isLt
  omega

theorem counterOf_zoneLost (z : ZoneId) (c : ClaimId) (s : State) :
    counterOf (zoneLost z c s) (.entriesEvicted z) = saturatingSucc (counterOf s (.entriesEvicted z)) :=
  (counterOf_count _ _).trans (congrArg _ (counterOf_of_countsBut (removeEntry_facts c z s).2.counts
    (entriesEvicted_other z (by decide))))

/-- A claim that holds no other zone than the one it has lost ends PREEMPTED. -/
theorem dropEntry_eq {z : ZoneId} {e : ListEntry} {s : State} (alone : ∀ y, y ≠ z → entryIn (listOf s y) e.claim = none) :
    dropEntry z e s = endClaim .preempted e.claim (zoneLost z e.claim s) := by
  have none' : holdsAnyZone (zoneLost z e.claim s) e.claim = false := by
    rw [holdsAnyZone, Bool.not_eq_false', List.isEmpty_iff, List.eq_nil_iff_forall_not_mem]
    intro y hy
    rw [mem_zonesWhere, listOf_zoneLost] at hy
    by_cases h : z = y
    · rw [if_pos h] at hy
      exact hy (entryIn_eq_none.mpr fun x hx => bne_iff_ne.mp (List.mem_filter.mp hx).2)
    · rw [if_neg h] at hy
      exact hy (alone y (Ne.symm h))
  exact if_neg (by rw [← zoneLost, none']; decide)

theorem dropEntry_inbound {z : ZoneId} {e : ListEntry} {x : Claim} {node tag : Nat} {s : State}
    (held : claimAt s e.claim = some x) (owner : x.owner = .peer node tag)
    (alone : ∀ y, y ≠ z → entryIn (listOf s y) e.claim = none) :
    InboundEnded .preempted e.claim { x with lost := x.lost + 1 } (zoneLost z e.claim s) (dropEntry z e s) := by
  rw [dropEntry_eq alone]
  exact endClaim_inbound (by decide) (by rw [claimAt_zoneLost, if_pos rfl, held]; rfl) owner

theorem claimGone_dropEntry {z : ZoneId} {e : ListEntry} {x : Claim} {s t : State}
    (h : InboundEnded .preempted e.claim x (zoneLost z e.claim s) t) : claimGone e.claim s t := by
  obtain ⟨gone, others, lists⟩ := h.gone
  refine ⟨gone, fun d ne => by rw [others d ne, claimAt_zoneLost, if_neg ne.symm], fun y => ?_⟩
  rw [lists, listOf_zoneLost]
  split
  · rw [List.filter_filter]
    exact List.filter_congr fun x _ => by simp
  · rfl

end Sys2Proof.Machine
end

section
namespace Sys2Proof.Machine

/-- A zone's record written with its enable taken off (R38, R95). -/
def zoneDisabled (z : ZoneId) (e : ZoneEntry) (s : State) : State := disableZone z (zoneRecorded z true e s)

theorem zoneDisabled_parts (z : ZoneId) (e : ZoneEntry) (s : State) :
    keepsBut (.mix :: .scene :: .lines :: endingParts) s (zoneDisabled z e s) :=
  keepsBut_trans (keepsBut_mono (by simp [endingParts]) (zoneRecorded_keeps z true e s))
    (keepsBut_mono (by simp +contextual) (disableZone_parts z _))

theorem zoneDisabled_mix (z : ZoneId) (e : ZoneEntry) (s : State) :
    (zoneDisabled z e s).mix = { s.mix with zones := tmod s.mix.zones z fun r => { r with cfg := e } } := by
  rw [zoneDisabled, disableZone_parts z _ .mix (by simp [endingParts]), zoneRecorded_mix]

/-- Where nothing else follows from the write, the entries of the list alone leave it. -/
theorem zoneDisabled_single {z : ZoneId} {e : ZoneEntry} {ent : ListEntry} {s : State} (list : listOf s z = [ent])
    (supervision : (tget s.mix.zones z).cfg.supervision = e.supervision) (still : fadeOn s (.master z) = none) :
    zoneDisabled z e s = dropEntry z ent (modZone z (fun r => { r with cfg := e }) s) := by
  rw [zoneDisabled, zoneRecorded_plain supervision (.inl still), disableZone_eq]
  rw [show listOf (modZone z (fun r => { r with cfg := e }) s) z = [ent] from list]
  rfl

/-- The state after a WRITE that disables a zone has been answered. -/
def disableAnswered (z : ZoneId) (e : ZoneEntry) (s : State) : State :=
  finishOperation false .ok .none (advance (zoneDisabled z e s))

theorem disableAnswered_keeps (z : ZoneId) (e : ZoneEntry) (s : State) :
    keepsBut answerParts (zoneDisabled z e s) (disableAnswered z e s) :=
  keepsBut_trans (keepsBut_mono (by simp) (advance_keeps _)) (finishOperation_keeps _ _ _ _)

theorem disableAnswered_counts (z : ZoneId) (e : ZoneEntry) (s : State) :
    countsBut answerCounts (zoneDisabled z e s) (disableAnswered z e s) :=
  (finishOperation_answers false .ok .none (advance (zoneDisabled z e s))).counts

section
variable {e : ZoneEntry} {z : ZoneId} {s : State} (hs : ready s) (table : s.control.pointer.table = .zone)
  (row : z = finUpTo 23 s.control.pointer.row) (enabled : (tget s.mix.zones z).cfg.enabled = true)
  (disables : e.enabled = false)
include hs table row enabled disables

theorem exec_write_zone_disable : exec (.write [.zone e]) s = .next (disableAnswered z (clampZone e) s) := by
  refine exec_write_one hs ((writeHere_zone table row).trans ?_) (by decide)
  rw [putZone_eq, enabled, show (clampZone e).enabled = false from disables]
  rfl

end

theorem disableAnswered_general (z : ZoneId) (e : ZoneEntry) (s : State) : answered .ok s (disableAnswered z e s) ∧
    (tget (disableAnswered z e s).mix.zones z).cfg = e ∧ listOf (disableAnswered z e s) z = [] := by
  have kept := disableAnswered_keeps z e s
  refine ⟨?_, ?_, ?_⟩
  · have index : operationIndex (advance (zoneDisabled z e s)) = operationIndex s := by
      rw [operationIndex, advance, modControl_control, zoneDisabled_parts z e s .control (by simp [endingParts]),
        operationIndex]
    rw [answered, disableAnswered, (finishOperation_answers ..).control, index]
  · rw [kept .mix (by simp), zoneDisabled_mix, tget_tmod_self]
  · rw [listOf, kept .claims (by simp), ← listOf]
    exact listOf_disableZone z _

/-- What the origin of an ended claim has heard, with the REPLY of the operation that ended it (R117, R197). -/
theorem originTold_answered {x : Claim} {n : Nat} {s v u : State} (ring : v.ring = s.ring) (control : v.control = s.control)
    (peer : v.peer = s.peer) (counted : counterOf v .inboundPreempted = counterOf s .inboundPreempted)
    (after : u.control = s.control) (told : originTold true { x with lost := n } id v u) :
    originTold true x (finishOperation false .ok .none) s (finishOperation false .ok .none (advance u)) := by
  have answers := (finishOperation_answers false .ok .none (advance u)).counts
  have counts : counterOf (finishOperation false .ok .none (advance u)) .inboundPreempted = counterOf u .inboundPreempted :=
    counterOf_of_countsBut answers (by decide)
  intro node tag same
  obtain ⟨heard, silent⟩ := told node tag same
  rw [inServiceFor_congr peer] at heard silent
  refine ⟨fun _ free => ?_, fun h => ?_⟩
  · obtain ⟨sent, one⟩ := heard rfl free
    have before : u.ring = (sendAnswer node tag 0 .preempted 0 (zonesOf x.target).length s).ring :=
      sent.trans (sendAnswer_ring_congr _ _ _ _ _ _ ring (by rw [control]))
    have plain : (sendAnswer node tag 0 .preempted 0 (zonesOf x.target).length s).control = s.control :=
      sendAnswer_keeps _ _ _ _ _ _ s .control (by simp)
    have reply : SameReply (sendAnswer node tag 0 .preempted 0 (zonesOf x.target).length s) (advance u) :=
      ⟨before, by rw [plain, ← after]; rfl, by rw [plain, ← after]; rfl⟩
    exact ⟨(finishOperation_sameReply reply false .ok .none).ring, by rw [counts, one, counted]⟩
  · obtain ⟨sent, one⟩ := silent h
    have reply : SameReply s (advance u) := ⟨sent.trans ring, by rw [← after]; rfl, by rw [← after]; rfl⟩
    exact ⟨(finishOperation_sameReply reply false .ok .none).ring, by rw [counts, one, counted]⟩

theorem counterOf_zoneLost_inbound (z : ZoneId) (c : ClaimId) (s : State) :
    counterOf (zoneLost z c s) .inboundPreempted = counterOf s .inboundPreempted := by
  refine (tget_count_ne _ _ (entriesEvicted_other z (l := [.inboundPreempted]) (by decide) _ (by simp))).trans ?_
  exact counterOf_of_countsBut (removeEntry_facts c z s).2.counts (by decide)

theorem addressed_of_running {s : State} (h : running s = true) : s.control.mode ≠ .unaddressed := fun k => by
  rw [running, k] at h
  exact absurd h (by decide)

section
variable {z : ZoneId} {e : ZoneEntry} {ent : ListEntry} {x : Claim} {node tag : Nat} {s : State} (hs : ready s)
  (list : listOf s z = [ent]) (held : claimAt s ent.claim = some x) (owner : x.owner = .peer node tag)
  (alone : ∀ y, y ≠ z → entryIn (listOf s y) ent.claim = none)
  (supervision : (tget s.mix.zones z).cfg.supervision = e.supervision) (still : fadeOn s (.master z) = none)
include list held owner alone supervision still

/-- The one inbound claim of a disabled zone has ended PREEMPTED. -/
theorem zoneDisabled_inbound : InboundEnded .preempted ent.claim { x with lost := x.lost + 1 }
    (zoneLost z ent.claim (modZone z (fun r => { r with cfg := e }) s)) (zoneDisabled z e s) := by
  rw [zoneDisabled_single list supervision still]
  exact dropEntry_inbound (s := modZone z _ s) held owner alone

theorem disableAnswered_gone : claimGone ent.claim s (disableAnswered z e s) := by
  obtain ⟨gone, others, lists⟩ := claimGone_dropEntry (zoneDisabled_inbound list held owner alone supervision still)
  have claims : (disableAnswered z e s).claims = (zoneDisabled z e s).claims := disableAnswered_keeps z e s .claims (by simp)
  exact ⟨by rw [claimAt, claims]; exact gone, fun d ne => by rw [claimAt, claims]; exact others d ne,
    fun y => by rw [listOf, claims]; exact lists y⟩

theorem disableAnswered_told : originTold true x (finishOperation false .ok .none) s (disableAnswered z e s) := by
  have ended := zoneDisabled_inbound list held owner alone supervision still
  have lost := zoneLost_keeps z ent.claim (modZone z (fun r => { r with cfg := e }) s)
  refine originTold_answered (lost .ring (by simp)) (lost .control (by simp)) (lost .peer (by simp)) ?_
    (zoneDisabled_parts z e s .control (by simp [endingParts])) ended.told
  exact counterOf_zoneLost_inbound z ent.claim (modZone z _ s)

include hs in
theorem disableAnswered_recorded : recorded .claimEnd ent.claim.val 2 s (disableAnswered z e s) := by
  have ended := zoneDisabled_inbound list held owner alone supervision still
  have lost := zoneLost_keeps z ent.claim (modZone z (fun r => { r with cfg := e }) s)
  have mode : (zoneLost z ent.claim (modZone z (fun r => { r with cfg := e }) s)).control = s.control :=
    lost .control (by simp)
  have ring : (zoneLost z ent.claim (modZone z (fun r => { r with cfg := e }) s)).ring = s.ring := lost .ring (by simp)
  have placed := ended.reported (by rw [mode]; exact addressed_of_running hs.2.1)
  rw [recorded, ring] at placed
  rw [recorded, disableAnswered_keeps z e s .reports (by simp)]
  exact placed

theorem disableAnswered_evicted : counterOf (disableAnswered z e s) (.entriesEvicted z) =
    saturatingSucc (counterOf s (.entriesEvicted z)) := by
  have ended := zoneDisabled_inbound list held owner alone supervision still
  rw [counterOf_of_countsBut (disableAnswered_counts z e s) (entriesEvicted_other z (by decide)),
    counterOf_of_countsBut ended.counts (entriesEvicted_other z (by decide)), counterOf_zoneLost]
  rfl

theorem disableAnswered_whole :
    keepsBut (.mix :: .slots :: .claims :: .reports :: answerParts) s (disableAnswered z e s) :=
  keepsBut_trans (keepsBut_mono (by simp) (modZone_keeps z _ s)) (keepsBut_trans (keepsBut_mono (by simp)
    (zoneLost_keeps z ent.claim _)) (keepsBut_trans (keepsBut_mono (by simp)
    (zoneDisabled_inbound list held owner alone supervision still).keeps)
    (keepsBut_mono (by simp) (disableAnswered_keeps z e s))))

end

end Sys2Proof.Machine
end

section
namespace Sys2Proof.Machine

/-! ### WRITE (R194) -/

theorem write_readOnly {e : Entry} {s : State} (hs : ready s)
    (h : readOnlyAt s.control.pointer.table s.control.pointer.row = true) : ∃ t, exec (.write [e]) s = .next t ∧
      t.control.answer = ⟨operationIndex s, .readOnly, .taken 0⟩ ∧ t.control.pointer = advancePointer s.control.pointer ∧
      keepsBut answerParts s t ∧ answerKept s t := write_refused hs (writeHere_of_readOnly h) rfl (by decide)

theorem write_source_inUse {e : SourceEntry} {i : SlotId} {s : State} (hs : ready s)
    (table : s.control.pointer.table = .source) (row : i.val = s.control.pointer.row) (low : i.val < 23)
    (change : writtenBinding e.mode e.binding ≠ (tget s.slots i).binding ∨ (tget s.slots i).mode ≠ some e.mode)
    (used : slotInUse s i = true) : ∃ t, exec (.write [.source e]) s = .next t ∧
      t.control.answer = ⟨operationIndex s, .inUse, .taken 0⟩ ∧ t.control.pointer = advancePointer s.control.pointer ∧
      keepsBut answerParts s t ∧ answerKept s t :=
  write_refused hs ((writeHere_source table row low).trans (putSource_inUse change used)) rfl (by decide)

theorem write_program_inUse {e : ProgramEntry} {p : ProgramId} {s : State} (hs : ready s)
    (table : s.control.pointer.table = .alarmProgram) (row : p.val = s.control.pointer.row)
    (present : alarmEntry s p ≠ none) : ∃ t, exec (.write [.program e]) s = .next t ∧
      t.control.answer = ⟨operationIndex s, .inUse, .taken 0⟩ ∧ t.control.pointer = advancePointer s.control.pointer ∧
      keepsBut answerParts s t ∧ answerKept s t :=
  write_refused hs ((writeHere_program table row).trans (putProgram_present _ present)) rfl (by decide)

theorem writtenSlot_same {mode : SlotMode} {b : Binding} {cls : SlotClass} {trim : Code} {x : Slot} (h : b = x.binding) :
    writtenSlot mode b cls trim x = { x with mode := some mode, cls := cls, trim := trim } := if_pos h.symm

theorem writtenSlot_bound {mode : SlotMode} {b : Binding} {cls : SlotClass} {trim : Code} {x : Slot} (h : b ≠ x.binding) :
    writtenSlot mode b cls trim x =
      { binding := b
        mode := some mode
        cls := cls
        trim := trim
        block := silence
        fresh := false
        miss := if b = .unbound then 50 else 0
        health := if b = .unbound then .lost else .live } := by
  rw [writtenSlot, if_neg h.symm]
  by_cases u : b = .unbound
  · rw [if_pos u, if_pos u, if_pos u, u]
    rfl
  · rw [if_neg u, if_neg u, if_neg u]
    rfl

/-- Settles O48, table by table: the rule of a WRITE of one entry, with what the write of that table's entry does. -/
theorem writes : Obligations.Writes := by
  unfold Obligations.Writes
  intro s hs
  refine ⟨fun c => write_level hs c, fun e z table row => ⟨?_, ?_, ?_, ?_, ?_⟩, fun e => write_readOnly hs,
    fun e i table row low => write_source_inUse hs table row low, fun e => write_matrix_malformed hs,
    fun e i table row low free => ?_, fun e g table row => ⟨write_group hs table row, write_group_malformed hs table⟩,
    fun e i => write_chime hs e, fun e st => write_station hs e, fun f st k table row column => ?_,
    fun e p table row => ⟨fun absent => ?_, write_program_inUse hs table row, fun f q present absent next => ?_⟩,
    fun e p table row => ?_, fun e table => ?_, fun e => ?_, fun gains table order last first room rows => ⟨?_, ?_⟩⟩
  · exact write_zone_plain hs table row
  · intro enabled disables
    obtain ⟨answer, cfg, list⟩ := disableAnswered_general z (clampZone e) s
    refine ⟨_, exec_write_zone_disable hs table row enabled disables, answer, cfg, list, ?_⟩
    rintro ent x single held ⟨node, tag, owner⟩ alone supervision still
    exact ⟨disableAnswered_gone single held owner alone supervision still,
      disableAnswered_recorded hs single held owner alone supervision still,
      disableAnswered_evicted single held owner alone supervision still,
      disableAnswered_told single held owner alone supervision still,
      disableAnswered_whole single held owner alone supervision still⟩
  · rintro l disabled enables supervision still rfl once room
    obtain ⟨t, ran, answer, mix, claims, channels, alarm, whole, reply⟩ :=
      write_zone_enable hs table row disabled enables supervision still once room
    refine ⟨t, ran, answer, mix, by rw [claims], ?_, fun ch => ?_, alarm, whole, reply⟩
    · rw [claims]
      refine congrArg (s.claims.queue ++ ·) (List.map_congr_left fun ch _ => ?_)
      unfold addedRequest
      cases (channelOf s ch).claim <;> rfl
    · exact (channels ch).trans (ite_not ..).symm
  · intro enabled still
    exact ⟨write_zone_supervision_off hs table row enabled still, write_zone_supervision_on hs table row enabled still⟩
  · intro f fading
    exact write_zone_fading hs table row fading
  · obtain ⟨t, ran, answer, pointer, others, own, whole, reply⟩ := write_source_taken hs table row low free
    exact ⟨t, ran, answer, pointer, others, fun same => own.trans (writtenSlot_same same),
      fun change => own.trans (writtenSlot_bound change), whole, reply⟩
  · obtain ⟨t, ran, answer, pointer, key, whole, reply⟩ := write_key hs f table row column
    refine ⟨t, ran, answer, pointer, key.trans ?_, whole, reply⟩
    cases f <;> rfl
  · obtain ⟨t, ran, answer, pointer, alarm, whole, reply⟩ := write_program hs e table row absent
    refine ⟨t, ran, answer, pointer, alarm.trans ?_, whole, reply⟩
    refine congrArg (fun l => ({ s.alarm with
      programs := tset s.alarm.programs p ⟨min 7 e.rank, min 31 e.defaultGroup, l⟩ } : Alarm)) ?_
    exact List.map_congr_left fun x _ => by cases x <;> rfl
  · exact write_program_past hs table row present absent next
  · obtain ⟨t, ran, answer, pointer, alarm, whole, reply⟩ := write_pattern hs e table row
    refine ⟨t, ran, answer, pointer, alarm.trans ?_, whole, reply⟩
    rw [clampPattern]
    cases e.action <;> rfl
  · obtain ⟨t, ran, answer, pointer, node, whole, reply⟩ := write_node hs (e := e) table
    refine ⟨t, ran, answer, pointer, node, whole, ?_⟩
    rw [node]
    exact reply
  · rw [clampZone, clampBackup.eq_def]
    cases e.backup <;> rfl
  · obtain ⟨t, ran, done⟩ := write_gains hs table ⟨order, last, first, room, rows⟩
    exact ⟨t, ran, done.answer, gainsWritten_finished done⟩
  · intro e more other
    obtain ⟨t, ran, done⟩ := write_gains_malformed hs table ⟨order, last, first, room, rows⟩ other more
    exact ⟨t, ran, done.answer, gainsWritten_finished done⟩

end Sys2Proof.Machine
end

section
namespace Sys2Proof.Machine

/-! ### WRITE-FIELDS (R194) -/

/-- The write of named fields at the pointer. -/
def writeFieldsHere (l : List Field) (s : State) : ResultCode × State :=
  writeNamed s.control.pointer.table s.control.pointer.row s.control.pointer.column l s

theorem exec_writeFields {l : List Field} {code : ResultCode} {s u : State} (hs : ready s)
    (h : writeFieldsHere l s = (code, u)) :
    exec (.writeFields l) s = .next (finishOperation false code .none (advance u)) := by
  change execWriteFields l s = _
  rw [execWriteFields, settle_of_quiet hs.1, operation_of_ready _ hs]
  change Host.Outcome.next (commandDone (writeFieldsHere l s).1 (advance (writeFieldsHere l s).2)) = _
  rw [h]
  rfl

/-- The entry at the pointer, as far as it can be written. -/
def entryHere (s : State) : Entry :=
  writableEntry s s.control.pointer.table s.control.pointer.row s.control.pointer.column

section
variable {l : List Field} {s : State}

theorem writeFieldsHere_readOnlyPlace (h : readOnlyAt s.control.pointer.table s.control.pointer.row = true) :
    writeFieldsHere l s = (.readOnly, s) := if_pos h

variable (writable : readOnlyAt s.control.pointer.table s.control.pointer.row = false)
include writable

theorem writeFieldsHere_unknown
    (fields : setFields (entryHere s) (functionFirst (l.filter (· ≠ .readOnly))) = none) :
    writeFieldsHere l s = (.outOfRange, s) := by
  rw [entryHere] at fields
  rw [writeFieldsHere, writeNamed, if_neg (by rw [writable]; decide), fields]

theorem writeFieldsHere_readOnly {e : Entry}
    (fields : setFields (entryHere s) (functionFirst (l.filter (· ≠ .readOnly))) = some e)
    (named : l.contains .readOnly = true) : writeFieldsHere l s = (.readOnly, s) := by
  rw [entryHere] at fields
  rw [writeFieldsHere, writeNamed, if_neg (by rw [writable]; decide), fields]
  exact if_pos named

theorem writeFieldsHere_eq {e : Entry}
    (fields : setFields (entryHere s) (functionFirst (l.filter (· ≠ .readOnly))) = some e)
    (named : l.contains .readOnly = false) : writeFieldsHere l s =
      putFields s.control.pointer.table s.control.pointer.row s.control.pointer.column l e s := by
  rw [entryHere] at fields
  rw [writeFieldsHere, writeNamed, if_neg (by rw [writable]; decide), fields]
  exact if_neg (by rw [named]; decide)

end

section
variable {l : List Field} {s u : State} (hs : ready s)
include hs

theorem writeFields_refused {code : ResultCode} (h : writeFieldsHere l s = (code, s)) (refusal : isRefusal code = true) :
    ∃ t, exec (.writeFields l) s = .next t ∧ refusedWith code s t ∧
      t.control.pointer = advancePointer s.control.pointer := by
  have done := finishOperation_finished (owed := false) (code := code) (data := .none) (s := s) (u := advance s) rfl rfl
    (by rw [refusal, Bool.or_true, Bool.or_true])
  obtain ⟨pointer, -, whole, -, kept⟩ := done.leaving (keepsBut_refl [] s) (by simp)
  exact ⟨_, exec_writeFields hs h, ⟨done.answer, whole, kept⟩, pointer⟩

theorem writeFields_taken {parts : List Part} (h : writeFieldsHere l s = (.ok, u)) (kept : keepsBut parts s u)
    (ring : .ring ∉ parts) (control : .control ∉ parts) : ∃ t, exec (.writeFields l) s = .next t ∧ answered .ok s t ∧
      t.control.pointer = advancePointer s.control.pointer ∧ keepsBut answerParts u t ∧
      keepsBut (parts ++ answerParts) s t ∧ answerKept s t := by
  have done := finishOperation_finished (owed := false) (code := .ok) (data := .none) (s := s) (u := advance u)
    (kept .ring ring) (by rw [advance, modControl_control, kept .control control]) rfl
  obtain ⟨pointer, after, whole, -, reply⟩ := done.leaving kept control
  exact ⟨_, exec_writeFields hs h, done.answer, pointer, after, whole, reply⟩

end

/-! ### Fields of a ring slot (R24) -/

theorem slotClass_ringClass {c : SlotClass} (h : c ≠ .voiceClass) : slotClass (ringClass c) = c := by
  cases c <;> first | exact absurd rfl h | rfl

section
variable {i : SlotId} {s : State} (table : s.control.pointer.table = .source) (row : i.val = s.control.pointer.row)
include table row

theorem entryHere_source : entryHere s = .source (sourceEntry (tget s.slots i)) := by
  rw [entryHere, table, ← finUpTo_of_eq row]
  rfl

variable (low : i.val < 23)
include low

theorem writableSource : readOnlyAt s.control.pointer.table s.control.pointer.row = false :=
  writable_of_source table (by omega)

theorem writeFieldsHere_trim {c : Code} (other : (tget s.slots i).cls ≠ .voiceClass) :
    writeFieldsHere [.sourceTrim c] s = (.ok, modSlot i (fun x => { x with trim := c }) s) := by
  rw [writeFieldsHere_eq (e := .source { sourceEntry (tget s.slots i) with trim := c }) (writableSource table row low)
    (by rw [entryHere_source table row]; rfl) rfl, table]
  change (ResultCode.ok, modSlot (finUpTo 31 s.control.pointer.row) _ s) = _
  rw [finUpTo_of_eq row]
  refine congrArg (fun v => (ResultCode.ok, modSlots (fun _ => v) s)) (tmod_congr ?_)
  exact congrArg (fun k => ({ tget s.slots i with cls := k, trim := c } : Slot)) (slotClass_ringClass other)

theorem writeFieldsHere_source {f : Field} {e : SourceEntry} (named : namesBinding [f] = true)
    (set : setField (.source (sourceEntry (tget s.slots i))) f = some (.source e))
    (plain : functionFirst ([f].filter (· ≠ .readOnly)) = [f]) (other : [f].contains .readOnly = false) :
    writeFieldsHere [f] s = writeSource i e s := by
  rw [writeFieldsHere_eq (e := .source e) (writableSource table row low)
    (by rw [entryHere_source table row, plain, setFields, set]; rfl) other, table, putFields, if_pos named,
    finUpTo_of_eq row]

end

end Sys2Proof.Machine
end

section
namespace Sys2Proof.Machine

theorem write_fields_trim {c : Code} {i : SlotId} {s : State} (hs : ready s) (table : s.control.pointer.table = .source)
    (row : i.val = s.control.pointer.row) (low : i.val < 23) (other : (tget s.slots i).cls ≠ .voiceClass) :
    ∃ t, exec (.writeFields [.sourceTrim c]) s = .next t ∧ answered .ok s t ∧
      t.control.pointer = advancePointer s.control.pointer ∧
      t.slots = tset s.slots i { tget s.slots i with trim := c } ∧
      keepsBut (.slots :: answerParts) s t ∧ answerKept s t := by
  obtain ⟨t, ran, answer, pointer, after, whole, reply⟩ := writeFields_taken hs
    (writeFieldsHere_trim (c := c) table row low other) (modSlot_keeps i _ s) (by simp) (by simp)
  exact ⟨t, ran, answer, pointer, after .slots (by simp), whole, reply⟩

/-- A field list of a ring slot that would change its mode or binding while it is in use (R24). -/
theorem write_fields_inUse {f : Field} {e : SourceEntry} {i : SlotId} {s : State} (hs : ready s)
    (table : s.control.pointer.table = .source) (row : i.val = s.control.pointer.row) (low : i.val < 23)
    (used : slotInUse s i = true) (named : namesBinding [f] = true)
    (set : setField (.source (sourceEntry (tget s.slots i))) f = some (.source e))
    (plain : functionFirst ([f].filter (· ≠ .readOnly)) = [f]) (other : [f].contains .readOnly = false)
    (change : writtenBinding e.mode e.binding ≠ (tget s.slots i).binding ∨ (tget s.slots i).mode ≠ some e.mode) :
    ∃ t, exec (.writeFields [f]) s = .next t ∧ refusedWith .inUse s t ∧
      t.control.pointer = advancePointer s.control.pointer :=
  writeFields_refused hs ((writeFieldsHere_source table row low named set plain other).trans
    (putSource_inUse change used)) rfl

/-! ### Fields of a zone record (R39) -/

section
variable {z : ZoneId} {s : State} (table : s.control.pointer.table = .zone) (row : z.val = s.control.pointer.row)
include table row

theorem entryHere_zone : entryHere s = .zone (tget s.mix.zones z).cfg := by
  rw [entryHere, table, ← finUpTo_of_eq row]
  rfl

theorem writeFieldsHere_zone {f : Field} {e : ZoneEntry}
    (set : setField (.zone (tget s.mix.zones z).cfg) f = some (.zone e))
    (plain : functionFirst ([f].filter (· ≠ .readOnly)) = [f]) (other : [f].contains .readOnly = false) :
    writeFieldsHere [f] s = (.ok, putZone z (namesMaster [f]) e s) := by
  rw [writeFieldsHere_eq (e := .zone e) (writable_of_table table (by decide) rfl)
    (by rw [entryHere_zone table row, plain, setFields, set]; rfl) other, table, putFields, finUpTo_of_eq row]

variable (hs : ready s)
include hs

theorem write_fields_duck (c : Code) : ∃ t, exec (.writeFields [.zoneDuck c]) s = .next t ∧ answered .ok s t ∧
      t.mix = { s.mix with zones := tmod s.mix.zones z fun x => { x with cfg := { x.cfg with duck := c } } } ∧
      keepsBut (.mix :: answerParts) s t ∧ answerKept s t := by
  have here := writeFieldsHere_zone (f := .zoneDuck c) table row rfl rfl rfl
  rw [putZone_of_enabled (e := { (tget s.mix.zones z).cfg with duck := c }) rfl,
    zoneRecorded_plain (master := namesMaster [.zoneDuck c]) (e := { (tget s.mix.zones z).cfg with duck := c }) rfl
      (.inr rfl)] at here
  obtain ⟨t, ran, answer, -, after, whole, reply⟩ := writeFields_taken hs here (modZone_keeps z _ s) (by simp) (by simp)
  exact ⟨t, ran, answer, after .mix (by simp), whole, reply⟩

theorem write_fields_master {f : Fade} (c : Code) (fading : fadeOn s (.master z) = some f) :
    ∃ t, exec (.writeFields [.zoneMaster c]) s = .next t ∧ answered .ok s t ∧
      t.mix = { s.mix with zones := tmod s.mix.zones z fun x => { x with cfg := { x.cfg with master := c } } } ∧
      t.scene = { s.scene with fades := s.scene.fades.filter fun x => x.target ≠ .master z } ∧
      reportedOnce .fadeCancelled (768 + z.val) (tget s.mix.zones z).cfg.master.val s t ∧
      keepsBut (.mix :: .scene :: .reports :: answerParts) s t ∧ answerKept s t := by
  have here := writeFieldsHere_zone (f := .zoneMaster c) table row rfl rfl rfl
  rw [putZone_of_enabled (e := { (tget s.mix.zones z).cfg with master := c }) rfl] at here
  obtain ⟨scene, reports, -, kept⟩ := zoneRecorded_fading (e := { (tget s.mix.zones z).cfg with master := c }) rfl fading
  obtain ⟨t, ran, answer, -, after, whole, reply⟩ := writeFields_taken hs here kept (by simp) (by simp)
  exact ⟨t, ran, answer, (after .mix (by simp)).trans (zoneRecorded_mix ..), (after .scene (by simp)).trans scene,
    (after .reports (by simp)).trans reports, keepsBut_mono (by simp) whole, reply⟩

end

/-! ### WRITE-IF (R195) -/

theorem exec_writeIf {x y : Entry} {code : ResultCode} {data : ResultData} {s u : State} (hs : ready s)
    (h : compareWrite x y s = (code, data, u)) :
    exec (.writeIf x y) s = .next (finishOperation true code data u) := by
  change execWriteIf x y s = _
  rw [execWriteIf, settle_of_quiet hs.1, operation_of_ready _ hs]
  dsimp only
  rw [h]

section
variable {x y : Entry} {s u : State}

theorem compareWrite_readOnly (h : readOnlyAt s.control.pointer.table s.control.pointer.row = true) :
    compareWrite x y s = (.readOnly, .none, advance s) := if_pos h

variable (writable : readOnlyAt s.control.pointer.table s.control.pointer.row = false)
  (form : (sameForm x (entryHere s) && wellLength x) = true)
include writable form

theorem compareWrite_same {code : ResultCode} (same : x = entryHere s) (h : writeHere y s = (code, u)) :
    compareWrite x y s = (if code = .ok then .hit else code, .none, advance u) := by
  rw [entryHere] at form same
  rw [writeHere] at h
  unfold compareWrite
  dsimp only
  rw [if_neg (by rw [writable]; decide), if_neg (by rw [form]; decide), if_pos same, h]

theorem compareWrite_other (other : x ≠ entryHere s) : compareWrite x y s = (.miss, .missed s.control.pointer.table
      (readEntry s s.control.pointer.table s.control.pointer.row s.control.pointer.column), advance s) := by
  rw [entryHere] at form other
  unfold compareWrite
  dsimp only
  rw [if_neg (by rw [writable]; decide), if_neg (by rw [form]; decide), if_neg other]

end

section
variable {x y : Entry} {s u : State} (hs : ready s)
include hs

theorem writeIf_refused {code : ResultCode} (h : compareWrite x y s = (code, .none, advance s))
    (refusal : isRefusal code = true) : ∃ t, exec (.writeIf x y) s = .next t ∧ refusedWith code s t ∧
      t.control.pointer = advancePointer s.control.pointer := by
  have done := finishOperation_finished (owed := true) (code := code) (data := .none) (s := s) (u := advance s) rfl rfl
    (by rw [refusal, Bool.or_true, Bool.or_true])
  obtain ⟨pointer, -, whole, -, kept⟩ := done.leaving (keepsBut_refl [] s) (by simp)
  exact ⟨_, exec_writeIf hs h, ⟨done.answer, whole, kept⟩, pointer⟩

theorem writeIf_inUse (writable : readOnlyAt s.control.pointer.table s.control.pointer.row = false)
    (form : (sameForm x (entryHere s) && wellLength x) = true) (same : x = entryHere s)
    (used : writeHere y s = (.inUse, s)) : ∃ t, exec (.writeIf x y) s = .next t ∧ refusedWith .inUse s t ∧
      t.control.pointer = advancePointer s.control.pointer :=
  writeIf_refused hs (compareWrite_same writable form same used) rfl

end

theorem entryHere_program {p : ProgramId} {s : State} (table : s.control.pointer.table = .alarmProgram)
    (row : p.val = s.control.pointer.row) : entryHere s = .program (programOf s p) := by
  rw [entryHere, table, ← finUpTo_of_eq row]
  rfl

section
variable {x y : Gain} {c : Code} {s : State} (hs : ready s) (table : s.control.pointer.table = .taper)
  (row : c.val = s.control.pointer.row)
include hs table row

omit hs in
theorem entryHere_gain : entryHere s = .gain (tget s.mix.taper c) := by
  rw [entryHere, table, ← finUpTo_of_eq row]
  rfl

theorem writeIf_gain_hit (same : tget s.mix.taper c = x) :
    ∃ t, exec (.writeIf (.gain x) (.gain y)) s = .next t ∧ answered .hit s t ∧
      t.control.pointer = advancePointer s.control.pointer ∧ t.mix = { s.mix with taper := tset s.mix.taper c y } ∧
      keepsBut (.mix :: answerParts) s t ∧ answerKept s t := by
  have entry := entryHere_gain table row
  have compared := compareWrite_same (x := .gain x) (writable_of_table table (by decide) rfl) (by rw [entry]; rfl)
    (by rw [entry, same]) (writeHere_gain (g := y) table row)
  have done := finishOperation_finished (owed := true) (code := .hit) (data := .none) (s := s)
    (u := advance (modMix (fun m => { m with taper := tset m.taper c y }) s)) rfl rfl rfl
  obtain ⟨pointer, after, whole, -, reply⟩ := done.leaving (keepsBut_modMix _ s) (by simp)
  exact ⟨_, exec_writeIf hs compared, done.answer, pointer, after .mix (by simp), whole, reply⟩

theorem writeIf_gain_miss (other : tget s.mix.taper c ≠ x) :
    ∃ t, exec (.writeIf (.gain x) (.gain y)) s = .next t ∧
      t.control.answer = ⟨operationIndex s, .miss, .missed .taper (.gain (tget s.mix.taper c))⟩ ∧
      t.control.pointer = advancePointer s.control.pointer ∧ keepsBut answerParts s t ∧ answerKept s t := by
  have entry := entryHere_gain table row
  have compared := compareWrite_other (x := .gain x) (y := .gain y) (writable_of_table table (by decide) rfl)
    (by rw [entry]; rfl) (by rw [entry]; exact fun h => other (Entry.gain.inj h).symm)
  have read : readEntry s .taper s.control.pointer.row s.control.pointer.column = .gain (tget s.mix.taper c) := by
    rw [← finUpTo_of_eq row]
    rfl
  rw [table, read] at compared
  have done := finishOperation_finished (owed := true) (code := .miss)
    (data := .missed .taper (.gain (tget s.mix.taper c))) (s := s) (u := advance s) rfl rfl rfl
  obtain ⟨pointer, -, whole, -, reply⟩ := done.leaving (keepsBut_refl [] s) (by simp)
  exact ⟨_, exec_writeIf hs compared, done.answer, pointer, whole, reply⟩

end

/-- Settles O49, table by table, from what the named fields make of the entry at the pointer and from the comparison with it. -/
theorem conditionalWrites : Obligations.ConditionalWrites := by
  unfold Obligations.ConditionalWrites
  intro s hs
  refine ⟨fun c i table row low other => write_fields_trim hs table row low other,
    fun c z f table row fading _ => ⟨write_fields_duck table row hs c, write_fields_master table row hs c fading⟩,
    fun i table row low => ⟨?_, ?_, fun m used change => ?_, fun b used change => ?_⟩,
    fun place => ⟨fun l => writeFields_refused hs (writeFieldsHere_readOnlyPlace place) rfl,
      fun x y => writeIf_refused hs (compareWrite_readOnly place) rfl⟩,
    fun p x y table row present same => ?_, fun i x y table row low same used change => ?_,
    fun x y c table row => ⟨writeIf_gain_hit hs table row, writeIf_gain_miss hs table row⟩⟩
  · exact writeFields_refused hs (writeFieldsHere_unknown (writableSource table row low)
      (by rw [entryHere_source table row]; rfl)) rfl
  · exact writeFields_refused hs (writeFieldsHere_readOnly (writableSource table row low)
      (by rw [entryHere_source table row]; rfl) rfl) rfl
  · exact write_fields_inUse hs table row low used rfl rfl rfl rfl (.inr change)
  · exact write_fields_inUse hs table row low used rfl rfl rfl rfl (.inl change)
  · have entry := entryHere_program table row
    subst same
    exact writeIf_inUse hs (writable_of_table table (by decide) rfl) (by rw [entry]; rfl) entry.symm
      ((writeHere_program table row).trans (putProgram_present _ present))
  · have entry := entryHere_source table row
    subst same
    exact writeIf_inUse hs (writableSource table row low) (by rw [entry]; rfl) entry.symm
      ((writeHere_source table row low).trans (putSource_inUse change used))

end Sys2Proof.Machine
end

section
namespace Sys2Proof.Machine

/-! ### What leaves the limiters alone (R36, R51) -/

/-- The bounds of the limiters speak of the mix and of the boundary in progress alone. -/
theorem limitersOk_of_keeps {l : List Part} {s t : State} (h : keepsBut l s t) (mix : Part.mix ∉ l := by decide)
    (boundary : Part.boundary ∉ l := by decide) : limitersOk t ↔ limitersOk s := by
  have same : t.mix = s.mix := h .mix mix
  have inProgress : t.boundary = s.boundary := h .boundary boundary
  rw [limitersOk, limitersOk, same, inProgress]

section
variable (s : State)

@[simp] theorem limitersOk_modRing (f) : limitersOk (modRing f s) ↔ limitersOk s := .rfl
@[simp] theorem limitersOk_modSlots (f) : limitersOk (modSlots f s) ↔ limitersOk s := .rfl
@[simp] theorem limitersOk_modScene (f) : limitersOk (modScene f s) ↔ limitersOk s := .rfl
@[simp] theorem limitersOk_modClaims (f) : limitersOk (modClaims f s) ↔ limitersOk s := .rfl
@[simp] theorem limitersOk_modPeer (f) : limitersOk (modPeer f s) ↔ limitersOk s := .rfl
@[simp] theorem limitersOk_modIntercom (f) : limitersOk (modIntercom f s) ↔ limitersOk s := .rfl
@[simp] theorem limitersOk_modAlarm (f) : limitersOk (modAlarm f s) ↔ limitersOk s := .rfl
@[simp] theorem limitersOk_modClips (f) : limitersOk (modClips f s) ↔ limitersOk s := .rfl
@[simp] theorem limitersOk_modLines (f) : limitersOk (modLines f s) ↔ limitersOk s := .rfl
@[simp] theorem limitersOk_modControl (f) : limitersOk (modControl f s) ↔ limitersOk s := .rfl
@[simp] theorem limitersOk_modReports (f) : limitersOk (modReports f s) ↔ limitersOk s := .rfl
@[simp] theorem limitersOk_modCounters (f) : limitersOk (modCounters f s) ↔ limitersOk s := .rfl
@[simp] theorem limitersOk_modPending (f) : limitersOk (modPending f s) ↔ limitersOk s := .rfl

@[simp] theorem limitersOk_ite {c : Prop} [Decidable c] (s t : State) :
    limitersOk (if c then s else t) ↔ if c then limitersOk s else limitersOk t := by split <;> rfl

/-- A walk whose every change leaves the limiters alone does so too. -/
@[simp] theorem limitersOk_forEach {α : Type} {f : α → State → State} (l : List α)
    (h : ∀ a u, limitersOk (f a u) ↔ limitersOk u) : limitersOk (forEach l f s) ↔ limitersOk s :=
  forEach_induct (fun t => limitersOk t ↔ limitersOk s) f l (fun a _ u hu => (h a u).trans hu) s .rfl

@[simp] theorem limitersOk_count (c : Counter) : limitersOk (count c s) ↔ limitersOk s := .rfl

@[simp] theorem limitersOk_countTimes (c : Counter) (n : Nat) : limitersOk (countTimes c n s) ↔ limitersOk s :=
  limitersOk_of_keeps (countTimes_keeps c n s)

@[simp] theorem limitersOk_offer (p : Port) (f : Frame) : limitersOk (offer p f s) ↔ limitersOk s :=
  limitersOk_of_keeps (offer_keeps p f s)

@[simp] theorem limitersOk_originate (kind : Byte) (dest : Nat) (body : Body) :
    limitersOk (originate kind dest body s) ↔ limitersOk s := limitersOk_of_keeps (originate_keeps kind dest body s)

@[simp] theorem limitersOk_report (kind : ReportKind) (subject value : Nat) :
    limitersOk (report kind subject value s) ↔ limitersOk s := limitersOk_of_keeps (report_keeps kind subject value s)

@[simp] theorem limitersOk_finishOperation (owed : Bool) (code : ResultCode) (data : ResultData) :
    limitersOk (finishOperation owed code data s) ↔ limitersOk s :=
  limitersOk_of_keeps (finishOperation_keeps owed code data s)

@[simp] theorem limitersOk_commandDone (code : ResultCode) : limitersOk (commandDone code s) ↔ limitersOk s :=
  limitersOk_finishOperation s ..

@[simp] theorem limitersOk_claimAnswer (framed : Bool) (code : ResultCode) (data : ResultData) :
    limitersOk (claimAnswer framed code data s) ↔ limitersOk s := by simp [claimAnswer]

@[simp] theorem limitersOk_startFrame : limitersOk (startFrame s) ↔ limitersOk s := by
  have finished (v u) : limitersOk (finishFrame v u) ↔ limitersOk u := limitersOk_of_keeps (finishFrame_keeps v u)
  have continued (v u) : limitersOk (continueFrame v u) ↔ limitersOk u := limitersOk_of_keeps (continueFrame_keeps v u)
  unfold startFrame
  split
  · simp [beginFrame, finished, continued]
  · rfl

/-! #### Source slots and clips (chapters 2 and 9) -/

@[simp] theorem limitersOk_modSlot (i : SlotId) (f : Slot → Slot) : limitersOk (modSlot i f s) ↔ limitersOk s := .rfl
@[simp] theorem limitersOk_rebind (b : Binding) (i : SlotId) : limitersOk (rebind b i s) ↔ limitersOk s := .rfl
@[simp] theorem limitersOk_writeGenerator (i : SlotId) (b : Block) : limitersOk (writeGenerator i b s) ↔ limitersOk s := .rfl
@[simp] theorem limitersOk_modPlayer (p : ChanId) (f : Player → Player) : limitersOk (modPlayer p f s) ↔ limitersOk s := .rfl

@[simp] theorem limitersOk_capture (i : SlotId) (b : Block) : limitersOk (capture i b s) ↔ limitersOk s :=
  limitersOk_of_keeps (capture_keeps i b s)

@[simp] theorem limitersOk_stationCapture (st : StationId) (b : Block) :
    limitersOk (stationCapture st b s) ↔ limitersOk s := by simp [stationCapture]

@[simp] theorem limitersOk_audioCapture (origin : Nat) (payload : List Byte) :
    limitersOk (audioCapture origin payload s) ↔ limitersOk s := by
  unfold audioCapture
  split <;> simp

@[simp] theorem limitersOk_judgeSlot (i : SlotId) : limitersOk (judgeSlot i s) ↔ limitersOk s :=
  limitersOk_of_keeps (judgeSlot_keeps i s)

@[simp] theorem limitersOk_arbitrateFlash : limitersOk (arbitrateFlash s) ↔ limitersOk s :=
  limitersOk_of_keeps (arbitrateFlash_keeps s)

@[simp] theorem limitersOk_requestRead (r : Reader) (k : Nat) : limitersOk (requestRead r k s) ↔ limitersOk s :=
  limitersOk_of_keeps (requestRead_keeps r k s)

@[simp] theorem limitersOk_queueWrite (kind : WriteKind) : limitersOk (queueWrite kind s) ↔ limitersOk s := by
  simp [queueWrite]

@[simp] theorem limitersOk_queueDirectory : limitersOk (queueDirectory s) ↔ limitersOk s := by
  unfold queueDirectory
  split <;> simp

@[simp] theorem limitersOk_stopPlayer (p : ChanId) : limitersOk (stopPlayer p s) ↔ limitersOk s :=
  limitersOk_of_keeps (stopPlayer_keeps p s)

@[simp] theorem limitersOk_startPlayer (p : ChanId) (owner : PlayerOwner) (clip : ClipId) :
    limitersOk (startPlayer p owner clip s) ↔ limitersOk s := by simp [startPlayer]

@[simp] theorem limitersOk_fillBuffer (p : ChanId) (sector : Nat) (data : List Byte) :
    limitersOk (fillBuffer p sector data s) ↔ limitersOk s := by simp [fillBuffer]

@[simp] theorem limitersOk_playerWork (p : ChanId) : limitersOk (playerWork p s) ↔ limitersOk s := by
  simp [playerWork, playBlock, enterSector]

@[simp] theorem limitersOk_setClip (c : ClipId) (e : DirEntry) : limitersOk (setClip c e s) ↔ limitersOk s := by
  simp [setClip]

@[simp] theorem limitersOk_writeDone : limitersOk (writeDone s) ↔ limitersOk s := by
  have advanced (w rest u) : limitersOk (advanceWrite w rest u) ↔ limitersOk u := by
    unfold advanceWrite
    dsimp only
    split_ifs
    · split <;> simp
    · simp
  unfold writeDone
  dsimp only
  split <;> simp [advanced]

@[simp] theorem limitersOk_deleteClip (c : ClipId) (e : DirEntry) : limitersOk (deleteClip c e s) ↔ limitersOk s := by
  simp [deleteClip]

/-! #### The outstanding claim file (chapter 6) -/

@[simp] theorem limitersOk_sendClaim (dest : Nat) (payload : List Byte) :
    limitersOk (sendClaim dest payload s) ↔ limitersOk s := limitersOk_originate s ..

@[simp] theorem limitersOk_sendAnswer (origin tag answered : Nat) (code : AnswerCode) (granted requested : Nat) :
    limitersOk (sendAnswer origin tag answered code granted requested s) ↔ limitersOk s := limitersOk_originate s ..

@[simp] theorem limitersOk_setEntry (t : TagId) (e : Option OutEntry) : limitersOk (setEntry t e s) ↔ limitersOk s := .rfl

@[simp] theorem limitersOk_freeEntry (t : TagId) : limitersOk (freeEntry t s) ↔ limitersOk s := by
  unfold freeEntry
  split
  · rfl
  · split <;> rfl

@[simp] theorem limitersOk_releasePeers (c : ClaimId) : limitersOk (releasePeers c s) ↔ limitersOk s :=
  limitersOk_of_keeps (releasePeers_keeps c s)

@[simp] theorem limitersOk_commitEntry (t : TagId) : limitersOk (commitEntry t s) ↔ limitersOk s := by
  unfold commitEntry
  split <;> simp [sendCommit, renewEntry]

@[simp] theorem limitersOk_takeEntry (c : ClaimId) (k : Option TxId) (p : PeerRef) :
    limitersOk (takeEntry c k p s) ↔ limitersOk s := by
  unfold takeEntry
  split <;> rfl

@[simp] theorem limitersOk_sendReserve (cl : Claim) (ref : Nat × Nat × Nat) (t : TagId) :
    limitersOk (sendReserve cl ref t s) ↔ limitersOk s := by
  unfold sendReserve
  split <;> simp

@[simp] theorem limitersOk_handOnPeers (c : ClaimId) (cl : Claim) (peers : List PeerRef) :
    limitersOk (handOnPeers c cl peers s) ↔ limitersOk s := by
  unfold handOnPeers
  cases handOnChannel s cl.slot <;> simp

/-! #### Zone claims (chapter 5) -/

@[simp] theorem limitersOk_reportUnless (quiet : Bool) (kind : ReportKind) (subject value : Nat) :
    limitersOk (reportUnless quiet kind subject value s) ↔ limitersOk s := by simp [reportUnless]

@[simp] theorem limitersOk_noteZone (quiet : Bool) (z : ZoneId) : limitersOk (noteZone quiet z s) ↔ limitersOk s :=
  limitersOk_of_keeps (noteZone_keeps quiet z s)

@[simp] theorem limitersOk_removeEntry (quiet : Bool) (c : ClaimId) (z : ZoneId) :
    limitersOk (removeEntry quiet c z s) ↔ limitersOk s := limitersOk_of_keeps (removeEntry_keeps quiet c z s)

@[simp] theorem limitersOk_setList (z : ZoneId) (l : List ListEntry) : limitersOk (setList z l s) ↔ limitersOk s := .rfl
@[simp] theorem limitersOk_modClaim (c : ClaimId) (f : Claim → Claim) : limitersOk (modClaim c f s) ↔ limitersOk s := .rfl
@[simp] theorem limitersOk_modStation (st : StationId) (f : Station → Station) :
    limitersOk (modStation st f s) ↔ limitersOk s := .rfl
@[simp] theorem limitersOk_modChannel (ch : ChanId) (f : Channel → Channel) :
    limitersOk (modChannel ch f s) ↔ limitersOk s := .rfl
@[simp] theorem limitersOk_mapMember (st : StationId) (f : MemberState → MemberState) :
    limitersOk (mapMember st f s) ↔ limitersOk s := .rfl
@[simp] theorem limitersOk_flashKey (st : StationId) (k : KeyId) : limitersOk (flashKey st k s) ↔ limitersOk s := .rfl

@[simp] theorem limitersOk_flashPage (st : StationId) (c : ClaimId) : limitersOk (flashPage st c s) ↔ limitersOk s :=
  limitersOk_of_keeps (flashPage_keeps st c s)

@[simp] theorem limitersOk_releaseSlot (c : ClaimId) (cl : Claim) (reason : EndReason) :
    limitersOk (releaseSlot c cl reason s) ↔ limitersOk s := limitersOk_of_keeps (releaseSlot_keeps c cl reason s)

@[simp] theorem limitersOk_tellOwner (c : ClaimId) (cl : Claim) (reason : EndReason) :
    limitersOk (tellOwner c cl reason s) ↔ limitersOk s := by
  unfold tellOwner
  split <;> simp [tellStation, tellOrigin]

@[simp] theorem limitersOk_endClaim (reason : EndReason) (c : ClaimId) : limitersOk (endClaim reason c s) ↔ limitersOk s := by
  unfold endClaim
  split <;> simp

@[simp] theorem limitersOk_loseEntry (c : ClaimId) : limitersOk (loseEntry c s) ↔ limitersOk s :=
  limitersOk_of_keeps (loseEntry_parts c s)

@[simp] theorem limitersOk_insertEntry (c : ClaimId) (live : Bool) (z : ZoneId) :
    limitersOk (insertEntry c live z s) ↔ limitersOk s := by
  unfold insertEntry
  dsimp only
  split
  · rfl
  · split_ifs
    · simp
    · split <;> simp

@[simp] theorem limitersOk_disableZone (z : ZoneId) : limitersOk (disableZone z s) ↔ limitersOk s :=
  limitersOk_of_keeps (disableZone_parts z s)

@[simp] theorem limitersOk_commitZone (c : ClaimId) (z : ZoneId) : limitersOk (commitZone c z s) ↔ limitersOk s := by
  simp [commitZone]

@[simp] theorem limitersOk_commitDone (c : ClaimId) (cl : Claim) : limitersOk (commitDone c cl s) ↔ limitersOk s := by
  unfold commitDone startPlayback commitPeers
  dsimp only
  split <;> simp

@[simp] theorem limitersOk_tellPartial (c : ClaimId) (cl : Claim) : limitersOk (tellPartial c cl s) ↔ limitersOk s := by
  unfold tellPartial
  split <;> simp

@[simp] theorem limitersOk_commitTest (c : ClaimId) : limitersOk (commitTest c s) ↔ limitersOk s := by
  unfold commitTest
  split
  · rfl
  · split <;> simp [commitAll, commitBest, commitRefused, reportPartial]

@[simp] theorem limitersOk_commitDue (c : ClaimId) : limitersOk (commitDue c s) ↔ limitersOk s := by
  unfold commitDue
  split <;> simp

@[simp] theorem limitersOk_peerSettled (c : ClaimId) : limitersOk (peerSettled c s) ↔ limitersOk s := by
  unfold peerSettled
  split <;> simp

@[simp] theorem limitersOk_offerRequest (r : Request) : limitersOk (offerRequest r s) ↔ limitersOk s := by
  simp [offerRequest]

@[simp] theorem limitersOk_withdrawRequest (o : Owner) : limitersOk (withdrawRequest o s) ↔ limitersOk s := .rfl

@[simp] theorem limitersOk_createClaim (c : ClaimId) (cl : Claim) : limitersOk (createClaim c cl s) ↔ limitersOk s := by
  have told (u) : limitersOk (tellCreated c cl u) ↔ limitersOk u := by
    unfold tellCreated
    split
    · rfl
    · split <;> rfl
    · rfl
    · rfl
  simp [createClaim, restartChime, told]

@[simp] theorem limitersOk_handOnClaim (c : ClaimId) (cl : Claim) (peers : List PeerRef) :
    limitersOk (handOnClaim c cl peers s) ↔ limitersOk s := by
  unfold handOnClaim
  dsimp only
  split <;> simp

@[simp] theorem limitersOk_carryOut (c : ClaimId) (cl : Claim) (peers : List PeerRef) :
    limitersOk (carryOut c cl peers s).2 ↔ limitersOk s := by
  unfold carryOut
  dsimp only
  split_ifs <;> simp

@[simp] theorem limitersOk_startClaim (r : StartRequest) : limitersOk (startClaim r s).2 ↔ limitersOk s := by
  unfold startClaim startBusy
  split
  · simp
  · split
    · simp
    · dsimp only
      split_ifs <;> simp

@[simp] theorem limitersOk_gainZones (ch : ChanId) (c : ClaimId) (zs : ZoneSet) :
    limitersOk (gainZones ch c zs s) ↔ limitersOk s := by simp [gainZones]

/-! #### The peer unit (chapter 6) -/

@[simp] theorem limitersOk_lateFailure (c : ClaimId) : limitersOk (lateFailure c s) ↔ limitersOk s := by
  unfold lateFailure
  split <;> simp [reportPartial]

@[simp] theorem limitersOk_failEntry (t : TagId) (e : OutEntry) : limitersOk (failEntry t e s) ↔ limitersOk s := by
  simp [failEntry]

@[simp] theorem limitersOk_entryReserved (t : TagId) (e : OutEntry) : limitersOk (entryReserved t e s) ↔ limitersOk s := by
  unfold entryReserved
  dsimp only
  split <;> simp

@[simp] theorem limitersOk_takeAnswer (a : Answer) : limitersOk (takeAnswer a s) ↔ limitersOk s := by
  unfold takeAnswer
  split <;> simp [answerFor, releaseAnswered, unsolicitedAnswer, reserveAnswered, commitAnswered]

@[simp] theorem limitersOk_peerTimeout (t : TagId) (e : OutEntry) : limitersOk (peerTimeout t e s) ↔ limitersOk s := by
  simp [peerTimeout, sendRelease]

@[simp] theorem limitersOk_clearService : limitersOk (clearService s) ↔ limitersOk s := .rfl

@[simp] theorem limitersOk_abandonService (v : InService) : limitersOk (abandonService v s) ↔ limitersOk s := .rfl

@[simp] theorem limitersOk_answerReserve (v : InService) (o : Started) : limitersOk (answerReserve v o s) ↔ limitersOk s := by
  have created (r c u) : limitersOk (answerCreated r c u) ↔ limitersOk u := by
    unfold answerCreated
    split <;> simp
  unfold answerReserve
  split <;> simp [created]

@[simp] theorem limitersOk_serveReserve (r : InReserve) : limitersOk (serveReserve r s) ↔ limitersOk s := by
  unfold serveReserve
  split
  · simp
  · split <;> simp [requestInbound]

@[simp] theorem limitersOk_endReused (r : InReserve) : limitersOk (endReused r s) ↔ limitersOk s := by
  unfold endReused
  split <;> simp

@[simp] theorem limitersOk_serveNext : limitersOk (serveNext s) ↔ limitersOk s := by
  unfold serveNext
  split <;> simp

@[simp] theorem limitersOk_takeCommit (origin tag : Nat) : limitersOk (takeCommit origin tag s) ↔ limitersOk s := by
  have committed (c cl) : limitersOk (commitInbound origin tag c cl s) ↔ limitersOk s := by
    unfold commitInbound
    dsimp only
    split <;> simp [answerLive]
  unfold takeCommit
  split
  · simp
  · split <;> simp [answerLive, committed]

@[simp] theorem limitersOk_takeRelease (origin tag : Nat) : limitersOk (takeRelease origin tag s) ↔ limitersOk s := by
  have released : limitersOk (releaseInbound origin tag s) ↔ limitersOk s := by
    unfold releaseInbound
    split <;> simp
  unfold takeRelease
  split <;> simp [released]

@[simp] theorem limitersOk_takeClaimFrame (origin dest : Nat) (payload : List Byte) :
    limitersOk (takeClaimFrame origin dest payload s) ↔ limitersOk s := by
  unfold takeClaimFrame
  split_ifs
  · simp
  · split <;> simp [enqueueReserve]

@[simp] theorem limitersOk_loseDynamic (i : SlotId) : limitersOk (loseDynamic i s) ↔ limitersOk s := by
  unfold loseDynamic loseDynamic.endOnSlot
  split <;> simp

end
end Sys2Proof.Machine
end

section
namespace Sys2Proof.Machine

section
variable (s : State)

/-! #### The alarm sequencer (chapter 8) -/

@[simp] theorem limitersOk_modEntry (p : ProgramId) (f : AlarmEntry → AlarmEntry) :
    limitersOk (modEntry p f s) ↔ limitersOk s := .rfl
@[simp] theorem limitersOk_removeAlarm (p : ProgramId) : limitersOk (removeAlarm p s) ↔ limitersOk s := .rfl

@[simp] theorem limitersOk_rewriteSlot (ch : ChanId) : limitersOk (rewriteSlot ch s) ↔ limitersOk s := by
  unfold rewriteSlot
  split <;> rfl

@[simp] theorem limitersOk_takePlayer (p : ChanId) : limitersOk (takePlayer p s) ↔ limitersOk s := by
  have withdrawn : limitersOk (takePlayer.withdrawPlayback p s) ↔ limitersOk s := by
    unfold takePlayer.withdrawPlayback
    split <;> simp
  unfold takePlayer
  split <;> simp [withdrawn]

@[simp] theorem limitersOk_skipClip (ch : ChanId) (n : ClipId) : limitersOk (skipClip ch n s) ↔ limitersOk s := by
  unfold skipClip
  split <;> simp

/-- The steps that a channel passes as it enters one leave the limiters alone. -/
@[simp] theorem limitersOk_enterStep (ch : ChanId) (budget k : Nat) :
    limitersOk (enterStep ch budget k s).2 ↔ limitersOk s := by
  induction budget generalizing k s with
  | zero =>
    unfold enterStep
    dsimp only
    split
    · simp [standAt]
    · simp [standAt]
    · split <;> simp [standAt, stallAt]
    · simp [stallAt]
    · simp [stallAt]
  | succ b ih =>
    unfold enterStep
    dsimp only
    split
    · simp [standAt]
    · simp [standAt]
    · split <;> simp [standAt, ih]
    · simp [setRepeat, ih]
    · rfl

@[simp] theorem limitersOk_offerStart (ch : ChanId) : limitersOk (offerStart ch s) ↔ limitersOk s := by simp [offerStart]

@[simp] theorem limitersOk_offerGain (ch : ChanId) (c : ClaimId) (zs : ZoneSet) :
    limitersOk (offerGain ch c zs s) ↔ limitersOk s := by simp [offerGain]

@[simp] theorem limitersOk_addZones (ch : ChanId) (zs : ZoneSet) : limitersOk (addZones ch zs s) ↔ limitersOk s := by
  unfold addZones
  split_ifs
  · simp
  · split <;> simp

@[simp] theorem limitersOk_requestAnswered (ch : ChanId) : limitersOk (requestAnswered ch s) ↔ limitersOk s := by
  unfold requestAnswered
  dsimp only
  split_ifs
  · simp
  · split <;> simp

@[simp] theorem limitersOk_stopChannel (ch : ChanId) (reason : EndReason) :
    limitersOk (stopChannel ch reason s) ↔ limitersOk s := by
  unfold stopChannel
  cases (channelOf s ch).claim <;> simp

@[simp] theorem limitersOk_completeProgram (ch : ChanId) : limitersOk (completeProgram ch s) ↔ limitersOk s := by
  unfold completeProgram
  split <;> simp

@[simp] theorem limitersOk_beginWithin (budget : Nat) (p : ProgramId) (ch : ChanId) :
    limitersOk (beginWithin budget p ch s).2 ↔ limitersOk s := by
  unfold beginWithin
  dsimp only
  split <;> simp

@[simp] theorem limitersOk_handOn (n : Nat) (used : Option (ChanId × Nat)) : limitersOk (handOn n used s) ↔ limitersOk s := by
  induction n generalizing used s with
  | zero => rfl
  | succ n ih =>
    unfold handOn
    split
    · simp [ih]
    · rfl

@[simp] theorem limitersOk_refuseAlarm (p : ProgramId) (r : AlarmRefusal) :
    limitersOk (refuseAlarm p r s).2 ↔ limitersOk s := by simp [refuseAlarm]

@[simp] theorem limitersOk_retrigger (p : ProgramId) (e : AlarmEntry) (zs : ZoneSet) :
    limitersOk (retrigger p e zs s) ↔ limitersOk s := by
  unfold retrigger
  cases e.channel <;> simp

@[simp] theorem limitersOk_discardAlarm (e : AlarmEntry) : limitersOk (discardAlarm e s) ↔ limitersOk s := by
  unfold discardAlarm
  cases e.channel <;> simp

@[simp] theorem limitersOk_tryPreempt (p : ProgramId) : limitersOk (tryPreempt p s) ↔ limitersOk s := by
  have preempted (old ch) : limitersOk (preempt p old ch s) ↔ limitersOk s := by simp [preempt, channelHandOn, beginToRun]
  unfold tryPreempt
  split_ifs
  · split
    · split <;> simp [preempted]
    · rfl
  · rfl

@[simp] theorem limitersOk_insertEntryOf (p : ProgramId) (zs : ZoneSet) (before : List ProgramId) :
    limitersOk (insertEntryOf p zs before s) ↔ limitersOk s := by simp [insertEntryOf, reportWaiting, channelHandOn]

@[simp] theorem limitersOk_newAlarm (p : ProgramId) (zs : ZoneSet) : limitersOk (newAlarm p zs s).2 ↔ limitersOk s := by
  unfold newAlarm
  dsimp only
  split_ifs
  · simp
  · split
    · split_ifs <;> simp
    · simp

@[simp] theorem limitersOk_startAlarm (p : ProgramId) (g : Nat) : limitersOk (startAlarm p g s).2 ↔ limitersOk s := by
  unfold startAlarm
  dsimp only
  split
  · simp
  · split
    · simp
    · split <;> simp

@[simp] theorem limitersOk_stopAlarm (p : ProgramId) : limitersOk (stopAlarm p s).2 ↔ limitersOk s := by
  unfold stopAlarm
  split
  · simp
  · next e _ => cases e.channel <;> simp [channelHandOn]

@[simp] theorem limitersOk_enableZone (z : ZoneId) : limitersOk (enableZone z s) ↔ limitersOk s :=
  limitersOk_forEach s _ fun e u => by split <;> simp

@[simp] theorem limitersOk_takeAlarmFrame (origin : Nat) (payload : List Byte) :
    limitersOk (takeAlarmFrame origin payload s) ↔ limitersOk s := by
  have acted (p u) : limitersOk (patternAct origin p u) ↔ limitersOk u := by
    unfold patternAct
    dsimp only
    split <;> simp
  simp [takeAlarmFrame, acted]

/-! #### The intercom controller (chapter 7) -/

@[simp] theorem limitersOk_setRinger (b : Bool) (st : StationId) : limitersOk (setRinger b st s) ↔ limitersOk s := .rfl
@[simp] theorem limitersOk_setCall (i : CallId) (c : Option Call) : limitersOk (setCall i c s) ↔ limitersOk s := .rfl
@[simp] theorem limitersOk_removeMember (i : CallId) (c : Call) (st : StationId) :
    limitersOk (removeMember i c st s) ↔ limitersOk s := .rfl
@[simp] theorem limitersOk_ignoreKey : limitersOk (ignoreKey s) ↔ limitersOk s := .rfl
@[simp] theorem limitersOk_setPage (st : StationId) (p : Option Page) : limitersOk (setPage st p s) ↔ limitersOk s := .rfl

@[simp] theorem limitersOk_pollNext (st : StationId) : limitersOk (pollNext st s) ↔ limitersOk s := by
  unfold pollNext
  split <;> rfl

@[simp] theorem limitersOk_endCall (reason : CallReason) (i : CallId) : limitersOk (endCall reason i s) ↔ limitersOk s := by
  unfold endCall
  split <;> simp

@[simp] theorem limitersOk_refuseKey (st : StationId) (k : KeyId) (r : KeyRefusal) :
    limitersOk (refuseKey st k r s) ↔ limitersOk s := by simp [refuseKey]

@[simp] theorem limitersOk_callKey (a : StationId) (k : KeyId) (b : StationId) :
    limitersOk (callKey a k b s) ↔ limitersOk s := by
  unfold callKey
  split_ifs
  · simp
  · simp
  · split <;> simp

@[simp] theorem limitersOk_answerKey (b : StationId) : limitersOk (answerKey b s) ↔ limitersOk s := by
  unfold answerKey
  split <;> simp

@[simp] theorem limitersOk_endKey (st : StationId) : limitersOk (endKey st s) ↔ limitersOk s := by
  unfold endKey
  split
  · simp
  · split <;> simp

@[simp] theorem limitersOk_joinKey (st : StationId) (k : KeyId) (n : Nat) : limitersOk (joinKey st k n s) ↔ limitersOk s := by
  unfold joinKey
  split_ifs
  · simp
  · split
    · simp
    · split <;> simp

@[simp] theorem limitersOk_pageKey (st : StationId) (k : KeyId) (group priority : Nat) (mode : ClaimMode) (policy : Policy)
    (chime latch : Bool) : limitersOk (pageKey st k group priority mode policy chime latch s) ↔ limitersOk s := by
  simp [pageKey]

@[simp] theorem limitersOk_endPage (st : StationId) (reason : EndReason) : limitersOk (endPage st reason s) ↔ limitersOk s := by
  unfold endPage
  split
  · rfl
  · dsimp only
    split <;> simp

@[simp] theorem limitersOk_pageRefused (st : StationId) : limitersOk (pageRefused st s) ↔ limitersOk s := by
  unfold pageRefused
  split <;> simp

@[simp] theorem limitersOk_alarmKey {f : State → Option AlarmRefusal × State} (st : StationId) (k : KeyId)
    (h : limitersOk (f s).2 ↔ limitersOk s) : limitersOk (alarmKey st k f s) ↔ limitersOk s := by
  unfold alarmKey alarmKeyDone
  split_ifs
  · split <;> simp [h]
  · simp

@[simp] theorem limitersOk_pressFunction (st : StationId) (k : KeyId) : limitersOk (pressFunction st k s) ↔ limitersOk s := by
  unfold pressFunction
  split <;> simp

@[simp] theorem limitersOk_takeAnswerOfPoll (st : StationId) (keys : Vector Bool 8) :
    limitersOk (takeAnswerOfPoll st keys s) ↔ limitersOk s := by
  simp [takeAnswerOfPoll, debounceKey, pressKey, releaseKey]

@[simp] theorem limitersOk_takeMiss (st : StationId) : limitersOk (takeMiss st s) ↔ limitersOk s := by
  simp [takeMiss, dropPending]

@[simp] theorem limitersOk_becomeAbsent (st : StationId) : limitersOk (becomeAbsent st s) ↔ limitersOk s := by
  have left (u) : limitersOk (leaveCall st u) ↔ limitersOk u := by
    unfold leaveCall
    split
    · rfl
    · dsimp only
      split <;> simp
  simp [becomeAbsent, left]

/-! #### The line supervisor (chapter 10) -/

@[simp] theorem limitersOk_modLane (l : LaneId) (f : Lane → Lane) : limitersOk (modLane l f s) ↔ limitersOk s := .rfl
@[simp] theorem limitersOk_modRecord (l : LaneId) (f : LaneRecord → LaneRecord) :
    limitersOk (modRecord l f s) ↔ limitersOk s := .rfl

@[simp] theorem limitersOk_lineStage1 : limitersOk (lineStage1 s) ↔ limitersOk s := limitersOk_of_keeps (lineStage1_keeps s)

@[simp] theorem limitersOk_setLineState (l : LaneId) (v : LineState) : limitersOk (setLineState l v s) ↔ limitersOk s := by
  simp [setLineState]

@[simp] theorem limitersOk_setOvertemp (l : LaneId) (b : Bool) : limitersOk (setOvertemp l b s) ↔ limitersOk s := by
  simp [setOvertemp]

@[simp] theorem limitersOk_closeLane (l : LaneId) : limitersOk (closeLane l s) ↔ limitersOk s := by
  simp [closeLane, judgeLane]

@[simp] theorem limitersOk_closeWindow : limitersOk (closeWindow s) ↔ limitersOk s := by simp [closeWindow]

@[simp] theorem limitersOk_changeSupervision (z : ZoneId) (old new : Bool) :
    limitersOk (changeSupervision z old new s) ↔ limitersOk s := limitersOk_of_keeps (changeSupervision_keeps z old new s)

/-! #### The scene unit (chapter 4) -/

/-- A fade writes no more of a zone record than its master code. -/
@[simp] theorem limitersOk_setTarget (x : FadeTarget) (c : Code) : limitersOk (setTarget x c s) ↔ limitersOk s := by
  cases x with
  | crosspoint z i => rfl
  | master z =>
    have same : zonesOk (tmod s.mix.zones z fun r => { r with cfg := { r.cfg with master := c } }) ↔ zonesOk s.mix.zones :=
      forall_congr' fun y => by rw [tget_tmod]; split <;> rfl
    exact and_congr_left fun _ => same

@[simp] theorem limitersOk_dropFade (x : FadeTarget) : limitersOk (dropFade x s) ↔ limitersOk s := .rfl

@[simp] theorem limitersOk_cancelFade (x : FadeTarget) : limitersOk (cancelFade x s) ↔ limitersOk s := by simp [cancelFade]

@[simp] theorem limitersOk_exchangeBanks : limitersOk (exchangeBanks s) ↔ limitersOk s := by simp [exchangeBanks]

@[simp] theorem limitersOk_finishFade (x : FadeTarget) : limitersOk (finishFade x s) ↔ limitersOk s := by
  unfold finishFade
  split <;> simp [completeFade]

@[simp] theorem limitersOk_fireCue : limitersOk (fireCue s) ↔ limitersOk s := by
  have moved (x goal n u) : limitersOk (moveTarget x goal n u) ↔ limitersOk u := by simp [moveTarget, setAtOnce, beginFade]
  have acted (e u) : limitersOk (cueAct e u) ↔ limitersOk u := by
    unfold cueAct
    split <;> simp [moved]
  unfold fireCue
  split <;> simp [acted]

@[simp] theorem limitersOk_sceneStages : limitersOk (sceneStages s).2 ↔ limitersOk s := by
  have held : limitersOk (evaluateHold s) ↔ limitersOk s := limitersOk_of_keeps (evaluateHold_keeps s)
  simp [sceneStages, stepFades, stepFade, held]

/-! #### The interpreter (chapter 11) -/

@[simp] theorem limitersOk_advance : limitersOk (advance s) ↔ limitersOk s := .rfl

@[simp] theorem limitersOk_takeControlFrame (origin : Nat) (payload : List Byte) :
    limitersOk (takeControlFrame origin payload s) ↔ limitersOk s := by
  have restarted (u) : limitersOk (restartTimer u) ↔ limitersOk u := by simp [restartTimer]
  simp [takeControlFrame, restarted]

@[simp] theorem limitersOk_readAll (clear : Bool) (n room : Nat) (acc : List ReadEntry) :
    limitersOk (readAll clear n room acc s).2 ↔ limitersOk s := by
  induction n generalizing room acc s with
  | zero => rfl
  | succ n ih =>
    unfold readAll
    dsimp only
    split_ifs <;> simp [ih, clearRead]

@[simp] theorem limitersOk_readEntries (n : Nat) (clear : Bool) : limitersOk (readEntries n clear s).2 ↔ limitersOk s := by
  unfold readEntries
  dsimp only
  split_ifs <;> simp

@[simp] theorem limitersOk_loadDirectory (a b : List Byte) : limitersOk (loadDirectory a b s) ↔ limitersOk s := by
  have entries (l taken) (u : State) : limitersOk (loadEntries l taken u) ↔ limitersOk u := by
    induction l generalizing taken u with
    | nil => rfl
    | cons x rest ih =>
      unfold loadEntries
      split <;> simp [ih]
  have sector (base l u) : limitersOk (sectorEntries base l u).2 ↔ limitersOk u := by
    unfold sectorEntries
    split <;> simp
  simp [loadDirectory, entries, sector]

@[simp] theorem limitersOk_answerManagement (r : StartRequest) (o : Started) :
    limitersOk (answerManagement r o s) ↔ limitersOk s := by
  unfold answerManagement
  split
  · dsimp only
    split
    · split <;> simp
    · simp
  · simp
  · simp

@[simp] theorem limitersOk_offerManagement (q : StartRequest) : limitersOk (offerManagement q s) ↔ limitersOk s := by
  simp [offerManagement, awaitAnswer]

@[simp] theorem limitersOk_answerStart (r : StartRequest) (o : Started) : limitersOk (answerStart r o s) ↔ limitersOk s := by
  unfold answerStart
  split
  · split <;> simp
  · simp
  · simp
  · split <;> simp

@[simp] theorem limitersOk_takeRequest : limitersOk (takeRequest s) ↔ limitersOk s := by
  unfold takeRequest
  split <;> simp

@[simp] theorem limitersOk_alarmDone (r : Option AlarmRefusal × State) : limitersOk (alarmDone r) ↔ limitersOk r.2 := by
  unfold alarmDone
  split <;> simp

end
end Sys2Proof.Machine
end

section
namespace Sys2Proof.Machine

/-! ### The limiter's gain, and the handing over of a zone block (R43, R50, R51, R53) -/

theorem targetGain_bounds (limit peak : Nat) : 1 ≤ targetGain limit peak ∧ targetGain limit peak ≤ 32768 := by
  unfold targetGain
  split_ifs with loud
  · decide
  · have below : limit * 32768 / peak ≤ 32768 := Nat.div_le_of_le_mul (Nat.mul_le_mul_right _ (by omega))
    omega

theorem nextGain_bounds {gain target : Nat} (release : Nat) (low : 1 ≤ gain) (ok : 1 ≤ target ∧ target ≤ 32768) :
    1 ≤ nextGain gain target release ∧ nextGain gain target release ≤ 32768 := by
  unfold nextGain
  split_ifs <;> omega

theorem nextGain_of_lt {gain target : Nat} (release : Nat) (h : target < gain) : nextGain gain target release = target :=
  if_pos h

theorem nextGain_of_le {gain target : Nat} (release : Nat) (h : gain ≤ target) :
    nextGain gain target release = min target (gain + release) := if_neg (by omega)

theorem formZone_of_enabled {v : MixView} {z : ZoneId} (h : (tget v.zones z).cfg.enabled = true) : formZone v z =
    { block := limiterBlock (tget v.zones z).cfg.limiter (tget v.zones z).gain (masterBlock v z)
      clipped := isClipped (tget v.zones z).cfg.limiter (tget v.zones z).gain (masterBlock v z)
      attack := decide (targetGain (tget v.zones z).cfg.limiter (peakOf (masterBlock v z)) < (tget v.zones z).gain)
      gain := nextGain (tget v.zones z).gain (targetGain (tget v.zones z).cfg.limiter (peakOf (masterBlock v z)))
        (tget v.zones z).cfg.release } := if_pos h

theorem formZone_of_disabled {v : MixView} {z : ZoneId} (h : (tget v.zones z).cfg.enabled = false) : formZone v z =
    ⟨silence, false, false, nextGain (tget v.zones z).gain 32768 (tget v.zones z).cfg.release⟩ := by simp [formZone, h]

/-- The limiter gain after a block lies in its range where the one before it does (R51). -/
theorem formZone_gain_bounds {v : MixView} (z : ZoneId) (low : 1 ≤ (tget v.zones z).gain) :
    1 ≤ (formZone v z).gain ∧ (formZone v z).gain ≤ 32768 := by
  cases h : (tget v.zones z).cfg.enabled
  · rw [formZone_of_disabled h]
    exact nextGain_bounds _ low (by decide)
  · rw [formZone_of_enabled h]
    exact nextGain_bounds _ low (targetGain_bounds _ _)

theorem deliverZone_mix (z : ZoneId) (x : Formed) (s : State) : (deliverZone z x s).mix = { s.mix with
    zoneOut := tset s.mix.zoneOut z x.block, zones := tset s.mix.zones z { tget s.mix.zones z with gain := x.gain } } := by
  unfold deliverZone
  split_ifs <;> rfl

theorem deliverZone_keeps (z : ZoneId) (x : Formed) (s : State) : keepsBut [.mix, .counters] s (deliverZone z x s) := by
  have delivered : keepsBut [.mix, .counters] s (modMix (fun m => { m with zoneOut := tset m.zoneOut z x.block })
      (modZone z (fun r => { r with gain := x.gain }) s)) :=
    keepsBut_mono (by simp) (keepsBut_trans (modZone_keeps z _ s) (keepsBut_modMix _ _))
  have counted (c : Counter) (t : State) : keepsBut [.mix, .counters] t (count c t) := keepsBut_mono (by simp) (count_keeps c t)
  unfold deliverZone
  dsimp only
  split_ifs
  · exact keepsBut_trans delivered (keepsBut_trans (counted _ _) (counted _ _))
  · exact keepsBut_trans delivered (counted _ _)
  · exact keepsBut_trans delivered (counted _ _)
  · exact delivered

end Sys2Proof.Machine
end

section
namespace Sys2Proof.Machine

/-! ### What changes the limiters within their bounds (R36, R37, R51) -/

/-- The limiter threshold and the release step of a ZONE entry lie in their ranges (R36). -/
def limitsInRange (e : ZoneEntry) : Prop := 1 ≤ e.limiter ∧ e.limiter ≤ 8388607 ∧ 1 ≤ e.release ∧ e.release ≤ 4096

theorem zonesOk_iff (zones : Vector Zone 24) : zonesOk zones ↔
    ∀ z, (1 ≤ (tget zones z).gain ∧ (tget zones z).gain ≤ 32768) ∧ limitsInRange (tget zones z).cfg :=
  forall_congr' fun _ => (and_assoc (b := _ ≤ 32768)).symm

theorem limitersOk.zones {s : State} (h : limitersOk s) (z : ZoneId) :
    (1 ≤ (tget s.mix.zones z).gain ∧ (tget s.mix.zones z).gain ≤ 32768) ∧ limitsInRange (tget s.mix.zones z).cfg :=
  (zonesOk_iff _).mp h.1 z

theorem clampRange_bounds {lo hi : Nat} (n : Nat) (h : lo ≤ hi) : lo ≤ clampRange lo hi n ∧ clampRange lo hi n ≤ hi := by
  unfold clampRange
  omega

/-- A ZONE entry as it is taken has its limiter threshold and its release step in range (R37). -/
theorem limitsInRange_clampZone (e : ZoneEntry) : limitsInRange (clampZone e) :=
  have limiter := clampRange_bounds (lo := 1) (hi := 8388607) e.limiter (by decide)
  have release := clampRange_bounds (lo := 1) (hi := 4096) e.release (by decide)
  ⟨limiter.1, limiter.2, release.1, release.2⟩

/-- A named field of a ZONE entry is written within its range (R37, R194). -/
theorem setField_zone {e : ZoneEntry} {f : Field} {x : Entry} (h : setField (.zone e) f = some x) (ok : limitsInRange e) :
    ∃ d, x = .zone d ∧ limitsInRange d := by
  obtain ⟨threshold, threshold', step, step'⟩ := ok
  cases f
  case zoneLimiter n =>
    have limiter := clampRange_bounds (lo := 1) (hi := 8388607) n (by decide)
    exact ⟨_, (Option.some.inj h).symm, limiter.1, limiter.2, step, step'⟩
  case zoneRelease n =>
    have release := clampRange_bounds (lo := 1) (hi := 4096) n (by decide)
    exact ⟨_, (Option.some.inj h).symm, threshold, threshold', release.1, release.2⟩
  all_goals first
    | exact ⟨_, (Option.some.inj h).symm, threshold, threshold', step, step'⟩
    | cases h

theorem setFields_zone {e : ZoneEntry} {l : List Field} {x : Entry} (h : setFields (.zone e) l = some x)
    (ok : limitsInRange e) : ∃ d, x = .zone d ∧ limitsInRange d := by
  induction l generalizing e with
  | nil => exact ⟨e, (Option.some.inj h).symm, ok⟩
  | cons f fs ih =>
    unfold setFields at h
    split at h
    · next y written =>
      obtain ⟨d, rfl, ok'⟩ := setField_zone written ok
      exact ih h ok'
    · cases h

section
variable {s : State} (h : limitersOk s)
include h

/-- A record written whose limits and gain are in range leaves them all in range. -/
theorem limitersOk_of_zones {t : State} (boundary : t.boundary = s.boundary)
    (zones : ∀ z, (1 ≤ (tget t.mix.zones z).gain ∧ (tget t.mix.zones z).gain ≤ 32768) ∧
      limitsInRange (tget t.mix.zones z).cfg) : limitersOk t :=
  ⟨(zonesOk_iff _).mpr zones, by rw [boundary]; exact h.2⟩

theorem limitersOk_putZone {z : ZoneId} {master : Bool} {e : ZoneEntry} (ok : limitsInRange e) :
    limitersOk (putZone z master e s) := by
  have recorded : limitersOk (zoneRecorded z master e s) := by
    refine limitersOk_of_zones h (zoneRecorded_keeps z master e s .boundary (by simp)) fun y => ?_
    rw [zoneRecorded_mix, tget_tmod]
    split
    · exact ⟨(h.zones y).1, ok⟩
    · exact h.zones y
  rw [putZone_eq, changeEnabled]
  simp [recorded]

theorem limitersOk_putSource (i : SlotId) (mode : SlotMode) (b : Binding) (cls : SlotClass) (trim : Code) :
    limitersOk (putSource i mode b cls trim s).2 := by
  unfold putSource
  dsimp only
  split
  · exact h
  · simp [h]

theorem limitersOk_putProgram (p : ProgramId) (e : ProgramEntry) : limitersOk (putProgram p e s).2 := by
  unfold putProgram
  split <;> exact h

theorem limitersOk_putEntry (t : TableName) (row column : Nat) (e : Entry) : limitersOk (putEntry t row column e s).2 := by
  unfold putEntry
  split
  · exact limitersOk_putSource h ..
  · exact h
  · exact h
  · exact limitersOk_putZone h (limitsInRange_clampZone _)
  · split <;> exact h
  · exact h
  · exact h
  · exact h
  · exact limitersOk_putProgram h ..
  · exact h
  · exact h
  · exact h

theorem limitersOk_writeEntry (t : TableName) (row column : Nat) (e : Entry) :
    limitersOk (writeEntry t row column e s).2 := by
  unfold writeEntry
  split
  · exact h
  · exact limitersOk_putEntry h ..

theorem limitersOk_putFields {t : TableName} {row column : Nat} {l : List Field} {e : Entry}
    (ok : t = .zone → ∃ d, e = .zone d ∧ limitsInRange d) : limitersOk (putFields t row column l e s).2 := by
  unfold putFields
  split
  · split
    · exact limitersOk_putSource h ..
    · exact h
  · obtain ⟨d, same, ok⟩ := ok rfl
    cases same
    exact limitersOk_putZone h ok
  · exact h
  · exact h
  · exact h
  · exact h
  · exact limitersOk_putProgram h ..
  · exact h
  · exact h
  · exact limitersOk_putEntry h ..

theorem limitersOk_writeNamed (t : TableName) (row column : Nat) (l : List Field) :
    limitersOk (writeNamed t row column l s).2 := by
  unfold writeNamed
  split
  · exact h
  · split
    · exact h
    · next e written =>
      split
      · exact h
      · refine limitersOk_putFields h fun table => ?_
        subst table
        exact setFields_zone written (h.zones _).2

theorem limitersOk_writeAll (l : List Entry) (w : Written) : limitersOk (writeAll l w s).2 := by
  induction l generalizing w s with
  | nil => exact h
  | cons e es ih =>
    unfold writeAll
    dsimp only
    split
    · exact limitersOk_writeEntry h ..
    · exact ih (s := advance _) (limitersOk_writeEntry h ..) _

theorem limitersOk_compareWrite (compare new : Entry) : limitersOk (compareWrite compare new s).2.2 := by
  unfold compareWrite
  dsimp only
  split
  · exact h
  · split
    · exact h
    · split
      · exact limitersOk_writeEntry h ..
      · exact h

/-- The end of a load writes each zone record, clamped, and no limiter gain (R198). -/
theorem limitersOk_endLoad (reload : Bool) (x : ImageTables) : limitersOk (endLoad reload x s) := by
  have ended := endLoad_ended reload x s
  refine limitersOk_of_zones h (ended.keeps .boundary (by simp)) fun z => ?_
  obtain ⟨-, -, -, -, -, -, zones, -⟩ := ended.installed
  obtain ⟨cfg, gain⟩ := zones z
  rw [cfg, gain]
  exact ⟨(h.zones z).1, limitsInRange_clampZone _⟩

theorem limitersOk_imageRead (l : Load) : limitersOk (imageRead l s) := by
  unfold imageRead
  cases judgeImage l.image with
  | error v =>
    dsimp only
    split
    · simp [h]
    · exact limitersOk_endLoad (by simp [h]) ..
  | ok x =>
    dsimp only
    split
    · simp [h]
    · exact limitersOk_endLoad h ..

theorem limitersOk_deliverRead (r : Reader) (data : List Byte) : limitersOk (deliverRead r data s) := by
  unfold deliverRead
  split
  · simp [h]
  · unfold imageSector
    split
    · exact h
    · dsimp only
      split
      · exact limitersOk_imageRead h _
      · exact h
  · unfold dirSector
    split
    · exact h
    · split
      · exact h
      · exact limitersOk_endLoad (by simp [h]) ..
  · exact h

/-- A soft reset sets each limiter gain to unity (R57). -/
theorem limitersOk_softResetAll : limitersOk (softResetAll s) := by
  obtain ⟨-, mix, -⟩ := softResetAll_parts s
  obtain ⟨-, -, boundary, -⟩ := softResetAll_rest s
  refine limitersOk_of_zones h boundary fun z => ?_
  rw [mix, tget_tmap]
  exact ⟨(by decide : 1 ≤ 32768 ∧ 32768 ≤ 32768), (h.zones z).2⟩

theorem limitersOk_reloadAll : limitersOk (reloadAll s) := by
  have framed (u) : limitersOk (endFrame u) ↔ limitersOk u := limitersOk_of_keeps (endFrame_facts u).1
  simp [reloadAll, beginLoading, framed, limitersOk_softResetAll h]

theorem limitersOk_deliverZone {z : ZoneId} {x : Formed} (ok : 1 ≤ x.gain ∧ x.gain ≤ 32768) :
    limitersOk (deliverZone z x s) := by
  refine limitersOk_of_zones h (deliverZone_keeps z x s .boundary (by simp)) fun y => ?_
  rw [deliverZone_mix, tget_tset]
  split
  · next same => exact ⟨ok, same ▸ (h.zones z).2⟩
  · exact h.zones y

end
end Sys2Proof.Machine
end

section
namespace Sys2Proof.Machine

/-! ### The limiters through a boundary (R43, R51) -/

section
variable (s : State)

@[simp] theorem limitersOk_addDues (l : List Due) : limitersOk (addDues l s) ↔ limitersOk s := .rfl

/-- What a reader sees at a moment of a boundary has the zone table of that moment. -/
@[simp] theorem limitersOk_dropDue (d : Due) : limitersOk (dropDue d s) ↔ limitersOk s := by
  have seen : (∀ v ∈ s.boundary.seen ++ [mixView s], zonesOk v.zones) ↔
      (∀ v ∈ s.boundary.seen, zonesOk v.zones) ∧ zonesOk s.mix.zones := by
    simp only [List.forall_mem_append, List.forall_mem_singleton]
    rfl
  exact (and_congr_right fun _ => seen).trans ⟨fun h => ⟨h.1, h.2.1⟩, fun h => ⟨h.1, h.2, h.1⟩⟩

@[simp] theorem limitersOk_sceneWork : limitersOk (sceneWork s) ↔ limitersOk s := limitersOk_sceneStages s

@[simp] theorem limitersOk_quietTone (ch : ChanId) : limitersOk (quietTone ch s) ↔ limitersOk s := .rfl

@[simp] theorem limitersOk_workStep (ch : ChanId) : limitersOk (workStep ch s) ↔ limitersOk s := by
  unfold workStep
  dsimp only
  split
  · rfl
  · split
    · split <;> rfl
    · rfl
    · rfl

@[simp] theorem limitersOk_enterAndWork (ch : ChanId) (k : Nat) : limitersOk (enterAndWork ch k s) ↔ limitersOk s := by
  unfold enterAndWork
  dsimp only
  split <;> simp [programEnd]

@[simp] theorem limitersOk_leaveStep (ch : ChanId) : limitersOk (leaveStep ch s) ↔ limitersOk s :=
  limitersOk_enterAndWork s ..

@[simp] theorem limitersOk_channelWork (ch : ChanId) : limitersOk (channelWork ch s) ↔ limitersOk s := by simp [channelWork]

@[simp] theorem limitersOk_chimeWork : limitersOk (chimeWork s) ↔ limitersOk s := limitersOk_of_keeps (chimeWork_keeps s)

@[simp] theorem limitersOk_nextNote : limitersOk (nextNote s) ↔ limitersOk s := by
  unfold nextNote
  split <;> simp [chimeBlock]

@[simp] theorem limitersOk_completePlay (p : ChanId) (channelFirst : Bool) :
    limitersOk (completePlay p channelFirst s) ↔ limitersOk s := by
  unfold completePlay
  dsimp only
  split <;> simp [releasePlayer]

@[simp] theorem limitersOk_dropOrigin (k : OriginIx) : limitersOk (dropOrigin k s) ↔ limitersOk s := by simp [dropOrigin]

@[simp] theorem limitersOk_loseSource (i : SlotId) : limitersOk (loseSource i s) ↔ limitersOk s := by simp [loseSource]

@[simp] theorem limitersOk_timeOut (c : ClaimId) : limitersOk (timeOut c s) ↔ limitersOk s := by
  unfold timeOut
  split <;> simp

@[simp] theorem limitersOk_expireChime (c : ClaimId) : limitersOk (expireChime c s) ↔ limitersOk s := by
  unfold expireChime
  split <;> simp

@[simp] theorem limitersOk_deadlineOf (state : OutState) (t : TagId) : limitersOk (deadlineOf state t s) ↔ limitersOk s := by
  unfold deadlineOf
  split <;> simp

@[simp] theorem limitersOk_beginScan : limitersOk (beginScan s) ↔ limitersOk s := by
  unfold beginScan countScan
  exact (limitersOk_modStation _ _ _).trans ((limitersOk_addDues _ _).trans (limitersOk_modIntercom _ _))

@[simp] theorem limitersOk_ringOut (i : CallId) : limitersOk (ringOut i s) ↔ limitersOk s := by
  unfold ringOut
  split <;> simp

@[simp] theorem limitersOk_flashOut (st : StationId) (k : KeyId) : limitersOk (flashOut st k s) ↔ limitersOk s := by
  simp [flashOut]

@[simp] theorem limitersOk_loseStation (st : StationId) : limitersOk (loseStation st s) ↔ limitersOk s := by
  simp [loseStation]

@[simp] theorem limitersOk_enterStandalone : limitersOk (enterStandalone s) ↔ limitersOk s := by simp [enterStandalone]

@[simp] theorem limitersOk_emitReports : limitersOk (emitReports s) ↔ limitersOk s := by simp [emitReports, sendReports]

/-- A change that a boundary has made due leaves the limiters alone. -/
@[simp] theorem limitersOk_act (d : Due) : limitersOk (act d s) ↔ limitersOk s := by
  cases d <;> simp [act, settleFades]

@[simp] theorem limitersOk_sceneTurn : limitersOk (sceneTurn s) ↔ limitersOk s := by
  have waits : limitersOk (sceneWaits s) ↔ limitersOk s := .rfl
  simp [sceneTurn, waits]

@[simp] theorem limitersOk_passDues : limitersOk (passDues s) ↔ limitersOk s := by
  have carried (d u) : limitersOk (carryDue d u) ↔ limitersOk u := by simp [carryDue]
  exact limitersOk_forEach s _ fun d u => by simp [passDue, sceneTurnWhole, carried]

@[simp] theorem limitersOk_arbitrateSpares (read : ZoneId → MixView) : limitersOk (arbitrateSpares read s) ↔ limitersOk s := by
  have served (l old new u) : limitersOk (reportServed read l old new u) ↔ limitersOk u := by
    unfold reportServed
    cases old <;> cases new <;> simp
  simp [arbitrateSpares, arbitrateSpare, served]

@[simp] theorem limitersOk_fillLanes (read : ZoneId → MixView) : limitersOk (fillLanes read s) ↔ limitersOk s :=
  limitersOk_forEach s _ fun l u => by
    unfold fillLane
    dsimp only
    split <;> simp

@[simp] theorem limitersOk_judgeUnheard (read : ZoneId → MixView) : limitersOk (judgeUnheard read s) ↔ limitersOk s :=
  limitersOk_forEach s _ fun z u => by simp [setUnheard]

@[simp] theorem limitersOk_sendBundle : limitersOk (sendBundle s) ↔ limitersOk s := by simp [sendBundle]

@[simp] theorem limitersOk_setTiming (x : Timing) : limitersOk (setTiming x s) ↔ limitersOk s :=
  limitersOk_of_keeps (setTiming_keeps x s)

end

@[simp] theorem earlyView_zones (early late : MixView) : (earlyView early late).zones = early.zones := by
  unfold earlyView
  rfl

/-- A reader sees a zone table within the limits, at whatever moment of the boundary it reads. -/
theorem zonesOk_viewAt {b : Boundary} {late : MixView} (seen : ∀ v ∈ b.seen, zonesOk v.zones) (last : zonesOk late.zones)
    (m : Option Nat) : zonesOk (viewAt b late m).zones := by
  match m with
  | none => exact last
  | some n =>
    cases found : b.seen[n]? with
    | none =>
      rw [viewAt_unreached late found]
      exact last
    | some v =>
      rw [viewAt_seen late found, earlyView_zones]
      exact seen v (List.mem_of_getElem? found)

section
variable {s : State} (h : limitersOk s)
include h

theorem limitersOk_formZones {b : Boundary} {late : MixView} (seen : ∀ v ∈ b.seen, zonesOk v.zones)
    (last : zonesOk late.zones) : limitersOk (formZones b late s) :=
  forEach_induct limitersOk _ _ (fun z _ _ hu => limitersOk_deliverZone hu
    (formZone_gain_bounds z ((zonesOk_iff _).mp (zonesOk_viewAt seen last _) z).1.1)) s h

/-- The end of a boundary gives each zone the limiter gain after a block, and forgets what its readers saw. -/
theorem limitersOk_closeBoundary : limitersOk (closeBoundary s) := by
  have closed : limitersOk (modBoundary (fun _ => closedBoundary) s) := ⟨h.1, fun v none => by cases none⟩
  have speakers (b late u) : limitersOk (formSpeakers b late u) ↔ limitersOk u := limitersOk_modIntercom u _
  unfold closeBoundary
  dsimp only
  split
  · simp only [limitersOk_sendBundle, speakers, limitersOk_judgeUnheard, limitersOk_fillLanes]
    exact limitersOk_formZones (by simpa using closed) h.2 h.1
  · exact closed

theorem limitersOk_closeIfDone : limitersOk (closeIfDone s) := by
  have turn : limitersOk (sceneTurn s) := (limitersOk_sceneTurn s).mpr h
  unfold closeIfDone
  dsimp only
  split
  · exact limitersOk_closeBoundary turn
  · exact turn

theorem limitersOk_takeDue {d : Due} {f : State → State} (hf : ∀ u, limitersOk (f u) ↔ limitersOk u) :
    limitersOk (takeDue d f s) := by
  unfold takeDue
  split
  · exact limitersOk_closeIfDone (by simp [hf, h])
  · exact h

theorem limitersOk_passAll : limitersOk (passAll s) := limitersOk_closeIfDone (by simp [h])

theorem limitersOk_settle : limitersOk (settle s) := by
  have passed := limitersOk_passAll h
  have admits (u) : limitersOk (admitNext u) ↔ limitersOk u := by
    unfold admitNext
    split
    · exact limitersOk_dropDue u .windowClose
    · rfl
  unfold settle
  split
  · exact (admits _).mpr passed
  · exact h

theorem limitersOk_finish : limitersOk (finish s) := by
  unfold finish
  split
  · exact limitersOk_passAll (s := hasten s) h
  · exact h

/-- A running part keeps the zone table at each moment of the boundary that it begins. -/
theorem limitersOk_runBoundary (race : Race) (first : List Due) : limitersOk (runBoundary race first s) := by
  have view {u : State} (hu : limitersOk u) : zonesOk (mixView u).zones := hu.1
  have staged : limitersOk (lineStage1 s) := (limitersOk_lineStage1 s).mpr h
  have scene : limitersOk (if race.holdAfter.isNone then sceneStages (lineStage1 s) else ([], lineStage1 s)).2 := by
    split <;> simp [h]
  have claims (u) : limitersOk (countClaims u) ↔ limitersOk u := limitersOk_modClaims u _
  unfold runBoundary
  dsimp only
  generalize (if race.holdAfter.isNone then sceneStages (lineStage1 s) else ([], lineStage1 s)) = r at scene ⊢
  have chimed : limitersOk (chimeWork (countClaims r.2)) := by simp [claims, scene]
  generalize chimeWork (countClaims r.2) = u at chimed ⊢
  have channel : limitersOk (channelWork 0 u) := (limitersOk_channelWork u 0).mpr chimed
  have worked : limitersOk (countInterval (countTimer (advancePhase
      (forEach (everyFin 2) playerWork (forEach (everyFin 2) channelWork u))))) := by
    simp [countInterval, countTimer, advancePhase, chimed]
  refine ⟨worked.1, ?_⟩
  simpa using ⟨view staged, view chimed, view channel⟩

/-- The beginning of a boundary, and its end where nothing is due at it. -/
theorem limitersOk_openBoundary (race : Race) : limitersOk (openBoundary race s) := by
  have judged : limitersOk (judgedState s) := (limitersOk_of_keeps (judgedState_keeps s)).mpr h
  rw [openBoundary_eq]
  refine limitersOk_closeIfDone ?_
  split
  · exact limitersOk_runBoundary judged race _
  · have idle : zonesOk (idleBlocks (judgedState s)).mix.zones := by
      rw [(idleBlocks_parts _).1]
      exact judged.1
    exact ⟨idle, fun v none => by cases none⟩

end
end Sys2Proof.Machine
end

section
namespace Sys2Proof.Machine

/-! ### The limiters through every command (R36, R37, R51) -/

section
variable {s : State} (h : limitersOk s)
include h

theorem limitersOk_localBoundary (race : Race) : limitersOk (localBoundary race s) := by
  unfold localBoundary
  exact limitersOk_openBoundary (by simp [h]) race

theorem limitersOk_handOver (f : Frame) (payload : List Byte) (race : Race) : limitersOk (handOver f payload race s) := by
  have adopted : limitersOk (adoptBeacon payload s) := by simp [adoptBeacon, h]
  unfold handOver
  split
  · unfold takeBeacon
    split
    · split
      · simpa using adopted
      · exact limitersOk_openBoundary adopted race
    · exact h
  all_goals simp [h]

theorem limitersOk_takeFrame (p : Port) (f : Frame) (payload : List Byte) (race : Race) :
    limitersOk (takeFrame p f payload race s) := by
  unfold takeFrame
  split
  · exact limitersOk_handOver (s := count _ (modRing _ s)) (by simp [h]) ..
  · exact h

theorem limitersOk_receiveFrame (p : Port) (bytes : List Byte) (race : Race) : limitersOk (receiveFrame p bytes race s) := by
  have forwards (f u) : limitersOk (forwardFrame p f u) ↔ limitersOk u := by simp [forwardFrame]
  have classified (f payload) (u : State) (hu : limitersOk u) : limitersOk (classify p f payload race u) := by
    unfold classify takeAndForward
    split_ifs
    · exact hu
    · exact (forwards _ _).mpr hu
    · exact limitersOk_takeFrame hu ..
    · exact limitersOk_takeFrame ((forwards _ _).mpr hu) ..
    · exact (forwards _ _).mpr (limitersOk_takeFrame hu ..)
    · exact (forwards _ _).mpr hu
  unfold receiveFrame
  split
  · exact h
  · exact h
  · exact h
  · exact h
  · unfold checkedFrame
    split
    · simp [forwards, h]
    · unfold classifyLoading
      split_ifs <;> simp [forwards, h]
    · exact classified _ _ (count _ s) h
    · exact classified _ _ (count _ s) h

theorem limitersOk_loseSignal (p : Port) (midFrame : Bool) : limitersOk (loseSignal p midFrame s) := by
  have linked (l u) : limitersOk (setLink p l u) ↔ limitersOk u := limitersOk_of_keeps (setLink_keeps p l u)
  have dropped : limitersOk (dropTraffic p midFrame s) ↔ limitersOk s :=
    limitersOk_of_keeps (dropTraffic_keeps p midFrame s)
  unfold loseSignal
  split <;> simp [linked, dropped, h]

/-- An operation of a frame is settled, and then carried out, where the part carries it out at all (R190). -/
theorem limitersOk_operation {f : State → State} (hf : limitersOk (f s)) : limitersOk (operation f s) := by
  unfold operation
  split
  · split
    · split
      · exact h
      · exact hf
    · exact hf
  · exact h

end

/-- The state that an outcome goes on to, if it goes on, keeps the bounds of the limiters. -/
def limitersOkAfter : Host.Outcome State Fault Refusal → Prop
  | .next t => limitersOk t
  | _ => True

/-- Each command but a power-on reset keeps the bounds of the limiters. -/
theorem limitersOk_exec {c : Instr} (hc : ∀ straps, c ≠ .powerOnReset straps) {s : State} (h : limitersOk s) :
    limitersOkAfter (exec c s) := by
  have settled : limitersOk (settle s) := limitersOk_settle h
  have finished : limitersOk (finish s) := limitersOk_finish h
  have linked (p l u) : limitersOk (setLink p l u) ↔ limitersOk u := limitersOk_of_keeps (setLink_keeps p l u)
  have operated {f : State → State} (hf : ∀ u, limitersOk u → limitersOk (f u)) :
      limitersOk (operation f (settle s)) := limitersOk_operation settled (hf _ settled)
  cases c with
  | powerOnReset straps => exact absurd rfl (hc straps)
  | signalDetected p => simp [exec, execSignalDetected, limitersOkAfter, linked, settled]
  | trainingComplete p => simp [exec, execTrainingComplete, limitersOkAfter, linked, settled]
  | trainingTimeout p => simp [exec, execTrainingTimeout, limitersOkAfter, settled]
  | signalLost p midFrame => exact limitersOk_loseSignal settled p midFrame
  | frameReceived p bytes race =>
    have found : limitersOk (if isTimed bytes then finish s else settle s) := by simp [settled, finished]
    have received (u) (hu : limitersOk u) :
        limitersOk (if (portOf u p).link = .up then receiveFrame p bytes race u else u) := by
      split
      · exact limitersOk_receiveFrame hu p bytes race
      · exact hu
    exact received _ found
  | frameTransmitComplete p =>
    have arbitrated (u) : limitersOk (arbitrate p u) ↔ limitersOk u := limitersOk_of_keeps (arbitrate_keeps p u)
    simp [exec, execFrameTransmitComplete, limitersOkAfter, completeTransmission, modPort, arbitrated, settled]
  | localBoundary race => exact limitersOk_localBoundary finished race
  | relabelWindowClose => exact settled
  | originEntryAgeOut => exact limitersOk_takeDue h fun _ => limitersOk_dropOrigin ..
  | micBlockArrival st b => simp [exec, execMicBlockArrival, limitersOkAfter, finished]
  | sourceLost => exact limitersOk_takeDue h fun _ => limitersOk_loseSource ..
  | fadeComplete => exact limitersOk_takeDue h fun _ => limitersOk_finishFade ..
  | cueFire => exact limitersOk_takeDue h fun _ => limitersOk_act ..
  | claimRequestTake => simp [exec, execClaimRequestTake, limitersOkAfter, settled]
  | chimeNoteEnd => exact limitersOk_takeDue h fun _ => limitersOk_act ..
  | chimeExpiry => exact limitersOk_takeDue h fun _ => limitersOk_expireChime ..
  | holdTimeout => exact limitersOk_takeDue h fun _ => limitersOk_timeOut ..
  | reserveDeadline => exact limitersOk_takeDue h fun _ => limitersOk_deadlineOf ..
  | commitDeadline => exact limitersOk_takeDue h fun _ => limitersOk_deadlineOf ..
  | releaseDeadline => exact limitersOk_takeDue h fun _ => limitersOk_deadlineOf ..
  | reserveService => exact (limitersOk_serveNext _).mpr settled
  | scanStart => exact limitersOk_takeDue h limitersOk_beginScan
  | pollAnswer st keys => simp [exec, execPollAnswer, limitersOkAfter, settled]
  | missedScan st => simp [exec, execMissedScan, limitersOkAfter, settled]
  | stationAbsent => exact limitersOk_takeDue h fun _ => limitersOk_loseStation ..
  | callNoAnswer => exact limitersOk_takeDue h fun _ => limitersOk_ringOut ..
  | flashTimerExpiry => exact limitersOk_takeDue h fun _ => limitersOk_flashOut ..
  | toneStepEnd => exact limitersOk_takeDue h fun _ => limitersOk_act ..
  | silenceStepEnd => exact limitersOk_takeDue h fun _ => limitersOk_act ..
  | flashReadComplete data =>
    unfold exec execFlashReadComplete
    dsimp only [limitersOkAfter]
    split
    · next r _ =>
      have taken : limitersOk (count .flashReads (modClips (fun c => { c with inFlight := none }) (settle s))) := by
        simp [settled]
      simpa [readDone] using limitersOk_deliverRead taken r.reader data
    · exact settled
  | flashWriteComplete =>
    unfold exec execFlashWriteComplete
    dsimp only [limitersOkAfter]
    split <;> simp [settled]
  | playComplete p channelFirst => exact limitersOk_takeDue h fun _ => by simp
  | ampReturn => exact settled
  | windowClose => exact limitersOk_takeDue h fun _ => limitersOk_act ..
  | controlFrameStart => exact (limitersOk_startFrame _).mpr settled
  | standaloneEntry => exact limitersOk_takeDue h limitersOk_enterStandalone
  | select table row column =>
    exact operated fun u hu => by unfold setPointer; split <;> simp [hu]
  | window table r0 r1 c0 c1 a =>
    exact operated fun u hu => by unfold setPointer; split <;> simp [hu]
  | write entries => exact operated fun u hu => by simpa using limitersOk_writeAll hu entries _
  | writeFields fields => exact operated fun u hu => by simpa using limitersOk_writeNamed hu ..
  | writeIf compare new => exact operated fun u hu => by simpa using limitersOk_compareWrite hu compare new
  | read n clear => exact operated fun u hu => by simp [hu]
  | claimStart => exact operated fun u hu => by split <;> simp [hu]
  | claimEnd claim =>
    refine operated fun u hu => ?_
    split
    · split
      · simp [hu]
      · split <;> simp [hu]
    · simp [hu]
  | playClip =>
    refine operated fun u hu => ?_
    split
    · split
      · simp [hu]
      · split <;> simp [reservePlayer, hu]
    · simp [hu]
  | alarmStart program group => exact operated fun u hu => by split <;> simp [hu]
  | alarmStop program => exact operated fun u hu => by split <;> simp [hu]
  | bankSwap => exact operated fun u hu => by simp [hu]
  | cueAdd => exact operated fun u hu => by split <;> simp [hu]
  | cueClear => exact operated fun u hu => by split <;> simp [hu]
  | clipOpen clip samples =>
    refine operated fun u hu => ?_
    split
    · simp [hu]
    · split_ifs
      · simp [hu]
      · simp [hu]
      · simp [hu]
      · split <;> simp [hu]
  | clipWrite => exact operated fun u hu => by split <;> simp [queueSector, hu]
  | clipClose => exact operated fun u hu => by split <;> simp [hu]
  | clipDelete => exact operated fun u hu => by split <;> simp [hu]
  | saveImage => exact operated fun u hu => by simp [hu]
  | softReset =>
    refine limitersOk_operation finished ?_
    simp [finished, limitersOk_softResetAll finished]
  | reload =>
    refine limitersOk_operation finished ?_
    simp [finished, limitersOk_reloadAll finished]
  | reportEmission => exact limitersOk_takeDue h limitersOk_emitReports

/-- A power-on reset gives every zone its built-in limits and a limiter gain of unity (R57). -/
theorem limitersOk_powerOnReset {straps : Byte} {s t : State} (h : exec (.powerOnReset straps) s = .next t) :
    limitersOk t := by
  cases h
  exact ⟨zonesOk_builtIn, fun v none => by cases none⟩

/-- Settles O58: a power-on reset sets the bounds of the limiters, and any other command keeps them. -/
theorem limitersKept : Obligations.LimitersKept := by
  unfold Obligations.LimitersKept
  intro s t h stepped
  unfold step at stepped
  split at stepped
  · cases stepped
    exact h
  · next c rest _ =>
    by_cases reset : ∃ straps, c = .powerOnReset straps
    · obtain ⟨straps, rfl⟩ := reset
      exact limitersOk_powerOnReset stepped
    · have kept : limitersOkAfter (exec c (withQueue rest s)) :=
        limitersOk_exec (fun straps e => reset ⟨straps, e⟩) (s := withQueue rest s) h
      rw [stepped] at kept
      exact kept

end Sys2Proof.Machine
end

section
namespace Sys2Proof.Machine

/-! ### Gains (R40 to R42) -/

theorem defaultTaper_val (c : Fin 256) : (tget defaultTaper c).val = (c.val * 32768 + 127) / 255 := by
  rw [defaultTaper, tget_ofFn, Fin.val_ofNat]
  omega

theorem combine_zero_right (a : Nat) : combine a 0 = 0 := by simp [combine]

theorem combine_le (a b : Nat) : combine a b ≤ 65535 := min_le_left _ _

/-- Unity is neutral (R42). -/
theorem combine_unity {a : Nat} (h : a ≤ 65535) : combine a 32768 = a := by
  unfold combine
  omega

end Sys2Proof.Machine

namespace Sys2Proof
open Machine

/-- Settles O19: each clause is arithmetic on the entry's value. -/
theorem defaultTaper : Obligations.DefaultTaper := by
  unfold Obligations.DefaultTaper
  refine ⟨defaultTaper_val, fun c h => ?_, defaultTaper_val 0, defaultTaper_val 255, fun c => ?_, ?_, rfl⟩
  · rw [defaultTaper_val, defaultTaper_val]
    dsimp only
    omega
  · rw [defaultTaper_val]
    omega
  · simp only [defaultTaper_val]
    rfl

/-- Settles O20: every gain of the mix is the result of a combination. -/
theorem combine : Obligations.Combine := by
  unfold Obligations.Combine
  exact ⟨fun _ _ => rfl, fun _ => combine_unity, combine_zero_right, combine_le, rfl,
    fun v z i => ⟨combine_le _ _, combine_le _ _⟩⟩

end Sys2Proof

namespace Sys2Proof.Machine

/-! ### What contributes to a zone (R44 to R49) -/

section
variable {v : MixView} {z : ZoneId}

theorem viewPriority_of_some {e : ListEntry} {c : Claim} (h : onAir v z = some (e, c)) : viewPriority v z = c.priority := by
  unfold onAir at h
  simp [viewPriority, priorityIn, h]

theorem onAirSlot_of_none (h : onAir v z = none) : onAirSlot v z = none := by simp [onAirSlot, h]

theorem onAirSlot_of_some {e : ListEntry} {c : Claim} (h : onAir v z = some (e, c)) :
    onAirSlot v z = some (if e.live then c.slot else 31) := by simp [onAirSlot, h]

theorem isProgramme_of_none {i : SlotId} (h : onAir v z = none) :
    isProgramme v z i = true ↔ tget (tget v.active z) i ≠ 0 := by simp [isProgramme, h]

/-- The on-air slot and the slot of a claim that chimes are no programme sources (R46). -/
theorem isProgramme_of_some {e : ListEntry} {c : Claim} {i : SlotId} (h : onAir v z = some (e, c)) :
    isProgramme v z i = true ↔ tget (tget v.active z) i ≠ 0 ∧ i ≠ c.slot ∧ (e.live = false → i ≠ 31) := by
  cases live : e.live <;> simp [isProgramme, h, live, and_comm]

/-- The on-air slot is no programme source. -/
theorem not_isProgramme_onAirSlot {i : SlotId} (h : onAirSlot v z = some i) : isProgramme v z i = false := by
  cases onair : onAir v z with
  | none => simp [onAirSlot, onair] at h
  | some x =>
    obtain ⟨e, c⟩ := x
    rw [onAirSlot_of_some onair] at h
    refine Bool.eq_false_iff.mpr fun programme => ?_
    obtain ⟨-, other, chiming⟩ := (isProgramme_of_some onair).mp programme
    cases live : e.live
    · exact chiming live (by simpa [live] using h.symm)
    · exact other (by simpa [live] using h.symm)

theorem duckFactor_of_none {i : SlotId} (h : onAir v z = none) : duckFactor v z i = 32768 := by simp [duckFactor, h]

/-- Under a claim of priority 7 or an EXCLUSIVE one every programme source is muted (R46). -/
theorem duckFactor_of_exclusive {e : ListEntry} {c : Claim} {i : SlotId} (h : onAir v z = some (e, c))
    (muted : c.priority = 7 ∨ c.mode = .exclusive) : duckFactor v z i = 0 := by
  unfold duckFactor
  rw [h]
  rcases muted with alarm | exclusive
  · simp [alarm]
  · simp [exclusive]

/-- Under a ducking claim of lower priority a SHOW source in show hold is muted, and every other one ducked (R45, R46). -/
theorem duckFactor_of_duck {e : ListEntry} {c : Claim} {i : SlotId} (h : onAir v z = some (e, c)) (low : c.priority ≠ 7)
    (duck : c.mode = .duck) : duckFactor v z i =
      if (tget v.slots i).cls = .showClass ∧ (tget v.zones z).cfg.showZone = true ∧
        (tget v.zones z).cfg.showStop ≤ c.priority then 0
      else taperGain v.taper (tget v.zones z).cfg.duck := by
  have holds : showHoldIn (tget v.zones z) (viewPriority v z) = true ↔
      (tget v.zones z).cfg.showZone = true ∧ (tget v.zones z).cfg.showStop ≤ c.priority := by
    simp [showHoldIn, viewPriority_of_some h]
  simp [duckFactor, h, low, duck, holds]

theorem mem_contributors {i : SlotId} {g : Nat} : (i, g) ∈ contributors v z ↔
    (isProgramme v z i = true ∧ g = programmeGain v z i) ∨ (onAirSlot v z = some i ∧ g = claimGain v z i) := by
  have programme : (i, g) ∈ ((everyFin 32).filter (isProgramme v z)).map (fun i => (i, programmeGain v z i)) ↔
      isProgramme v z i = true ∧ g = programmeGain v z i := by
    simp only [List.mem_map, List.mem_filter, List.mem_finRange, true_and, Prod.mk.injEq]
    exact ⟨fun ⟨j, source, same, gain⟩ => ⟨same ▸ source, same ▸ gain.symm⟩, fun ⟨source, gain⟩ => ⟨i, source, rfl, gain.symm⟩⟩
  rw [contributors, List.mem_append, programme]
  cases onair : onAirSlot v z with
  | none => simp
  | some c =>
    refine or_congr_right ?_
    simp only [List.mem_singleton, Prod.mk.injEq, Option.some.injEq]
    constructor <;> (rintro ⟨rfl, rfl⟩; exact ⟨rfl, rfl⟩)

/-- No slot contributes twice. -/
theorem contributors_nodup (v : MixView) (z : ZoneId) : ((contributors v z).map (·.1)).Nodup := by
  have programme : (((everyFin 32).filter (isProgramme v z)).map (fun i => (i, programmeGain v z i))).map (·.1) =
      (everyFin 32).filter (isProgramme v z) := by simp [List.map_map, Function.comp_def]
  have once : ((everyFin 32).filter (isProgramme v z)).Nodup := (List.nodup_finRange 32).filter _
  rw [contributors, List.map_append, programme]
  cases onair : onAirSlot v z with
  | none => simpa using once
  | some c =>
    refine List.nodup_append.mpr ⟨once, List.nodup_singleton _, fun i source j claim => ?_⟩
    rintro rfl
    obtain rfl := List.mem_singleton.mp claim
    simp [not_isProgramme_onAirSlot onair] at source

end

/-- Settles O21, from the duck factor under each kind of on-air claim and the list of what contributes. -/
theorem gains : Obligations.Gains := by
  unfold Obligations.Gains
  intro v z i
  refine ⟨fun _ => if_pos rfl, fun alarm => by rw [masterGain, if_pos alarm], fun other => by rw [masterGain, if_neg other],
    fun free => by rw [programmeGain, duckFactor_of_none free], fun e c onair => ⟨fun muted => ?_, fun low duck cls zone stop => ?_,
      fun low duck loud => ?_⟩, rfl, fun free => ⟨onAirSlot_of_none free, isProgramme_of_none free⟩,
    fun e c onair => ⟨onAirSlot_of_some onair, isProgramme_of_some onair⟩, fun g => mem_contributors,
    contributors_nodup v z, fun n => ?_⟩
  · rw [programmeGain, duckFactor_of_exclusive onair muted, combine_zero_right]
  · rw [programmeGain, duckFactor_of_duck onair low duck, if_pos ⟨cls, zone, stop⟩, combine_zero_right]
  · have heard : ¬((tget v.slots i).cls = .showClass ∧ (tget v.zones z).cfg.showZone = true ∧
        (tget v.zones z).cfg.showStop ≤ c.priority) := by
      rintro ⟨cls, zone, stop⟩
      rcases loud with other | off | lower
      · exact other cls
      · simp [off] at zone
      · omega
    rw [programmeGain, duckFactor_of_duck onair low duck, if_neg heard]
  · simp [masterBlock, scale, mixSum]

/-! ### The limiter's output (R50, R51) -/

theorem tget_limiterBlock (limit gain : Nat) (b : Block) (n : Fin 48) : tget (limiterBlock limit gain b) n =
    max (-(limit : Int)) (min (limit : Int) ((tget b n * (gain : Int) + 16384) / 32768)) := tget_tmap _ _ _

theorem mem_toList_iff {α : Type} {k : Nat} {b : Vector α k} {x : α} : x ∈ b.toList ↔ ∃ n, tget b n = x := by
  rw [Vector.mem_toList_iff, Vector.mem_iff_getElem]
  exact ⟨fun ⟨i, h, e⟩ => ⟨⟨i, h⟩, e⟩, fun ⟨n, e⟩ => ⟨n.val, n.isLt, e⟩⟩

/-- A block is clipped when the clamp changes a sample of it (R50). -/
theorem isClipped_iff {limit gain : Nat} {b : Block} : isClipped limit gain b = true ↔
    ∃ n, tget (limiterBlock limit gain b) n ≠ (tget b n * (gain : Int) + 16384) / 32768 := by
  simp only [isClipped, List.any_eq_true, mem_toList_iff, bne_iff_ne]
  constructor
  · rintro ⟨_, ⟨n, rfl⟩, changed⟩
    exact ⟨n, by rwa [tget_limiterBlock]⟩
  · rintro ⟨n, changed⟩
    exact ⟨_, ⟨n, rfl⟩, by rwa [tget_limiterBlock] at changed⟩

theorem foldl_max_le_iff (l : List Nat) (a m : Nat) : l.foldl max a ≤ m ↔ a ≤ m ∧ ∀ x ∈ l, x ≤ m := by
  induction l generalizing a with
  | nil => simp
  | cons x l ih => rw [List.foldl_cons, ih, max_le_iff, List.forall_mem_cons, and_assoc]

theorem peakOf_le_iff (b : Block) (m : Nat) : peakOf b ≤ m ↔ ∀ n, (tget b n).natAbs ≤ m := by
  simp only [peakOf, foldl_max_le_iff, Nat.zero_le, true_and, List.forall_mem_map, mem_toList_iff, forall_exists_index,
    forall_apply_eq_imp_iff]

/-- A loud block has a sample at its peak. -/
theorem exists_peak {b : Block} (h : 0 < peakOf b) : ∃ n, (tget b n).natAbs = peakOf b := by
  by_contra missed
  push Not at missed
  have bound := (peakOf_le_iff b (peakOf b)).mp le_rfl
  have lower : peakOf b ≤ peakOf b - 1 := (peakOf_le_iff b _).mpr fun n => by
    have := bound n
    have := missed n
    omega
  omega

/-- The target gain is told by the block's samples: unity where none is above the threshold, and what brings the loudest
down to it otherwise (R51). -/
theorem eq_targetGain {g limit : Nat} {b : Block} (quiet : (∀ n, (tget b n).natAbs ≤ limit) → g = 32768)
    (loud : ∀ n, limit < (tget b n).natAbs → (∀ m, (tget b m).natAbs ≤ (tget b n).natAbs) →
      g = max 1 (limit * 32768 / (tget b n).natAbs)) : targetGain limit (peakOf b) = g := by
  unfold targetGain
  split_ifs with low
  · exact (quiet ((peakOf_le_iff b limit).mp low)).symm
  · obtain ⟨n, peak⟩ := exists_peak (b := b) (by omega)
    rw [loud n (by omega) (by rw [peak]; exact (peakOf_le_iff b _).mp le_rfl), peak]

/-! ### What the handing over of a zone block counts (R50, R51) -/

theorem zoneClip_ne_limiterAttack (y z : ZoneId) : counterIx (.zoneClip y) ≠ counterIx (.limiterAttack z) := by
  simp only [ne_eq, counterIx, counterRow, Fin.mk.injEq]
  omega

theorem counterOf_countIf (p : Bool) (c : Counter) (s : State) :
    counterOf (if p then count c s else s) c = if p then saturatingSucc (counterOf s c) else counterOf s c := by
  cases p <;> simp

theorem countsBut_countIf (p : Bool) (c : Counter) (s : State) : countsBut [c] s (if p then count c s else s) := by
  cases p
  · exact countsBut_refl _ s
  · exact count_countsBut (by simp) s

theorem deliverZone_counts (z : ZoneId) (x : Formed) (s : State) :
    counterOf (deliverZone z x s) (.zoneClip z) =
      (if x.clipped then saturatingSucc (counterOf s (.zoneClip z)) else counterOf s (.zoneClip z)) ∧
    counterOf (deliverZone z x s) (.limiterAttack z) =
      (if x.attack then saturatingSucc (counterOf s (.limiterAttack z)) else counterOf s (.limiterAttack z)) ∧
    countsBut [.zoneClip z, .limiterAttack z] s (deliverZone z x s) := by
  have ne := zoneClip_ne_limiterAttack z z
  unfold deliverZone
  dsimp only
  generalize handed : modMix (fun m => { m with zoneOut := tset m.zoneOut z x.block })
    (modZone z (fun r => { r with gain := x.gain }) s) = t
  have same : t.counters = s.counters := by
    rw [← handed]
    rfl
  have start (c : Counter) : counterOf t c = counterOf s c := by rw [counterOf, same, counterOf]
  generalize clip : (if x.clipped then count (.zoneClip z) t else t) = u
  have clips : countsBut [.zoneClip z] t u := clip ▸ countsBut_countIf _ _ _
  have attacks := countsBut_countIf x.attack (.limiterAttack z) u
  refine ⟨?_, ?_, countsBut_trans (countsBut_of_counters same)
    (countsBut_trans (countsBut_mono (by simp) clips) (countsBut_mono (by simp) attacks))⟩
  · rw [counterOf_of_countsBut attacks (by simpa using ne), ← clip, counterOf_countIf, start]
  · rw [counterOf_countIf, counterOf_of_countsBut clips (by simpa using ne.symm), start]

/-- Settles O22, from the forms of an enabled and a disabled zone's block and the handing over of a block. -/
theorem limiter : Obligations.Limiter := by
  unfold Obligations.Limiter
  intro v z
  refine ⟨fun on n => ?_, fun on => ?_, fun x s => ?_, fun off => ?_, fun g on quiet loud => ?_⟩
  · rw [formZone_of_enabled on]
    dsimp only
    rw [tget_limiterBlock]
    omega
  · rw [formZone_of_enabled on]
    dsimp only
    rw [isClipped_iff]
  · obtain ⟨clips, attacks, others⟩ := deliverZone_counts z x s
    exact ⟨deliverZone_mix z x s, clips, attacks, others, deliverZone_keeps z x s⟩
  · rw [formZone_of_disabled off]
    exact ⟨rfl, rfl, nextGain_of_le _⟩
  · rw [formZone_of_enabled on, eq_targetGain quiet loud]
    exact ⟨fun below => ⟨nextGain_of_lt _ below, decide_eq_true below⟩,
      fun above => ⟨nextGain_of_le _ above, decide_eq_false (by omega)⟩⟩

end Sys2Proof.Machine
end

section
namespace Sys2Proof.Machine

/-! ### The moments of a boundary's readers (R43, R178) -/

theorem foldl_later_of_mem {α : Type} {stage : α → Option Nat} {l : List α} (m : Option Nat)
    (h : ∃ y ∈ l, stage y = none) : l.foldl (fun m z => later m (stage z)) m = none := by
  obtain ⟨y, mem, last⟩ := h
  induction l generalizing m with
  | nil => simp at mem
  | cons z l ih =>
    rcases List.mem_cons.mp mem with rfl | mem
    · rw [List.foldl_cons, last, later_none_right]
      exact List.foldl_fixed' (fun z => later_none_left (stage z)) l
    · exact ih _ mem

/-- A stage that reads some zone at the end of the boundary ends there. -/
theorem stageEnd_of_none {stage : ZoneId → Option Nat} (h : ∃ y, stage y = none) : stageEnd stage = none := by
  obtain ⟨y, last⟩ := h
  exact foldl_later_of_mem _ ⟨y, List.mem_finRange y, last⟩

theorem foldl_later_le {α : Type} {stage : α → Option Nat} {c k : Nat} (first : k ≤ c) {l : List α}
    (h : ∀ z ∈ l, ∃ n ≤ c, stage z = some n) :
    ∃ n, k ≤ n ∧ n ≤ c ∧ l.foldl (fun m z => later m (stage z)) (some k) = some n ∧
      ∀ z ∈ l, ∀ a, stage z = some a → a ≤ n := by
  induction l generalizing k with
  | nil => exact ⟨k, le_rfl, first, rfl, by simp⟩
  | cons z l ih =>
    obtain ⟨a, below, at_a⟩ := h z List.mem_cons_self
    obtain ⟨n, above, top, ends, upper⟩ := ih (max_le first below) fun y mem => h y (List.mem_cons_of_mem _ mem)
    refine ⟨n, le_trans (le_max_left _ _) above, top, by rw [List.foldl_cons, at_a, later_some, ends], fun y mem b read => ?_⟩
    rcases List.mem_cons.mp mem with rfl | mem
    · obtain rfl : a = b := Option.some.inj (at_a.symm.trans read)
      exact le_trans (le_max_right _ _) above
    · exact upper y mem b read

/-- A stage that reads every zone by a moment has ended by then, and not before any of its readings. -/
theorem stageEnd_le {stage : ZoneId → Option Nat} {c : Nat} (h : ∀ z, ∃ n ≤ c, stage z = some n) :
    ∃ n ≤ c, stageEnd stage = some n ∧ ∀ z a, stage z = some a → a ≤ n := by
  obtain ⟨n, -, top, ends, upper⟩ := foldl_later_le (Nat.zero_le c) (l := everyFin 24) fun z _ => h z
  exact ⟨n, top, ends, fun z => upper z (List.mem_finRange z)⟩

/-- A stage that reads every zone at one moment ends then. -/
theorem stageEnd_const {stage : ZoneId → Option Nat} {a : Nat} (h : ∀ z, stage z = some a) : stageEnd stage = some a := by
  obtain ⟨n, top, ends, upper⟩ := stageEnd_le fun z => ⟨a, le_rfl, h z⟩
  rw [ends, Nat.le_antisymm top (upper 0 a (h 0))]

/-- Stage 4 reads a zone at the end of the boundary where the mix engine or its own moment puts it there. -/
theorem laneMoment_none {race : Race} {z : ZoneId} (h : moment race.mixAt z = none ∨ moment race.laneAt z = none) :
    laneMoment race z = none := by
  rcases h with last | last <;> simp [laneMoment, mixMoment, last]

/-- Stage 5 reads every zone at the end of the boundary where stage 4 reads one of them there. -/
theorem unheardMoment_none {race : Race} (h : ∃ y, moment race.mixAt y = none ∨ moment race.laneAt y = none) (z : ZoneId) :
    unheardMoment race z = none := by
  obtain ⟨y, last⟩ := h
  rw [unheardMoment, stageEnd_of_none ⟨y, laneMoment_none last⟩, later_none_left]

section
variable {race : Race} {a c : Nat} {m b : ZoneId → Nat}

/-- Stage 4 reads a zone once stage 3 has ended and the mix engine has read the zone. -/
theorem laneMoment_some (line : ∀ z, moment race.lineAt z = some a) {z : ZoneId} (mix : moment race.mixAt z = some (m z))
    (lane : moment race.laneAt z = some (b z)) : laneMoment race z = some (max a (max (m z) (b z))) := by
  rw [laneMoment, mixMoment, stageEnd_const (stage := spareMoment race) line, mix, lane, later_some, later_some]

/-- Stage 5 reads a zone at its own moment where stage 4 has ended by then. -/
theorem unheardMoment_some (lanes : ∀ z, laneMoment race z = some (m z)) (before : ∀ z, m z ≤ c) {z : ZoneId}
    (own : moment race.unheardAt z = some c) : unheardMoment race z = some c := by
  obtain ⟨n, top, ends, -⟩ := stageEnd_le fun y => ⟨m y, before y, lanes y⟩
  rw [unheardMoment, ends, own, later_some, max_eq_right top]

end

/-- The moments of stages 4 and 5 where every reader has a moment before the end, and stage 5 comes last. -/
theorem earlyMoments {race : Race} {a c : Nat} {m b : ZoneId → Nat} {p : ZoneId → Prop}
    (h : ∀ z, moment race.lineAt z = some a ∧ moment race.mixAt z = some (m z) ∧ moment race.laneAt z = some (b z) ∧
      moment race.unheardAt z = some c ∧ max a (max (m z) (b z)) ≤ c ∧ p z) :
    (∀ z, laneMoment race z = some (max a (max (m z) (b z)))) ∧ ∀ z, unheardMoment race z = some c := by
  have lanes (z : ZoneId) : laneMoment race z = some (max a (max (m z) (b z))) := by
    obtain ⟨-, mix, lane, -⟩ := h z
    exact laneMoment_some (fun y => (h y).1) mix lane
  refine ⟨lanes, fun z => ?_⟩
  obtain ⟨-, -, -, own, -⟩ := h z
  refine unheardMoment_some lanes (fun y => ?_) own
  obtain ⟨-, -, -, -, before, -⟩ := h y
  exact before

/-- What stage 3 reads of a zone, whether at the end of the boundary or at a moment with no window due. -/
theorem lineViewAt_eq {b : Boundary} {late v : MixView} {m : Option Nat} (h : m = none ∧ v = late ∨
    ∃ n, m = some n ∧ b.seen[n]? = some v ∧ v.windowDue = false) : lineViewAt b late m = v := by
  rcases h with ⟨rfl, rfl⟩ | ⟨n, rfl, seen, closed⟩
  · exact lineViewAt_none _ _
  · exact lineViewAt_seen _ seen closed

/-- The slots that an early reader sees, entry by entry. -/
theorem earlyView_eq (early late : MixView) : earlyView early late = { early with
    slots := Vector.ofFn fun i : SlotId =>
      if 27 ≤ i.val then { tget early.slots i with block := (tget late.slots i).block } else tget early.slots i } := by
  refine congrArg (fun v => ({ early with slots := v } : MixView)) (table_ext fun i => ?_)
  rw [tget_tmap, tget_ofFn]
  simp [isGenerated]

/-! ### The rows of the zones' counters (R50, R51, R204) -/

/-- The rows of ZONE-CLIP and LIMITER-ATTACK are as they were. -/
def keepsZoneRows (s t : State) : Prop :=
  ∀ r : Fin 551, 140 ≤ r.val → r.val < 188 → tget t.counters r = tget s.counters r

theorem keepsZoneRows_trans {s t u : State} (h : keepsZoneRows s t) (k : keepsZoneRows t u) : keepsZoneRows s u :=
  fun r low high => (k r low high).trans (h r low high)

theorem keepsZoneRows_of_counters {s t : State} (h : t.counters = s.counters) : keepsZoneRows s t := fun _ _ _ => by rw [h]

theorem keepsZoneRows_of_countsBut {l : List Counter} {s t : State} (h : countsBut l s t)
    (out : ∀ c ∈ l, counterRow c < 140 ∨ 188 ≤ counterRow c) : keepsZoneRows s t := fun r low high =>
  h r fun c mem same => by
    have row : r.val = counterRow c := congrArg Fin.val same
    have := out c mem
    omega

theorem keepsZoneRows_count {c : Counter} (s : State) (out : counterRow c < 140 ∨ 188 ≤ counterRow c) :
    keepsZoneRows s (count c s) :=
  keepsZoneRows_of_countsBut (count_countsBut (List.mem_singleton.mpr rfl) s) (by simpa using out)

theorem keepsZoneRows_report (kind : ReportKind) (subject value : Nat) (s : State) :
    keepsZoneRows s (report kind subject value s) :=
  keepsZoneRows_of_countsBut (report_countsBut kind subject value s) (by decide)

theorem keepsZoneRows_forEach {α : Type} {f : α → State → State} (h : ∀ a s, keepsZoneRows s (f a s)) (l : List α)
    (s : State) : keepsZoneRows s (forEach l f s) :=
  forEach_induct (keepsZoneRows s) f l (fun a _ t kept => keepsZoneRows_trans kept (h a t)) s
    (keepsZoneRows_of_counters rfl)

theorem counterOf_of_keepsZoneRows {s t : State} (h : keepsZoneRows s t) (z : ZoneId) :
    counterOf t (.zoneClip z) = counterOf s (.zoneClip z) ∧ counterOf t (.limiterAttack z) = counterOf s (.limiterAttack z) := by
  have high := z.isLt
  constructor <;> apply h <;> simp only [counterIx, counterRow] <;> omega

end Sys2Proof.Machine
end

section
namespace Sys2Proof.Machine

/-! ### Stage 3: the spare lanes (R183, R184) -/

theorem reportServed_keeps (read : ZoneId → MixView) (l : LaneId) (old new : Option ZoneId) (s : State) :
    keepsBut [.reports, .counters] s (reportServed read l old new s) := by
  have placed (kind : ReportKind) (subject value : Nat) (t : State) :
      keepsBut [.reports, .counters] t (report kind subject value t) := report_keeps _ _ _ _
  have counted (c : Counter) (t : State) : keepsBut [.reports, .counters] t (count c t) :=
    keepsBut_mono (by simp) (count_keeps c t)
  have begun : keepsBut [.reports, .counters] s
      (match new with | some z => count (.failovers z) (report .failover z.val l.val s) | none => s) := by
    cases new with
    | none => exact keepsBut_refl _ s
    | some z => exact keepsBut_trans (placed _ _ _ s) (counted _ _)
  cases old with
  | none => exact begun
  | some z => exact keepsBut_ite (keepsBut_trans begun (placed _ _ _ _)) (keepsBut_trans begun (placed _ _ _ _))

theorem reportServed_keepsZoneRows (read : ZoneId → MixView) (l : LaneId) (old new : Option ZoneId) (s : State) :
    keepsZoneRows s (reportServed read l old new s) := by
  have begun : keepsZoneRows s
      (match new with | some z => count (.failovers z) (report .failover z.val l.val s) | none => s) := by
    cases new with
    | none => exact keepsZoneRows_of_counters rfl
    | some z =>
      exact keepsZoneRows_trans (keepsZoneRows_report _ _ _ s)
        (keepsZoneRows_count _ (.inr (by simp only [counterRow]; omega)))
  cases old with
  | none => exact begun
  | some z =>
    unfold reportServed
    dsimp only
    split_ifs <;> exact keepsZoneRows_trans begun (keepsZoneRows_report _ _ _ _)

theorem arbitrateSpare_keeps (read : ZoneId → MixView) (l : LaneId) (s : State) :
    keepsBut [.lines, .reports, .counters] s (arbitrateSpare read l s) :=
  keepsBut_ite (keepsBut_refl _ s) (keepsBut_trans (keepsBut_mono (by simp) (modRecord_keeps l _ s))
    (keepsBut_mono (by simp) (reportServed_keeps read l _ _ _)))

theorem arbitrateSpare_keepsZoneRows (read : ZoneId → MixView) (l : LaneId) (s : State) :
    keepsZoneRows s (arbitrateSpare read l s) := by
  unfold arbitrateSpare
  dsimp only
  split_ifs
  · exact keepsZoneRows_of_counters rfl
  · exact keepsZoneRows_trans (keepsZoneRows_of_counters rfl) (reportServed_keepsZoneRows read l _ _ _)

/-- The arbiter gives a spare lane its served zone, and touches no other lane's record. -/
theorem recordOf_arbitrateSpare (read : ZoneId → MixView) (l k : LaneId) (s : State) : recordOf (arbitrateSpare read l s) k =
    if l = k then { recordOf s k with served := servedChoice read s k } else recordOf s k := by
  unfold arbitrateSpare
  dsimp only
  split_ifs with kept here here
  · subst here
    rw [← kept]
  · rfl
  · subst here
    rw [recordOf, reportServed_keeps _ _ _ _ _ .lines (by simp), ← recordOf, recordOf_modRecord, if_pos rfl]
  · rw [recordOf, reportServed_keeps _ _ _ _ _ .lines (by simp), ← recordOf, recordOf_modRecord, if_neg here]

theorem servedChoice_congr {read : ZoneId → MixView} {s t : State} {l : LaneId} (h : recordOf t l = recordOf s l) :
    servedChoice read t l = servedChoice read s l := by rw [servedChoice, h, servedChoice]

theorem arbitrateSpares_keeps (read : ZoneId → MixView) (s : State) :
    keepsBut [.lines, .reports, .counters] s (arbitrateSpares read s) := keepsBut_forEach (arbitrateSpare_keeps read) _ s

theorem arbitrateSpares_keepsZoneRows (read : ZoneId → MixView) (s : State) : keepsZoneRows s (arbitrateSpares read s) :=
  keepsZoneRows_forEach (arbitrateSpare_keepsZoneRows read) _ s

theorem recordOf_arbitrateSpares (read : ZoneId → MixView) (s : State) (l : LaneId) : recordOf (arbitrateSpares read s) l =
    if l ∈ spareLanes then { recordOf s l with served := servedChoice read s l } else recordOf s l := by
  have own (a : LaneId) (u : State) (_ : True) (e : recordOf u a = recordOf s a) : True ∧
      recordOf (arbitrateSpare read a u) a = recordOf (arbitrateSpare read a s) a ∧
      ∀ b, a ≠ b → recordOf (arbitrateSpare read a u) b = recordOf u b := by
    refine ⟨trivial, ?_, fun b ne => by rw [recordOf_arbitrateSpare, if_neg ne]⟩
    rw [recordOf_arbitrateSpare, recordOf_arbitrateSpare, servedChoice_congr e, e]
  obtain ⟨-, at_spare, off_spare⟩ := get_forEach_own (get := recordOf) (I := fun _ => True) own
    (show spareLanes.Nodup by decide) trivial fun _ _ => rfl
  rw [arbitrateSpares]
  split_ifs with spare
  · rw [at_spare l spare, recordOf_arbitrateSpare, if_pos rfl]
  · exact off_spare l spare

/-! ### The zone blocks (R43) -/

/-- What the handing over of its block changes of a zone: the output, the record and the two counters. -/
def zoneHeld (s : State) (z : ZoneId) : Block × Zone × Word32 × Word32 :=
  (tget s.mix.zoneOut z, tget s.mix.zones z, counterOf s (.zoneClip z), counterOf s (.limiterAttack z))

theorem zoneHeld_deliverZone (z : ZoneId) (x : Formed) (s : State) : zoneHeld (deliverZone z x s) z =
    (x.block, { tget s.mix.zones z with gain := x.gain },
      if x.clipped then saturatingSucc (counterOf s (.zoneClip z)) else counterOf s (.zoneClip z),
      if x.attack then saturatingSucc (counterOf s (.limiterAttack z)) else counterOf s (.limiterAttack z)) := by
  obtain ⟨clips, attacks, -⟩ := deliverZone_counts z x s
  rw [zoneHeld, clips, attacks, deliverZone_mix]
  simp

theorem counterIx_zone_ne {y z : ZoneId} (h : y ≠ z) : counterIx (.zoneClip z) ≠ counterIx (.zoneClip y) ∧
    counterIx (.limiterAttack z) ≠ counterIx (.limiterAttack y) := by
  simp only [ne_eq, counterIx, counterRow, Fin.ext_iff] at h ⊢
  omega

theorem zoneHeld_deliverZone_ne {y z : ZoneId} (x : Formed) (s : State) (h : y ≠ z) :
    zoneHeld (deliverZone y x s) z = zoneHeld s z := by
  obtain ⟨-, -, others⟩ := deliverZone_counts y x s
  obtain ⟨clip, attack⟩ := counterIx_zone_ne h
  have clips := counterOf_of_countsBut (c := .zoneClip z) others (by simpa using ⟨clip, zoneClip_ne_limiterAttack z y⟩)
  have attacks := counterOf_of_countsBut (c := .limiterAttack z) others
    (by simpa using ⟨(zoneClip_ne_limiterAttack y z).symm, attack⟩)
  rw [zoneHeld, clips, attacks, deliverZone_mix]
  simp [zoneHeld, tget_tset_ne _ _ h]

section
variable (b : Boundary) (late : MixView) (s : State)

theorem formZones_keeps : keepsBut [.mix, .counters] s (formZones b late s) :=
  keepsBut_forEach (fun z => deliverZone_keeps z _) _ s

/-- Each zone's block is formed from what is read of that zone, and handed over. -/
theorem zoneHeld_formZones (z : ZoneId) : zoneHeld (formZones b late s) z =
    zoneHeld (deliverZone z (formZone (viewAt b late (mixMoment b.race z)) z) s) z := by
  have own (a : ZoneId) (u : State) (_ : True) (e : zoneHeld u a = zoneHeld s a) : True ∧
      zoneHeld (deliverZone a (formZone (viewAt b late (mixMoment b.race a)) a) u) a =
        zoneHeld (deliverZone a (formZone (viewAt b late (mixMoment b.race a)) a) s) a ∧
      ∀ c, a ≠ c → zoneHeld (deliverZone a (formZone (viewAt b late (mixMoment b.race a)) a) u) c = zoneHeld u c := by
    refine ⟨trivial, ?_, fun c ne => zoneHeld_deliverZone_ne _ _ ne⟩
    obtain ⟨-, zone, clips, attacks⟩ : _ ∧ _ ∧ _ ∧ _ := by simpa only [zoneHeld, Prod.mk.injEq] using e
    rw [zoneHeld_deliverZone, zoneHeld_deliverZone, zone, clips, attacks]
  obtain ⟨-, at_zone, -⟩ := get_forEach_own (get := zoneHeld) (I := fun _ => True) own (List.nodup_finRange 24) trivial
    fun _ _ => rfl
  exact at_zone z (List.mem_finRange z)

end

/-! ### Stage 4: the lanes (R178, R179) -/

/-- The block that a lane carries, with its pilot where it has one. -/
def laneFilled (read : ZoneId → MixView) (s : State) (l : LaneId) : Block :=
  match pilotOf read l with
  | none => laneContent s l
  | some a => withPilot a (laneContent s l)

theorem fillLane_lines (read : ZoneId → MixView) (l : LaneId) (s : State) :
    (fillLane read l s).lines = { s.lines with laneOut := tset s.lines.laneOut l (laneFilled read s l) } := by
  unfold fillLane laneFilled
  cases pilotOf read l with
  | none => rfl
  | some a => dsimp only; split_ifs <;> rfl

theorem fillLane_keeps (read : ZoneId → MixView) (l : LaneId) (s : State) :
    keepsBut [.lines, .counters] s (fillLane read l s) := by
  have put (x : Block) : keepsBut [.lines, .counters] s (modLines (fun y => { y with laneOut := tset y.laneOut l x }) s) :=
    keepsBut_mono (by simp) (keepsBut_modLines _ s)
  unfold fillLane
  cases pilotOf read l with
  | none => exact put _
  | some a => exact keepsBut_ite (keepsBut_trans (put _) (keepsBut_mono (by simp) (count_keeps _ _))) (put _)

theorem fillLane_keepsZoneRows (read : ZoneId → MixView) (l : LaneId) (s : State) : keepsZoneRows s (fillLane read l s) := by
  have put (x : Block) : keepsZoneRows s (modLines (fun y => { y with laneOut := tset y.laneOut l x }) s) :=
    keepsZoneRows_of_counters rfl
  unfold fillLane
  cases pilotOf read l with
  | none => exact put _
  | some a =>
    dsimp only
    split_ifs
    · exact keepsZoneRows_trans (put _) (keepsZoneRows_count _ (.inr (by simp only [counterRow]; omega)))
    · exact put _

theorem recordOf_congr {s t : State} (h : t.lines.lanes = s.lines.lanes) (l : LaneId) : recordOf t l = recordOf s l := by
  rw [recordOf, h, recordOf]

theorem servingSpare_congr {s t : State} (h : t.lines.lanes = s.lines.lanes) (z : ZoneId) :
    servingSpare t z = servingSpare s z := by rw [servingSpare, h, servingSpare]

theorem carrierLane_congr {s t : State} (h : t.lines.lanes = s.lines.lanes) (z : ZoneId) :
    carrierLane t z = carrierLane s z := by rw [carrierLane, servingSpare_congr h, carrierLane]

/-- What a lane carries depends on the zone blocks and on the lanes' records. -/
theorem laneFilled_congr {s t : State} (out : t.mix.zoneOut = s.mix.zoneOut) (lanes : t.lines.lanes = s.lines.lanes)
    (read : ZoneId → MixView) (l : LaneId) : laneFilled read t l = laneFilled read s l := by
  have content : laneContent t l = laneContent s l := by
    unfold laneContent
    rw [out, recordOf_congr lanes]
    cases zoneOfLane l with
    | none => rfl
    | some z => dsimp only; rw [servingSpare_congr lanes]
  rw [laneFilled, content, laneFilled]

/-- The block that a lane carries as the state stands. -/
def laneOutOf (s : State) (l : LaneId) : Block := tget s.lines.laneOut l

theorem laneOutOf_fillLane (read : ZoneId → MixView) (l k : LaneId) (s : State) :
    laneOutOf (fillLane read l s) k = if l = k then laneFilled read s l else laneOutOf s k := by
  rw [laneOutOf, fillLane_lines]
  exact tget_tset _ _ _ _

section
variable (read : ZoneId → MixView) (s : State)

theorem fillLanes_keeps : keepsBut [.lines, .counters] s (fillLanes read s) := keepsBut_forEach (fillLane_keeps read) _ s

theorem fillLanes_keepsZoneRows : keepsZoneRows s (fillLanes read s) :=
  keepsZoneRows_forEach (fillLane_keepsZoneRows read) _ s

/-- Every lane is filled from the zone blocks and the lanes' records, which stay. -/
theorem fillLanes_lines : (fillLanes read s).lines.lanes = s.lines.lanes ∧
    ∀ l, tget (fillLanes read s).lines.laneOut l = laneFilled read s l := by
  obtain ⟨⟨-, lanes⟩, at_lane, -⟩ := get_forEach_own (α := Fin 28) (get := laneOutOf) (f := fillLane read)
    (I := fun u => u.mix = s.mix ∧ u.lines.lanes = s.lines.lanes) (s := s) (t := s) (l := everyFin 28)
    (fun a u kept _ => by
      obtain ⟨mix, lanes⟩ := kept
      refine ⟨⟨(fillLane_keeps read a u .mix (by simp)).trans mix, by rw [fillLane_lines]; exact lanes⟩, ?_, fun c ne => ?_⟩
      · rw [laneOutOf_fillLane, laneOutOf_fillLane, if_pos rfl, if_pos rfl, laneFilled_congr (by rw [mix]) lanes]
      · rw [laneOutOf_fillLane, if_neg ne])
    (List.nodup_finRange 28) ⟨rfl, rfl⟩ (fun _ _ => rfl)
  rw [fillLanes]
  refine ⟨lanes, fun l => ?_⟩
  have filled := at_lane l (List.mem_finRange l)
  rw [laneOutOf_fillLane, if_pos rfl] at filled
  exact filled

end

/-! ### Stage 5: the unheard flags (R185) -/

theorem setUnheard_lines (z : ZoneId) (b : Bool) (s : State) :
    (setUnheard z b s).lines = { s.lines with unheard := tset s.lines.unheard z b } := by
  have counted : (if b then count (.unheardPeriods z) s else s).lines = s.lines := by split_ifs <;> rfl
  unfold setUnheard
  dsimp only
  generalize (if b then count (.unheardPeriods z) s else s) = t at counted
  by_cases same : tget s.lines.unheard z = b
  · have kept : tset s.lines.unheard z b = s.lines.unheard := table_ext fun y => by
      rw [tget_tset]
      split_ifs with here
      · rw [← same, here]
      · rfl
    rw [if_pos same, kept, counted]
  · rw [if_neg same, report_lines, modLines_lines, counted]

theorem setUnheard_keeps (z : ZoneId) (b : Bool) (s : State) :
    keepsBut [.lines, .reports, .counters] s (setUnheard z b s) := by
  have counted : keepsBut [.lines, .reports, .counters] s (if b then count (.unheardPeriods z) s else s) :=
    keepsBut_ite (keepsBut_mono (by simp) (count_keeps _ s)) (keepsBut_refl _ s)
  exact keepsBut_ite counted (keepsBut_trans counted (keepsBut_trans (keepsBut_mono (by simp) (keepsBut_modLines _ _))
    (keepsBut_mono (by simp) (report_keeps _ _ _ _))))

theorem setUnheard_keepsZoneRows (z : ZoneId) (b : Bool) (s : State) : keepsZoneRows s (setUnheard z b s) := by
  have counted : keepsZoneRows s (if b then count (.unheardPeriods z) s else s) := by
    split_ifs
    · exact keepsZoneRows_count _ (.inr (by simp only [counterRow]; omega))
    · exact keepsZoneRows_of_counters rfl
  unfold setUnheard
  dsimp only
  generalize (if b then count (.unheardPeriods z) s else s) = t at counted
  by_cases same : tget s.lines.unheard z = b
  · rw [if_pos same]
    exact counted
  · rw [if_neg same]
    exact keepsZoneRows_trans (keepsZoneRows_trans counted (keepsZoneRows_of_counters rfl)) (keepsZoneRows_report _ _ _ _)

/-- A zone's unheard flag as the state stands. -/
def unheardOf (s : State) (z : ZoneId) : Bool := tget s.lines.unheard z

theorem unheardOf_setUnheard (z y : ZoneId) (b : Bool) (s : State) :
    unheardOf (setUnheard z b s) y = if z = y then b else unheardOf s y := by
  rw [unheardOf, setUnheard_lines]
  exact tget_tset _ _ _ _

theorem unheard_congr {s t : State} (h : t.lines.lanes = s.lines.lanes) (v : MixView) (z : ZoneId) :
    unheard v t z = unheard v s z := by rw [unheard, carrierLane_congr h, unheard]

section
variable (read : ZoneId → MixView) (s : State)

theorem judgeUnheard_keeps : keepsBut [.lines, .reports, .counters] s (judgeUnheard read s) :=
  keepsBut_forEach (fun z t => setUnheard_keeps z _ t) _ s

theorem judgeUnheard_keepsZoneRows : keepsZoneRows s (judgeUnheard read s) :=
  keepsZoneRows_forEach (fun z t => setUnheard_keepsZoneRows z _ t) _ s

/-- The unheard flags follow their condition, and the lanes' records and outputs stay. -/
theorem judgeUnheard_lines : (judgeUnheard read s).lines.lanes = s.lines.lanes ∧
    (judgeUnheard read s).lines.laneOut = s.lines.laneOut ∧
    ∀ z, tget (judgeUnheard read s).lines.unheard z = unheard (read z) s z := by
  obtain ⟨⟨lanes, out⟩, at_zone, -⟩ := get_forEach_own (α := Fin 24) (get := unheardOf)
    (f := fun z t => setUnheard z (unheard (read z) t z) t)
    (I := fun u => u.lines.lanes = s.lines.lanes ∧ u.lines.laneOut = s.lines.laneOut) (s := s) (t := s) (l := everyFin 24)
    (fun a u kept _ => by
      obtain ⟨lanes, out⟩ := kept
      refine ⟨⟨by rw [setUnheard_lines]; exact lanes, by rw [setUnheard_lines]; exact out⟩, ?_, fun c ne => ?_⟩
      · rw [unheardOf_setUnheard, unheardOf_setUnheard, if_pos rfl, if_pos rfl, unheard_congr lanes]
      · rw [unheardOf_setUnheard, if_neg ne])
    (List.nodup_finRange 24) ⟨rfl, rfl⟩ (fun _ _ => rfl)
  rw [judgeUnheard]
  refine ⟨lanes, out, fun z => ?_⟩
  have judged := at_zone z (List.mem_finRange z)
  rw [unheardOf_setUnheard, if_pos rfl] at judged
  exact judged

end

/-! ### The speaker blocks and the page bundle (R104, R138) -/

theorem speakerBlock_congr {s t : State} (h : t.intercom = s.intercom) (v : MixView) (st : StationId) :
    speakerBlock t v st = speakerBlock s v st := by
  simp only [speakerBlock, heardBy, callOf, stationOf, h]

theorem formSpeakers_keeps (b : Boundary) (late : MixView) (s : State) : keepsBut [.intercom] s (formSpeakers b late s) :=
  keepsBut_modIntercom _ s

theorem stationOf_formSpeakers (b : Boundary) (late : MixView) (s : State) (st : StationId) :
    stationOf (formSpeakers b late s) st = { stationOf s st with
      speaker := speakerBlock s (viewAt b late (moment b.race.speakerAt st)) st } := by
  rw [stationOf, formSpeakers, modIntercom_intercom, tget_tmap, ← stationOf]

theorem sendBundle_keeps (s : State) : keepsBut [.ring, .counters] s (sendBundle s) :=
  keepsBut_ite (keepsBut_refl _ s) (originate_keeps _ _ _ s)

theorem offer_keepsZoneRows (p : Port) (f : Frame) (s : State) : keepsZoneRows s (offer p f s) := by
  have port : portIx p ≤ 1 := by cases p <;> decide
  have low (c : Counter) (h : counterRow c < 140) (t : State) : keepsZoneRows t (count c t) := keepsZoneRows_count t (.inl h)
  unfold offer
  split_ifs
  · exact low _ (by simp only [counterRow]; omega) s
  · exact low _ (by simp only [counterRow]; omega) s
  · exact low _ (by simp only [counterRow]; omega) s
  · exact keepsZoneRows_of_counters ((arbitrate_keeps p _ .counters (by simp)).trans (modPort_keeps p _ s .counters (by simp)))

theorem sendBundle_keepsZoneRows (s : State) : keepsZoneRows s (sendBundle s) := by
  have numbered : keepsZoneRows s (modRing (fun r => { r with seq := r.seq + 1 }) s) := keepsZoneRows_of_counters rfl
  unfold sendBundle originate
  dsimp only
  split_ifs
  · exact keepsZoneRows_of_counters rfl
  · exact keepsZoneRows_trans (keepsZoneRows_trans numbered (offer_keepsZoneRows _ _ _)) (offer_keepsZoneRows _ _ _)
  · exact keepsZoneRows_of_counters rfl

theorem sendBundle_of_none {s : State} (h : bundleChannels s = 0) : sendBundle s = s := if_pos h

theorem sendBundle_of_some {s : State} (h : bundleChannels s ≠ 0) :
    sendBundle s = originate audioKind 255 (.bytes (bundlePayload s)) s := if_neg h

end Sys2Proof.Machine
end

section
namespace Sys2Proof.Machine

/-! ### What a lane is filled with (R178, R179) -/

theorem zoneOfLane_primary (z : ZoneId) : zoneOfLane (laneOfZone z) = some z := dif_pos z.isLt

theorem zoneOfLane_spare {l : LaneId} (h : l ∈ spareLanes) : zoneOfLane l = none := by
  revert l
  decide

/-- A zone's block as its primary lane carries it: silence where a spare serves the zone. -/
def primaryContent (s : State) (z : ZoneId) : Block := if (servingSpare s z).isSome then silence else tget s.mix.zoneOut z

theorem laneContent_primary (s : State) (z : ZoneId) : laneContent s (laneOfZone z) = primaryContent s z := by
  unfold laneContent
  rw [zoneOfLane_primary]
  rfl

theorem laneFilled_primary (read : ZoneId → MixView) (s : State) (z : ZoneId) : laneFilled read s (laneOfZone z) =
    if (tget (read z).zones z).cfg.supervision then withPilot (tget (read z).zones z).cfg.pilot.val (primaryContent s z)
    else primaryContent s z := by
  have enabled : supervised (read z).zones (laneOfZone z) = (tget (read z).zones z).cfg.supervision := by
    unfold supervised
    rw [zoneOfLane_primary]
  have pilot : pilotOf read (laneOfZone z) =
      if (tget (read z).zones z).cfg.supervision then some (tget (read z).zones z).cfg.pilot.val else none := by
    rw [pilotOf, zoneOfLane_primary]
    dsimp only
    rw [enabled]
  rw [laneFilled, laneContent_primary, pilot]
  split_ifs <;> rfl

section
variable {read : ZoneId → MixView} {s : State} {l : LaneId}

theorem laneFilled_spare (h : l ∈ spareLanes) : laneFilled read s l = withPilot 4096 (laneContent s l) := by
  have pilot : pilotOf read l = some 4096 := by rw [pilotOf, zoneOfLane_spare h]
  rw [laneFilled, pilot]

theorem laneContent_serving {z : ZoneId} (h : l ∈ spareLanes) (served : (recordOf s l).served = some z) :
    laneContent s l = tget s.mix.zoneOut z := by
  rw [laneContent, zoneOfLane_spare h, served]

theorem laneContent_idle (h : l ∈ spareLanes) (served : (recordOf s l).served = none) : laneContent s l = silence := by
  rw [laneContent, zoneOfLane_spare h, served]

end

/-! ### The stages of a boundary's end (R43, R104, R138, R178) -/

section
variable (b : Boundary) (late : MixView) (spares lanes alarms : ZoneId → MixView) (s : State)

/-- The state after the mix engine has handed over the zone blocks, behind stage 3. -/
def formedState : State := formZones b late (arbitrateSpares spares s)

/-- The state after stage 5 of the line supervisor. -/
def linedState : State := judgeUnheard alarms (fillLanes lanes (formedState b late spares s))

/-- The state after the end of a boundary, for what each of its readers reads. -/
def endedState : State := sendBundle (formSpeakers b late (linedState b late spares lanes alarms s))

theorem formedState_keeps : keepsBut [.mix, .lines, .reports, .counters] s (formedState b late spares s) :=
  keepsBut_trans (keepsBut_mono (by simp) (arbitrateSpares_keeps spares s)) (keepsBut_mono (by simp) (formZones_keeps b late _))

theorem linedState_keeps_formed :
    keepsBut [.lines, .reports, .counters] (formedState b late spares s) (linedState b late spares lanes alarms s) :=
  keepsBut_trans (keepsBut_mono (by simp) (fillLanes_keeps lanes _)) (judgeUnheard_keeps alarms _)

theorem linedState_keeps : keepsBut [.mix, .lines, .reports, .counters] s (linedState b late spares lanes alarms s) :=
  keepsBut_trans (formedState_keeps b late spares s) (keepsBut_mono (by simp) (linedState_keeps_formed b late spares lanes alarms s))

theorem endedState_keeps_lined : keepsBut [.ring, .intercom, .counters] (linedState b late spares lanes alarms s)
    (endedState b late spares lanes alarms s) :=
  keepsBut_trans (keepsBut_mono (by simp) (formSpeakers_keeps b late _)) (keepsBut_mono (by simp) (sendBundle_keeps _))

theorem endedState_keeps : keepsBut [.ring, .mix, .intercom, .lines, .reports, .counters] s
    (endedState b late spares lanes alarms s) :=
  keepsBut_trans (keepsBut_mono (by simp) (linedState_keeps b late spares lanes alarms s))
    (keepsBut_mono (by simp) (endedState_keeps_lined b late spares lanes alarms s))

theorem endedState_mix : (endedState b late spares lanes alarms s).mix = (formedState b late spares s).mix :=
  (endedState_keeps_lined b late spares lanes alarms s .mix (by simp)).trans
    (linedState_keeps_formed b late spares lanes alarms s .mix (by simp))

theorem endedState_lines : (endedState b late spares lanes alarms s).lines = (linedState b late spares lanes alarms s).lines :=
  endedState_keeps_lined b late spares lanes alarms s .lines (by simp)

theorem endedState_keepsZoneRows :
    keepsZoneRows (formedState b late spares s) (endedState b late spares lanes alarms s) := by
  have lined : keepsZoneRows (formedState b late spares s) (linedState b late spares lanes alarms s) :=
    keepsZoneRows_trans (fillLanes_keepsZoneRows lanes _) (judgeUnheard_keepsZoneRows alarms _)
  have spoken : keepsZoneRows (linedState b late spares lanes alarms s)
      (formSpeakers b late (linedState b late spares lanes alarms s)) :=
    keepsZoneRows_of_counters (formSpeakers_keeps b late _ .counters (by simp))
  exact keepsZoneRows_trans (keepsZoneRows_trans lined spoken) (sendBundle_keepsZoneRows _)

end

theorem zoneHeld_congr {s t : State} (mix : t.mix = s.mix) (rows : keepsZoneRows s t) (z : ZoneId) :
    zoneHeld t z = zoneHeld s z := by
  obtain ⟨clips, attacks⟩ := counterOf_of_keepsZoneRows rows z
  rw [zoneHeld, mix, clips, attacks, zoneHeld]

section
variable {b : Boundary} {late : MixView} {spares lanes alarms : ZoneId → MixView} {s : State}

/-- Each zone's block is formed from what is read of it, and handed over. -/
theorem zoneHeld_endedState (z : ZoneId) : zoneHeld (endedState b late spares lanes alarms s) z =
    zoneHeld (deliverZone z (formZone (viewAt b late (mixMoment b.race z)) z) s) z := by
  have same : zoneHeld (arbitrateSpares spares s) z = zoneHeld s z :=
    zoneHeld_congr (arbitrateSpares_keeps spares s .mix (by simp)) (arbitrateSpares_keepsZoneRows spares s) z
  obtain ⟨-, zone, clips, attacks⟩ : _ ∧ _ ∧ _ ∧ _ := by simpa only [zoneHeld, Prod.mk.injEq] using same
  rw [zoneHeld_congr (endedState_mix b late spares lanes alarms s) (endedState_keepsZoneRows b late spares lanes alarms s),
    formedState, zoneHeld_formZones, zoneHeld_deliverZone, zoneHeld_deliverZone, zone, clips, attacks]

theorem endedState_lanes :
    (endedState b late spares lanes alarms s).lines.lanes = (formedState b late spares s).lines.lanes := by
  rw [endedState_lines, linedState, (judgeUnheard_lines alarms _).1, (fillLanes_lines lanes _).1]

/-- A lane's record is that which stage 3 leaves. -/
theorem recordOf_endedState (l : LaneId) : recordOf (endedState b late spares lanes alarms s) l =
    if l ∈ spareLanes then { recordOf s l with served := servedChoice spares s l } else recordOf s l := by
  have formed : (formedState b late spares s).lines = (arbitrateSpares spares s).lines :=
    formZones_keeps b late _ .lines (by simp)
  rw [recordOf_congr endedState_lanes, recordOf, formed, ← recordOf, recordOf_arbitrateSpares]

/-- Every lane carries its content, with its pilot by what stage 4 reads. -/
theorem laneOut_endedState (l : LaneId) : tget (endedState b late spares lanes alarms s).lines.laneOut l =
    laneFilled lanes (endedState b late spares lanes alarms s) l := by
  have mix := endedState_mix b late spares lanes alarms s
  rw [laneFilled_congr (by rw [mix]) endedState_lanes, endedState_lines, linedState]
  obtain ⟨-, out, -⟩ := judgeUnheard_lines alarms (fillLanes lanes (formedState b late spares s))
  rw [out, (fillLanes_lines lanes _).2]

/-- The unheard flags follow their condition, by what stage 5 reads. -/
theorem unheard_endedState (z : ZoneId) : tget (endedState b late spares lanes alarms s).lines.unheard z =
    unheard (alarms z) (endedState b late spares lanes alarms s) z := by
  obtain ⟨-, -, flags⟩ := judgeUnheard_lines alarms (fillLanes lanes (formedState b late spares s))
  rw [unheard_congr endedState_lanes, endedState_lines, linedState, flags,
    unheard_congr (fillLanes_lines lanes _).1]

/-- Each station's speaker block is formed from its call as the boundary leaves it. -/
theorem stationOf_endedState (st : StationId) : stationOf (endedState b late spares lanes alarms s) st =
    { stationOf s st with speaker := speakerBlock s (viewAt b late (moment b.race.speakerAt st)) st } := by
  have sent := sendBundle_keeps (formSpeakers b late (linedState b late spares lanes alarms s)) .intercom (by simp)
  have same := linedState_keeps b late spares lanes alarms s .intercom (by simp)
  have station (t u : State) (h : u.intercom = t.intercom) : stationOf u st = stationOf t st := by
    rw [stationOf, h, stationOf]
  rw [endedState, station _ _ sent, stationOf_formSpeakers, speakerBlock_congr same, station _ _ same]

theorem bundlePayload_congr {t : State} (peer : t.peer = s.peer) (slots : t.slots = s.slots) (ring : t.ring = s.ring) :
    bundleChannels t = bundleChannels s ∧ bundlePayload t = bundlePayload s := by
  have channels : bundleChannels t = bundleChannels s := by rw [bundleChannels, peer, bundleChannels]
  exact ⟨channels, by rw [bundlePayload, channels, peer, slots, ring, bundlePayload]⟩

/-- One page bundle is sent while a transmit channel is allocated. -/
theorem endedState_ring :
    (bundleChannels s = 0 → (endedState b late spares lanes alarms s).ring = s.ring) ∧
    (bundleChannels s ≠ 0 → (endedState b late spares lanes alarms s).ring =
      (originate audioKind 255 (.bytes (bundlePayload s)) s).ring) := by
  have same : keepsBut [.mix, .lines, .reports, .counters, .intercom] s
      (formSpeakers b late (linedState b late spares lanes alarms s)) :=
    keepsBut_trans (keepsBut_mono (by simp) (linedState_keeps b late spares lanes alarms s))
      (keepsBut_mono (by simp) (formSpeakers_keeps b late _))
  have ring := same .ring (by simp)
  have control := same .control (by simp)
  obtain ⟨channels, payload⟩ := bundlePayload_congr (same .peer (by simp)) (same .slots (by simp)) ring
  rw [endedState]
  refine ⟨fun unused => ?_, fun used => ?_⟩
  · rw [sendBundle_of_none (channels.trans unused)]
    exact ring
  · rw [sendBundle_of_some (by rwa [channels]), payload]
    exact originate_ring_congr ring (congrArg Control.mode control)

end

end Sys2Proof.Machine
end

section
namespace Sys2Proof.Machine

/-! ### What a station's speaker gives (R138) -/

section
variable {s : State} {st : StationId}

theorem heardBy_of_within {i : CallId} {c : Call} (h : callOf s st = some (i, c, .within)) : heardBy s st =
    (c.members.filter fun m => m.1 != st && m.2 == .within).map fun m => (stationOf s m.1).mic := by
  rw [heardBy, h]

theorem heardBy_of_not_within (h : ∀ i c, callOf s st ≠ some (i, c, .within)) : heardBy s st = [] := by
  unfold heardBy
  split
  · next i c call => exact absurd call (h i c)
  · rfl

theorem speakerBlock_of_silent (v : MixView) (h : heardBy s st = []) : speakerBlock s v st = silence := by
  rw [speakerBlock, h]

theorem tget_speakerBlock (v : MixView) (h : heardBy s st ≠ []) (n : Fin 48) : tget (speakerBlock s v st) n =
    clamp24 (scale ((heardBy s st).map fun b => tget b n).sum (speakerGain v (stationOf s st))) := by
  unfold speakerBlock
  split
  · next silent => exact absurd silent h
  · exact tget_ofFn _ _

theorem speakerBlock_alone (v : MixView) {i : CallId} {c : Call} (call : callOf s st = some (i, c, .within))
    (alone : ∀ m ∈ c.members, m.1 = st ∨ m.2 ≠ .within) : speakerBlock s v st = silence := by
  refine speakerBlock_of_silent v ?_
  have others : (c.members.filter fun m => m.1 != st && m.2 == .within) = [] :=
    List.filter_eq_nil_iff.mpr fun m mem => by simpa [imp_iff_not_or] using alone m mem
  rw [heardBy_of_within call, others, List.map_nil]

theorem tget_speakerBlock_of_heard (v : MixView) {i : CallId} {c : Call} (call : callOf s st = some (i, c, .within))
    (heard : ∃ m ∈ c.members, m.1 ≠ st ∧ m.2 = .within) (n : Fin 48) : tget (speakerBlock s v st) n =
      max (-8388608) (min 8388607 ((((c.members.filter fun m => m.1 != st && m.2 == .within).map fun m =>
        tget (stationOf s m.1).mic n).sum * (speakerGain v (stationOf s st) : Int) + 16384) / 32768)) := by
  obtain ⟨m, mem, other, within⟩ := heard
  have heard : heardBy s st ≠ [] := by
    rw [heardBy_of_within call]
    exact List.ne_nil_of_mem (List.mem_map_of_mem (List.mem_filter.mpr ⟨mem, by simp [other, within]⟩))
  rw [tget_speakerBlock v heard, heardBy_of_within call, List.map_map]
  rfl

end

theorem speakerGain_of_home {v : MixView} {x : Station} {home : ZoneId} (h : home.val = x.cfg.home) : speakerGain v x =
    combine (taperGain v.taper x.cfg.volume)
      (if viewPriority v home = 7 then taperGain v.taper (tget v.zones home).cfg.duck else 32768) := by
  have same : finUpTo 23 x.cfg.home = home := Fin.ext (by
    have low := home.isLt
    simp only [finUpTo]
    omega)
  unfold speakerGain
  rw [same]

/-! ### A boundary that waits, and one that ends (log entries 1 and 2) -/

theorem settle_of_nothing_due {s : State} (opened : s.boundary.isOpen = true) (due : s.boundary.due = []) :
    settle s = admitNext (closeIfDone s) := by
  have passed : passDues s = s := by rw [passDues, due]; rfl
  have all : passAll s = closeIfDone s := by rw [passAll, passed, passed]
  rw [settle, opened, all]
  rfl

/-- Past its end no boundary is in progress. -/
theorem closeBoundary_boundary (s : State) : (closeBoundary s).boundary = closedBoundary := by
  unfold closeBoundary
  dsimp only
  split_ifs
  · exact endedState_keeps _ _ _ _ _ _ .boundary (by simp)
  · rfl

theorem mixView_modBoundary (f : Boundary → Boundary) (s : State) : mixView (modBoundary f s) = mixView s := rfl

/-- The end of a boundary of a part that runs, by what each of its readers reads. -/
theorem closeBoundary_of_running {s : State} (h : running s = true) : closeBoundary s =
    endedState s.boundary (mixView s) (fun z => lineViewAt s.boundary (mixView s) (spareMoment s.boundary.race z))
      (fun z => lineViewAt s.boundary (mixView s) (laneMoment s.boundary.race z))
      (fun z => lineViewAt s.boundary (mixView s) (unheardMoment s.boundary.race z))
      (modBoundary (fun _ => closedBoundary) s) := by
  unfold closeBoundary
  dsimp only
  rw [if_pos h, mixView_modBoundary, endedState, linedState, formedState]

theorem tget_mixView_lineStates (s : State) (l : LaneId) : tget (mixView s).lineStates l = (recordOf s l).state := by
  rw [mixView, tget_tmap, recordOf]

end Sys2Proof.Machine
end

section
namespace Sys2Proof.Machine

/-! ### The boundary's end, told by the state before it -/

section
variable {b : Boundary} {late : MixView} {spares lanes alarms : ZoneId → MixView} {s t : State}

/-- What the end makes of a zone: its block, its limiter gain and its two counters. -/
theorem endedState_zone (kept : keepsBut [.boundary] s t) {z : ZoneId} {v : MixView}
    (read : viewAt b late (moment b.race.mixAt z) = v) :
    tget (endedState b late spares lanes alarms t).mix.zoneOut z = (formZone v z).block ∧
    tget (endedState b late spares lanes alarms t).mix.zones z = { tget s.mix.zones z with gain := (formZone v z).gain } ∧
    counterOf (endedState b late spares lanes alarms t) (.zoneClip z) = (if (formZone v z).clipped
      then saturatingSucc (counterOf s (.zoneClip z)) else counterOf s (.zoneClip z)) ∧
    counterOf (endedState b late spares lanes alarms t) (.limiterAttack z) = (if (formZone v z).attack
      then saturatingSucc (counterOf s (.limiterAttack z)) else counterOf s (.limiterAttack z)) := by
  have counts (c : Counter) : counterOf t c = counterOf s c := by rw [counterOf, kept .counters (by simp), counterOf]
  have held := zoneHeld_endedState (b := b) (late := late) (spares := spares) (lanes := lanes) (alarms := alarms) (s := t) z
  rw [mixMoment, read, zoneHeld_deliverZone, counts, counts, kept .mix (by simp)] at held
  simpa only [zoneHeld, Prod.mk.injEq] using held

theorem recordOf_ended (kept : keepsBut [.boundary] s t) (l : LaneId) :
    recordOf (endedState b late spares lanes alarms t) l =
      if l ∈ spareLanes then { recordOf s l with served := servedChoice spares s l } else recordOf s l := by
  have record : recordOf t l = recordOf s l := by rw [recordOf, kept .lines (by simp), recordOf]
  rw [recordOf_endedState, servedChoice_congr record, record]

theorem state_recordOf_ended (kept : keepsBut [.boundary] s t) (l : LaneId) :
    (recordOf (endedState b late spares lanes alarms t) l).state = (recordOf s l).state := by
  rw [recordOf_ended kept]
  split_ifs <;> rfl

/-- A zone's primary lane carries the zone's block, with its pilot where what stage 4 reads supervises the zone. -/
theorem laneOut_ended_primary {z : ZoneId} {v : MixView} (read : lanes z = v) :
    tget (endedState b late spares lanes alarms t).lines.laneOut (laneOfZone z) =
      if (tget v.zones z).cfg.supervision then
        withPilot (tget v.zones z).cfg.pilot.val (primaryContent (endedState b late spares lanes alarms t) z)
      else primaryContent (endedState b late spares lanes alarms t) z := by
  rw [laneOut_endedState, laneFilled_primary, read]

end

end Sys2Proof.Machine

namespace Sys2Proof
open Machine

/-- Settles O23, stage by stage: what each stage of the boundary's end makes of the state, and which moment each of its
readers has. -/
theorem boundaryFormsZones : Obligations.BoundaryFormsZones := by
  unfold Obligations.BoundaryFormsZones
  refine ⟨fun n s opened due => ⟨fun ends => ?_, fun waits => ?_⟩, fun s opened due ends run => ?_, fun v st s =>
    ⟨fun silent => speakerBlock_of_silent v (heardBy_of_not_within silent),
      fun i c call => ⟨speakerBlock_alone v call, tget_speakerBlock_of_heard v call⟩, fun home => speakerGain_of_home⟩⟩
  · rw [settle_of_nothing_due opened due, closeIfDone_of_done opened due ends]
    exact admitNext_of_closed (by rw [closeBoundary_boundary]; rfl)
  · rw [settle_of_nothing_due opened due, closeIfDone_of_waiting due (by omega), admitNext_of_open opened]
    refine ⟨rfl, by simp [see, waits], ?_⟩
    exact keepsBut_trans (keepsBut_modBoundary _ s) (keepsBut_modBoundary _ _)
  rw [closeIfDone_of_done opened due ends, closeBoundary_of_running run]
  have kept := keepsBut_modBoundary (fun _ => closedBoundary) s
  have closed : (modBoundary (fun _ => closedBoundary) s).boundary = closedBoundary := rfl
  generalize modBoundary (fun _ => closedBoundary) s = t at kept closed ⊢
  obtain ⟨channels, payload⟩ := bundlePayload_congr (kept .peer (by simp)) (kept .slots (by simp)) (kept .ring (by simp))
  have after := endedState_keeps s.boundary (mixView s)
    (fun z => lineViewAt s.boundary (mixView s) (spareMoment s.boundary.race z))
    (fun z => lineViewAt s.boundary (mixView s) (laneMoment s.boundary.race z))
    (fun z => lineViewAt s.boundary (mixView s) (unheardMoment s.boundary.race z)) t
  refine ⟨fun z n v own seen => ?zoneEarly, fun z last => ?zoneLate, ?quietNow, fun read reads l spare => ?served,
    state_recordOf_ended kept, fun z last => ⟨fun off => ?laneBare, fun on => ?lanePilot⟩, fun l spare => ?spareOut,
    fun last z => ?unheardLate, fun a c m b v w moments seen undue => ?early, fun st last => ?speaker,
    fun unused => ?noBundle, fun used => ?bundle, ?frame⟩
  case zoneEarly =>
    have read : viewAt s.boundary (mixView s) (moment s.boundary.race.mixAt z) = earlyView v (mixView s) := by
      rw [own, viewAt_seen _ seen]
    obtain ⟨block, -⟩ := endedState_zone kept read
    rw [block, earlyView_eq]
    rfl
  case zoneLate =>
    have read : viewAt s.boundary (mixView s) (moment s.boundary.race.mixAt z) = mixView s := by rw [last, viewAt_none]
    obtain ⟨block, zone, clips, attacks⟩ := endedState_zone kept read
    exact ⟨block, by rw [zone], clips, attacks, by rw [zone]⟩
  case quietNow =>
    have boundary := (after .boundary (by simp)).trans closed
    exact ⟨by rw [boundary]; rfl, by rw [boundary]; rfl⟩
  case served =>
    have same : (fun z => lineViewAt s.boundary (mixView s) (spareMoment s.boundary.race z)) = read :=
      funext fun z => lineViewAt_eq (reads z)
    rw [recordOf_ended kept, if_pos spare, same]
  case laneBare =>
    rw [laneOut_ended_primary (v := mixView s) (by rw [laneMoment_none last, lineViewAt_none])]
    exact if_neg (Bool.eq_false_iff.mp off)
  case lanePilot =>
    rw [laneOut_ended_primary (v := mixView s) (by rw [laneMoment_none last, lineViewAt_none])]
    exact if_pos on
  case spareOut =>
    rw [laneOut_endedState, laneFilled_spare spare]
    generalize endedState _ _ _ _ _ t = u
    cases served : (recordOf u l).served with
    | none => rw [laneContent_idle spare served]
    | some z => rw [laneContent_serving spare served]
  case unheardLate =>
    rw [unheard_endedState, unheardMoment_none last, lineViewAt_none, unheard, tget_mixView_lineStates]
  case early =>
    obtain ⟨laneAt, unheardAt⟩ := earlyMoments moments
    have laneRead (z : ZoneId) : lineViewAt s.boundary (mixView s) (laneMoment s.boundary.race z) = v z := by
      obtain ⟨-, -, -, -, -, seen, undue⟩ := moments z
      rw [laneAt z, lineViewAt_seen _ seen undue]
    refine ⟨fun z => ?_, fun z on => ?_, fun z off => ?_⟩
    · rw [unheard_endedState, unheardAt z, lineViewAt_seen _ seen undue, unheard]
    · rw [laneOut_ended_primary (laneRead z)]
      exact if_pos on
    · rw [laneOut_ended_primary (laneRead z)]
      exact if_neg (Bool.eq_false_iff.mp off)
  case speaker =>
    have station : stationOf t st = stationOf s st := by rw [stationOf, kept .intercom (by simp), stationOf]
    rw [stationOf_endedState, last, viewAt_none, station, speakerBlock_congr (kept .intercom (by simp))]
  case noBundle =>
    obtain ⟨silent, -⟩ := endedState_ring (s := t)
    rw [silent (channels.trans unused), kept .ring (by simp)]
  case bundle =>
    obtain ⟨-, sent⟩ := endedState_ring (s := t)
    rw [sent (by rwa [channels]), payload]
    exact originate_ring_congr (kept .ring (by simp)) (congrArg Control.mode (kept .control (by simp)))
  case frame => exact keepsBut_trans (keepsBut_mono (by simp) kept) (keepsBut_mono (by simp) after)

end Sys2Proof
end

section
namespace Sys2Proof.Machine

/-! ### A fade's target and its place in the fade table (R65, R66, R67) -/

theorem targetCode_congr {s t : State} (active : t.scene.active = s.scene.active) (mix : t.mix = s.mix) (x : FadeTarget) :
    targetCode t x = targetCode s x := by
  cases x with
  | crosspoint z i => rw [targetCode, active, targetCode]
  | master z => rw [targetCode, mix, targetCode]

theorem fadeOn_congr {s t : State} (fades : t.scene.fades = s.scene.fades) (x : FadeTarget) : fadeOn t x = fadeOn s x := by
  rw [fadeOn, fades, fadeOn]

@[simp] theorem targetCode_setTarget_self (x : FadeTarget) (c : Code) (s : State) : targetCode (setTarget x c s) x = c := by
  cases x <;> simp [targetCode, setTarget]

theorem targetCode_setTarget_ne {x y : FadeTarget} (c : Code) (s : State) (h : y ≠ x) :
    targetCode (setTarget x c s) y = targetCode s y := by
  cases x with
  | crosspoint z i =>
    cases y with
    | crosspoint z' i' =>
      by_cases hz : z = z'
      · subst hz
        have hi : i ≠ i' := fun e => h (by rw [e])
        simp [targetCode, setTarget, tget_tset_ne _ _ hi]
      · simp [targetCode, setTarget, tget_tmod_ne _ _ hz]
    | master z' => rfl
  | master z =>
    cases y with
    | crosspoint z' i' => rfl
    | master z' =>
      have hz : z ≠ z' := fun e => h (by rw [e])
      simp [targetCode, setTarget, tget_tmod_ne _ _ hz]

theorem setTarget_scene (x : FadeTarget) (c : Code) (s : State) :
    (setTarget x c s).scene = { s.scene with active := (setTarget x c s).scene.active } := by cases x <;> rfl

theorem setTarget_congr {s t : State} (active : t.scene.active = s.scene.active) (mix : t.mix = s.mix) (x : FadeTarget)
    (c : Code) : (setTarget x c t).scene.active = (setTarget x c s).scene.active ∧
      (setTarget x c t).mix = (setTarget x c s).mix := by
  cases x <;> simp [setTarget, active, mix]

theorem fadeOn_target {s : State} {x : FadeTarget} {f : Fade} (h : fadeOn s x = some f) : f.target = x := by
  simpa using List.find?_some h

/-- A change of fades that keeps their targets changes the fade found on a target. -/
theorem fadeOn_of_map {s t : State} {g : Fade → Fade} (keeps : ∀ f, (g f).target = f.target)
    (fades : t.scene.fades = s.scene.fades.map g) (x : FadeTarget) : fadeOn t x = (fadeOn s x).map g := by
  have same : ((fun f : Fade => f.target == x) ∘ g) = fun f => f.target == x := funext fun f => by simp [keeps]
  rw [fadeOn, fades, List.find?_map, same, fadeOn]

/-- A change of the fades on one target leaves those on another. -/
theorem fadeOn_of_map_ne {s t : State} {g : Fade → Fade} {x y : FadeTarget} (keeps : ∀ f, (g f).target = f.target)
    (others : ∀ f : Fade, f.target ≠ x → g f = f) (fades : t.scene.fades = s.scene.fades.map g) (h : y ≠ x) :
    fadeOn t y = fadeOn s y := by
  rw [fadeOn_of_map keeps fades]
  cases found : fadeOn s y with
  | none => rfl
  | some f => rw [Option.map_some, others f (fadeOn_target found ▸ h)]

theorem fadeOn_dropFade_self (x : FadeTarget) (s : State) : fadeOn (dropFade x s) x = none := by
  simp [fadeOn, dropFade]

theorem fadeOn_dropFade_ne {x y : FadeTarget} (s : State) (h : y ≠ x) : fadeOn (dropFade x s) y = fadeOn s y := by
  rw [fadeOn, dropFade, modScene_scene, List.find?_filter, fadeOn]
  congr 1
  funext f
  by_cases e : f.target = y <;> simp [e, h]

/-- From one state to another the scene unit has worked on one target: of the scene, that target's code and fade alone have
changed, and of the zone records, none when the target is a crosspoint. -/
structure Moves (x : FadeTarget) (s t : State) : Prop where
  scene : t.scene = { s.scene with active := t.scene.active, fades := t.scene.fades }
  mix : ∀ z i, x = .crosspoint z i → t.mix = s.mix
  active : ∀ z, x = .master z → t.scene.active = s.scene.active
  others : ∀ y, y ≠ x → targetCode t y = targetCode s y ∧ fadeOn t y = fadeOn s y
  keeps : keepsBut [.scene, .mix, .counters] s t

theorem moves_trans {x : FadeTarget} {s t u : State} (h : Moves x s t) (k : Moves x t u) : Moves x s u where
  scene := by rw [k.scene, h.scene]
  mix := fun z i e => (k.mix z i e).trans (h.mix z i e)
  active := fun z e => (k.active z e).trans (h.active z e)
  others := fun y ne => ⟨(k.others y ne).1.trans (h.others y ne).1, (k.others y ne).2.trans (h.others y ne).2⟩
  keeps := keepsBut_trans h.keeps k.keeps

theorem moves_setTarget (x : FadeTarget) (c : Code) (s : State) : Moves x s (setTarget x c s) where
  scene := by cases x <;> rfl
  mix := by rintro z i rfl; rfl
  active := by rintro z rfl; rfl
  others := fun y ne => ⟨targetCode_setTarget_ne c s ne, fadeOn_congr (by cases x <;> rfl) y⟩
  keeps := keepsBut_mono (by simp) (setTarget_keeps x c s)

/-- A change of the fade table that leaves the fades on other targets. -/
theorem moves_modFades {x : FadeTarget} {s : State} {g : List Fade → List Fade}
    (others : ∀ y, y ≠ x → fadeOn (modScene (fun a => { a with fades := g a.fades }) s) y = fadeOn s y) :
    Moves x s (modScene (fun a => { a with fades := g a.fades }) s) where
  scene := rfl
  mix := fun _ _ _ => rfl
  active := fun _ _ => rfl
  others := fun y ne => ⟨targetCode_congr rfl rfl y, others y ne⟩
  keeps := keepsBut_mono (by simp) (keepsBut_modScene _ s)

theorem moves_dropFade (x : FadeTarget) (s : State) : Moves x s (dropFade x s) :=
  moves_modFades fun _ ne => fadeOn_dropFade_ne s ne

theorem moves_count (x : FadeTarget) (c : Counter) (s : State) : Moves x s (count c s) where
  scene := rfl
  mix := fun _ _ _ => rfl
  active := fun _ _ => rfl
  others := fun y _ => ⟨targetCode_congr rfl rfl y, rfl⟩
  keeps := keepsBut_mono (by simp) (count_keeps c s)

/-! ### The codes of a fade (R67) -/

/-- The way that a fade over `total` periods between codes d apart has gone after e of them, to the nearest code. -/
def fadeWay (d total e : Nat) : Nat := (d * e + total / 2) / total

theorem fadeWay_mono (d total : Nat) {e e' : Nat} (h : e ≤ e') : fadeWay d total e ≤ fadeWay d total e' :=
  Nat.div_le_div_right (Nat.add_le_add_right (Nat.mul_le_mul_left d h) _)

theorem fadeWay_zero (d : Nat) {total : Nat} (ht : 1 ≤ total) : fadeWay d total 0 = 0 := by
  rw [fadeWay, Nat.mul_zero, Nat.zero_add]
  exact Nat.div_eq_of_lt (by omega)

theorem fadeWay_total (d : Nat) {total : Nat} (ht : 1 ≤ total) : fadeWay d total total = d := by
  rw [fadeWay, Nat.mul_comm, Nat.mul_add_div (by omega), Nat.div_eq_of_lt (by omega), Nat.add_zero]

theorem fadeWay_le (d : Nat) {total e : Nat} (ht : 1 ≤ total) (he : e ≤ total) : fadeWay d total e ≤ d :=
  (fadeWay_mono d total he).trans_eq (fadeWay_total d ht)

theorem fadeCode_eq (start goal : Code) (total e : Nat) : fadeCode start goal total e =
    Fin.ofNat 256 (if start ≤ goal then start.val + fadeWay (goal.val - start.val) total e
      else start.val - fadeWay (start.val - goal.val) total e) := by
  unfold fadeCode fadeWay
  dsimp only
  split <;> rfl

theorem fadeCode_rising {start goal : Code} {total e : Nat} (h : start ≤ goal) (ht : 1 ≤ total) (he : e ≤ total) :
    (fadeCode start goal total e).val = start.val + fadeWay (goal.val - start.val) total e := by
  have way := fadeWay_le (goal.val - start.val) ht he
  have top := goal.isLt
  have low : start.val ≤ goal.val := h
  rw [fadeCode_eq, if_pos h]
  exact Nat.mod_eq_of_lt (by omega)

theorem fadeCode_falling {start goal : Code} {total e : Nat} (h : goal ≤ start) (ht : 1 ≤ total) (he : e ≤ total) :
    (fadeCode start goal total e).val = start.val - fadeWay (start.val - goal.val) total e := by
  rcases h.eq_or_lt with rfl | below
  · rw [fadeCode_rising (le_refl _) ht he, Nat.sub_self]
    have way := fadeWay_le 0 ht he
    omega
  · have top := start.isLt
    rw [fadeCode_eq, if_neg (not_le.mpr below)]
    exact Nat.mod_eq_of_lt (by omega)

theorem fadeCode_total (start goal : Code) {total : Nat} (ht : 1 ≤ total) : fadeCode start goal total total = goal := by
  apply Fin.ext
  rcases le_total start goal with h | h
  · have low : start.val ≤ goal.val := h
    rw [fadeCode_rising h ht (le_refl _), fadeWay_total _ ht]
    omega
  · have low : goal.val ≤ start.val := h
    rw [fadeCode_falling h ht (le_refl _), fadeWay_total _ ht]
    omega

theorem fadeCode_zero (start goal : Code) {total : Nat} (ht : 1 ≤ total) : fadeCode start goal total 0 = start := by
  apply Fin.ext
  rcases le_total start goal with h | h
  · rw [fadeCode_rising h ht (Nat.zero_le _), fadeWay_zero _ ht, Nat.add_zero]
  · rw [fadeCode_falling h ht (Nat.zero_le _), fadeWay_zero _ ht, Nat.sub_zero]

theorem fadeCode_mono {start goal : Code} {total d e : Nat} (h : start ≤ goal) (ht : 1 ≤ total) (he : e ≤ total)
    (hd : d ≤ e) : fadeCode start goal total d ≤ fadeCode start goal total e := by
  rw [Fin.le_def, fadeCode_rising h ht he, fadeCode_rising h ht (hd.trans he)]
  exact Nat.add_le_add_left (fadeWay_mono _ _ hd) _

theorem fadeCode_anti {start goal : Code} {total d e : Nat} (h : goal ≤ start) (ht : 1 ≤ total) (he : e ≤ total)
    (hd : d ≤ e) : fadeCode start goal total e ≤ fadeCode start goal total d := by
  rw [Fin.le_def, fadeCode_falling h ht he, fadeCode_falling h ht (hd.trans he)]
  exact Nat.sub_le_sub_left (fadeWay_mono _ _ hd) _

/-- A fade goes from its start to its goal one way, and reaches it (R67). -/
theorem fadeCode_between (start goal : Code) {total e : Nat} (ht : 1 ≤ total) (he : e ≤ total) :
    (start ≤ goal → start ≤ fadeCode start goal total e ∧ fadeCode start goal total e ≤ goal) ∧
    (goal ≤ start → goal ≤ fadeCode start goal total e ∧ fadeCode start goal total e ≤ start) := by
  have first := fadeCode_zero start goal ht
  have last := fadeCode_total start goal ht
  refine ⟨fun h => ⟨?_, ?_⟩, fun h => ⟨?_, ?_⟩⟩
  · exact first.symm.trans_le (fadeCode_mono h ht he (Nat.zero_le e))
  · exact (fadeCode_mono h ht (le_refl total) he).trans_eq last
  · exact last.symm.trans_le (fadeCode_anti h ht (le_refl total) he)
  · exact (fadeCode_anti h ht he (Nat.zero_le e)).trans_eq first

/-! ### A step of a fade, and its last (R67) -/

/-- One more period is counted of a fade on a target. -/
def stepped (x : FadeTarget) (g : Fade) : Fade := if g.target = x then { g with elapsed := g.elapsed + 1 } else g

theorem stepped_target (x : FadeTarget) (g : Fade) : (stepped x g).target = g.target := by
  unfold stepped
  split <;> rfl

theorem stepFade_of_not_last {f : Fade} (s : State) (h : f.elapsed + 1 < f.total) : stepFade f s =
    setTarget f.target (fadeCode f.start f.goal f.total (f.elapsed + 1))
      (modScene (fun x => { x with fades := x.fades.map (stepped f.target) }) s) := by
  rw [stepFade, if_neg (by simpa [lastStep] using h)]
  rfl

/-- A step that does not complete its fade: the code written, one period counted, and the other targets left (R67). -/
theorem stepFade_moves {f : Fade} {s : State} (running : fadeOn s f.target = some f) (h : f.elapsed + 1 < f.total) :
    Moves f.target s (stepFade f s) ∧
      targetCode (stepFade f s) f.target = fadeCode f.start f.goal f.total (f.elapsed + 1) ∧
      fadeOn (stepFade f s) f.target = some { f with elapsed := f.elapsed + 1 } := by
  have stepsOwn : ∀ g : Fade, g.target ≠ f.target → stepped f.target g = g := fun g ne => if_neg ne
  rw [stepFade_of_not_last s h]
  refine ⟨moves_trans (moves_modFades fun y ne => ?_) (moves_setTarget _ _ _), targetCode_setTarget_self _ _ _, ?_⟩
  · exact fadeOn_of_map_ne (stepped_target _) stepsOwn rfl ne
  · rw [fadeOn_of_map (s := s) (stepped_target f.target) (by rw [setTarget_scene]; rfl), running, Option.map_some, stepped,
      if_pos rfl]

/-- The last step of a fade: the goal written, the fade gone and counted, and the other targets left (R67). -/
theorem completeFade_moves (f : Fade) (s : State) :
    Moves f.target s (completeFade f s) ∧ targetCode (completeFade f s) f.target = f.goal ∧
      fadeOn (completeFade f s) f.target = none ∧ (completeFade f s).mix = (setTarget f.target f.goal s).mix ∧
      (completeFade f s).scene =
        { (setTarget f.target f.goal s).scene with fades := (completeFade f s).scene.fades } ∧
      countsOne .fadesCompleted s (completeFade f s) := by
  refine ⟨moves_trans (moves_trans (moves_setTarget _ _ s) (moves_dropFade _ _)) (moves_count _ _ _), ?_, ?_, rfl, rfl,
    ?_⟩
  · exact (targetCode_congr rfl rfl _).trans (targetCode_setTarget_self f.target f.goal s)
  · exact fadeOn_dropFade_self _ _
  · refine countsOne_of_counters (congrArg (fun v => tmod v (counterIx .fadesCompleted) saturatingSucc) ?_)
    exact setTarget_keeps f.target f.goal s .counters (by simp)

theorem finishFade_of_last {x : FadeTarget} {f : Fade} {s : State} (found : fadeOn s x = some f)
    (last : lastStep f = true) (runs : suspended s = false) : finishFade x s = completeFade f s := by
  rw [finishFade, found]
  simp [last, runs]

/-- A due change of the boundary in progress is carried out by its command (log entry 1). -/
theorem carriesOut_of_takeDue {i : Instr} {d : Due} {f : State → State} {s u : State}
    (command : exec i s = .next (takeDue d f s)) (due : isDue d s) (done : f (dropDue d s) = u)
    (boundary : u.boundary = (dropDue d s).boundary) : carriesOut i d s u :=
  ⟨by rw [command, takeDue_of_due f due, done], boundary⟩

theorem dropDue_keeps (d : Due) (s : State) : keepsBut [.boundary] s (dropDue d s) := keepsBut_modBoundary _ s

end Sys2Proof.Machine
end

section
namespace Sys2Proof.Machine

/-! ### Reports of one kind placed one after another (R202) -/

/-- A record stays while there is room, until one of its kind and subject is placed. -/
theorem mem_report_of_other {kind : ReportKind} {subject value : Nat} {s : State} {r : Report} (h : r ∈ s.reports.queue)
    (other : ¬(r.kind = kind ∧ r.subject = subject)) (room : s.reports.queue.length < 32) :
    r ∈ (report kind subject value s).reports.queue := by
  unfold report
  dsimp only
  split_ifs
  · exact h
  · exact List.mem_map.mpr ⟨r, h, if_neg other⟩
  · exact List.mem_append_left _ h

/-- The reports of one kind with the subjects and values given, placed in their order. -/
def reportAll (kind : ReportKind) (l : List (Nat × Nat)) (s : State) : State :=
  forEach l (fun r => report kind r.1 r.2) s

@[simp] theorem reportAll_nil (kind : ReportKind) (s : State) : reportAll kind [] s = s := rfl

@[simp] theorem reportAll_cons (kind : ReportKind) (r : Nat × Nat) (l : List (Nat × Nat)) (s : State) :
    reportAll kind (r :: l) s = reportAll kind l (report kind r.1 r.2 s) := rfl

theorem reportAll_append (kind : ReportKind) (l m : List (Nat × Nat)) (s : State) :
    reportAll kind (l ++ m) s = reportAll kind m (reportAll kind l s) := forEach_append l m _ s

theorem reportAll_keeps (kind : ReportKind) (l : List (Nat × Nat)) (s : State) :
    keepsBut [.reports, .counters] s (reportAll kind l s) :=
  keepsBut_forEach (fun (r : Nat × Nat) u => report_keeps kind r.1 r.2 u) l s

/-- What reports place depends on the mode, the period number and the report queue alone. -/
theorem reportAll_reports_congr (kind : ReportKind) (l : List (Nat × Nat)) {s t : State}
    (mode : t.control.mode = s.control.mode) (period : t.ring.period = s.ring.period) (reports : t.reports = s.reports) :
    (reportAll kind l t).reports = (reportAll kind l s).reports := by
  induction l generalizing s t with
  | nil => exact reports
  | cons r l ih =>
    have control : ∀ u, (report kind r.1 r.2 u).control = u.control :=
      fun u => report_keeps kind r.1 r.2 u .control (by simp)
    exact ih (by rw [control, control, mode]) (by rw [report_ring, report_ring, period])
      (report_reports_congr _ _ _ mode period reports)

/-- A record that none of the reports takes the place of stays while there is room. -/
theorem mem_reportAll_of_other {kind : ReportKind} {l : List (Nat × Nat)} {s : State} {r : Report}
    (h : r ∈ s.reports.queue) (other : ∀ x ∈ l, r.subject ≠ x.1) (room : s.reports.queue.length + l.length ≤ 32) :
    r ∈ (reportAll kind l s).reports.queue := by
  induction l generalizing s with
  | nil => exact h
  | cons x l ih =>
    rw [List.length_cons] at room
    have grown := length_report kind x.1 x.2 s
    rw [reportAll_cons]
    refine ih (mem_report_of_other h (fun same => ?_) (by omega)) (fun y hy => ?_) (by omega)
    · exact other x List.mem_cons_self same.2
    · exact other y (List.mem_cons_of_mem x hy)

/-- Reports on subjects of their own all stand in the queue in the end while there is room. -/
theorem recorded_reportAll {kind : ReportKind} {l : List (Nat × Nat)} {s : State} (mode : s.control.mode ≠ .unaddressed)
    (distinct : (l.map Prod.fst).Nodup) (room : s.reports.queue.length + l.length ≤ 32) :
    ∀ r ∈ l, recorded kind r.1 r.2 s (reportAll kind l s) := by
  induction l generalizing s with
  | nil => exact fun r hr => absurd hr (List.not_mem_nil)
  | cons x l ih =>
    rw [List.map_cons, List.nodup_cons] at distinct
    rw [List.length_cons] at room
    obtain ⟨fresh, rest⟩ := distinct
    have grown := length_report kind x.1 x.2 s
    have control : (report kind x.1 x.2 s).control = s.control := report_keeps kind x.1 x.2 s .control (by simp)
    intro r hr
    rw [reportAll_cons]
    rcases List.mem_cons.mp hr with rfl | later
    · exact mem_reportAll_of_other (s := report kind r.1 r.2 s) (recorded_report kind r.1 r.2 mode)
        (fun y hy same => fresh (List.mem_map.mpr ⟨y, hy, same.symm⟩)) (by omega)
    · have placed := ih (s := report kind x.1 x.2 s) (by rwa [control]) rest (by omega) r later
      rwa [recorded, report_ring] at placed

/-! ### Show hold (R69, R70) -/

/-- The scene unit is suspended while a zone is held (R70). -/
theorem isNoZones_eq_false_iff (zs : ZoneSet) : isNoZones zs = false ↔ ∃ z, tget zs z = true := by
  simp [isNoZones, zonesOf]

theorem suspended_iff (s : State) : suspended s = true ↔ ∃ z, tget s.scene.held z = true := by
  rw [suspended, Bool.not_eq_true', isNoZones_eq_false_iff]

theorem suspended_evaluateHold (s : State) : suspended (evaluateHold s) = !isNoZones (Vector.ofFn (showHold s)) := by
  rw [suspended, evaluateHold_scene]

theorem showHold_congr {s t : State} (mix : t.mix = s.mix) (claims : t.claims = s.claims) : showHold t = showHold s := by
  funext z
  unfold showHold onAirPriority listOf
  rw [mix, claims]

/-- The value of a SHOW-HOLD report (R69). -/
def holdValue (b : Bool) : Nat := if b then 1 else 0

/-- The reports that the evaluation of a zone makes: one where show hold has changed (R69). -/
def zoneReports (s : State) (l : List ZoneId) : List (Nat × Nat) :=
  (l.filter fun z => showHold s z != tget s.scene.held z).map fun z => (z.val, holdValue (showHold s z))

/-- The report of the suspension, where it has changed (R70). -/
def suspensionReports (s : State) : List (Nat × Nat) :=
  if suspended (evaluateHold s) = suspended s then [] else [(255, holdValue (suspended (evaluateHold s)))]

/-- The zones are evaluated one after another: what each reports depends on the state before the first. -/
theorem forEach_evaluateZone {s u : State} (l : List ZoneId) (same : showHold u = showHold s) :
    forEach l (evaluateZone s.scene.held) u = reportAll .showHold (zoneReports s l) u := by
  induction l generalizing u with
  | nil => rfl
  | cons z l ih =>
    rw [forEach_cons]
    by_cases changed : showHold s z = tget s.scene.held z
    · have fewer : zoneReports s (z :: l) = zoneReports s l := by simp [zoneReports, changed]
      have still : evaluateZone s.scene.held z u = u := by rw [evaluateZone, same, if_pos changed]
      rw [fewer, still, ih same]
    · have one : zoneReports s (z :: l) = (z.val, holdValue (showHold s z)) :: zoneReports s l := by
        simp [zoneReports, changed]
      have told : evaluateZone s.scene.held z u = report .showHold z.val (holdValue (showHold s z)) u := by
        rw [evaluateZone, same, if_neg changed, holdValue]
      have kept := report_keeps .showHold z.val (holdValue (showHold s z)) u
      rw [one, told, reportAll_cons, ih ((showHold_congr (kept .mix (by simp)) (kept .claims (by simp))).trans same)]

theorem suspended_evaluateHold_eq_iff (s : State) : suspended (evaluateHold s) = suspended s ↔
    isNoZones s.scene.held = isNoZones (Vector.ofFn fun z => showHold s z) := by
  rw [suspended_evaluateHold, suspended, Bool.not_inj_iff]
  exact eq_comm

/-- The evaluation of show hold places the reports of the zones, and then that of the suspension (R69, R70). -/
theorem evaluateHold_reports (s : State) : (evaluateHold s).reports =
    (reportAll .showHold (zoneReports s (everyFin 24) ++ suspensionReports s) s).reports := by
  have walk := forEach_evaluateZone (s := s) (everyFin 24) rfl
  have value : holdValue (suspended (evaluateHold s)) = if isNoZones (Vector.ofFn fun z => showHold s z) then 0 else 1 := by
    rw [suspended_evaluateHold, holdValue]
    cases isNoZones (Vector.ofFn (showHold s)) <;> rfl
  rw [reportAll_append, suspensionReports, value]
  simp only [suspended_evaluateHold_eq_iff]
  unfold evaluateHold
  dsimp only
  rw [walk]
  generalize reportAll .showHold (zoneReports s (everyFin 24)) s = u
  split
  · rw [reportAll_nil, modScene_reports]
  · rw [reportAll_cons, reportAll_nil]
    dsimp only
    refine report_reports_congr _ _ _ ?_ ?_ ?_
    · rw [modScene_control]
    · rw [modScene_ring]
    · rw [modScene_reports]

theorem length_zoneReports (s : State) : (zoneReports s (everyFin 24)).length ≤ 24 := by
  rw [zoneReports, List.length_map]
  exact (List.length_filter_le _ _).trans_eq (List.length_finRange)

theorem length_suspensionReports (s : State) : (suspensionReports s).length ≤ 1 := by
  unfold suspensionReports
  split <;> simp

theorem mem_zoneReports {s : State} {z : ZoneId} (h : showHold s z ≠ tget s.scene.held z) :
    (z.val, holdValue (showHold s z)) ∈ zoneReports s (everyFin 24) :=
  List.mem_map.mpr ⟨z, List.mem_filter.mpr ⟨List.mem_finRange z, bne_iff_ne.mpr h⟩, rfl⟩

theorem mem_suspensionReports {s : State} (h : suspended (evaluateHold s) ≠ suspended s) :
    (255, holdValue (suspended (evaluateHold s))) ∈ suspensionReports s := by
  rw [suspensionReports, if_neg h]
  exact List.mem_singleton_self _

/-- No two of the reports are on one subject: each zone has its own, and the suspension has 255. -/
theorem holdReports_distinct (s : State) :
    ((zoneReports s (everyFin 24) ++ suspensionReports s).map Prod.fst).Nodup := by
  have zones : (zoneReports s (everyFin 24)).map Prod.fst =
      ((everyFin 24).filter fun z => showHold s z != tget s.scene.held z).map Fin.val := by
    rw [zoneReports, List.map_map]
    rfl
  have below : ∀ n ∈ (zoneReports s (everyFin 24)).map Prod.fst, n < 24 := by
    rw [zones]
    rintro n hn
    obtain ⟨z, -, rfl⟩ := List.mem_map.mp hn
    exact z.isLt
  have last : ∀ n ∈ (suspensionReports s).map Prod.fst, n = 255 := by
    unfold suspensionReports
    split <;> simp
  have single : ((suspensionReports s).map Prod.fst).Nodup := by
    unfold suspensionReports
    split <;> simp
  rw [List.map_append]
  refine List.nodup_append'.mpr ⟨?_, single, fun n hz hl => ?_⟩
  · rw [zones]
    exact ((List.nodup_finRange 24).filter _).map Fin.val_injective
  · have := below n hz
    have := last n hl
    omega

/-- Every report of the evaluation of show hold stands in a queue that has room for all of them. -/
theorem evaluateHold_recorded {s : State} (mode : s.control.mode ≠ .unaddressed) (room : s.reports.queue.length ≤ 7)
    {r : Nat × Nat} (h : r ∈ zoneReports s (everyFin 24) ∨ r ∈ suspensionReports s) :
    recorded .showHold r.1 r.2 s (evaluateHold s) := by
  have zones := length_zoneReports s
  have last := length_suspensionReports s
  rw [recorded, evaluateHold_reports]
  exact recorded_reportAll mode (holdReports_distinct s) (by rw [List.length_append]; omega) r (List.mem_append.mpr h)

/-- Where no zone has changed, nothing is reported. -/
theorem evaluateHold_reports_same {s : State} (h : ∀ z, showHold s z = tget s.scene.held z) :
    (evaluateHold s).reports = s.reports := by
  have zones : zoneReports s (everyFin 24) = [] := by simp [zoneReports, h]
  have held : Vector.ofFn (showHold s) = s.scene.held := table_ext fun z => by rw [tget_ofFn, h]
  have last : suspensionReports s = [] := by
    rw [suspensionReports, suspended_evaluateHold, held]
    exact if_pos rfl
  rw [evaluateHold_reports, zones, last]
  rfl

theorem sceneDues_of_suspended {s : State} (h : suspended s = true) : sceneDues s = [] := by simp [sceneDues, h]

theorem stepFades_of_suspended {s : State} (h : suspended s = true) : stepFades s = s := by simp [stepFades, h]

/-- While the scene unit is suspended a due cue does not fire: its turn passes (R70). -/
theorem cueFire_of_suspended {s : State} (h : suspended s = true) (due : isDue .cueFire s) :
    carriesOut .cueFire .cueFire s (dropDue .cueFire s) :=
  carriesOut_of_takeDue (f := act .cueFire) rfl due (if_pos h) rfl

/-! ### Show hold at the local boundary (R69) -/

theorem closeBoundary_scene (s : State) : (closeBoundary s).scene = s.scene := by
  by_cases h : running s = true
  · rw [closeBoundary_of_running h]
    exact endedState_keeps _ _ _ _ _ _ .scene (by simp)
  · unfold closeBoundary
    dsimp only
    rw [if_neg h]
    rfl

/-- The end of a boundary's change leaves the scene, unless stages 1 and 2 of the scene unit are due. -/
theorem closeIfDone_scene {s : State} (h : ¬isDue .sceneWork s) : (closeIfDone s).scene = s.scene := by
  unfold closeIfDone
  rw [sceneTurn_of_none h]
  dsimp only
  split
  · exact closeBoundary_scene s
  · rfl

theorem stepFades_held (s : State) : (stepFades s).scene.held = s.scene.held := by
  have one : ∀ f u, (stepFade f u).scene.held = u.scene.held := by
    intro f u
    unfold stepFade
    split
    · rfl
    · rw [setTarget_scene]
      rfl
  unfold stepFades
  split
  · rfl
  · exact forEach_induct (fun u => u.scene.held = s.scene.held) stepFade _ (fun f _ u h => (one f u).trans h) s rfl

/-- At the local boundary of a running part with no program in its alarm channels the held zones are those in show hold,
where the scene unit comes first (R69). -/
theorem localBoundary_held {race : Race} {s : State} (hq : quiet s) (hr : running s = true) (first : race.holdAfter = none)
    (free : ∀ ch, (channelOf s ch).program = none) :
    ∃ t, exec (.localBoundary race) s = .next t ∧ t.scene.held = Vector.ofFn (showHold s) := by
  obtain ⟨timer, stages, -⟩ := Sys2Proof.localBoundary
  obtain ⟨u, ran, -, -, -, -, -, kept⟩ := timer race s hq
  have running' : running u = true := (running_eq_of_control (kept .control (by simp))).trans hr
  have free' : ∀ ch, (channelOf u ch).program = none := fun ch => by
    rw [channelOf, kept .alarm (by simp), ← channelOf, free ch]
  obtain ⟨w, opened, -, -, -, -, -, -, -, -, -, -, scene, -, -, -, -, -, -, -, -, -, -, -, due, -⟩ :=
    stages race u running' first fun ch => .inl (free' ch)
  refine ⟨closeIfDone w, ran.trans (congrArg _ opened), ?_⟩
  rw [closeIfDone_scene (due .sceneWork).mp, scene, stepFades_held, evaluateHold_scene,
    showHold_congr (kept .mix (by simp)) (kept .claims (by simp))]

/-- Settles O24: the codes by the way gone, a fade's steps by what they make of its target and its entry, and show hold by
the reports that its evaluation places. -/
theorem fades : Obligations.Fades := by
  refine ⟨fun start goal total e ht he => ?codes, fun f s running h => ?step, fun x f s due found last runs => ?complete,
    fun s => ?hold, fun race s hq hr first free => localBoundary_held hq hr first free⟩
  case codes =>
    obtain ⟨up, down⟩ := fadeCode_between start goal ht he
    exact ⟨fadeCode_total start goal ht, fadeCode_zero start goal ht,
      fun h => ⟨(up h).1, (up h).2, fun d hd => fadeCode_mono h ht he hd⟩,
      fun h => ⟨(down h).1, (down h).2, fun d hd => fadeCode_anti h ht he hd⟩⟩
  case step =>
    obtain ⟨moves, code, counted⟩ := stepFade_moves running h
    exact ⟨code, counted, moves.others, stepFade_keeps f s⟩
  case complete =>
    obtain rfl := fadeOn_target found
    obtain ⟨moves, code, gone, mix, scene, counted⟩ := completeFade_moves f (dropDue (.fadeComplete f.target) s)
    obtain ⟨active', mix'⟩ := setTarget_congr (s := s) (t := dropDue (.fadeComplete f.target) s) rfl rfl f.target f.goal
    have kept := keepsBut_trans (keepsBut_mono (by simp) (dropDue_keeps (.fadeComplete f.target) s))
      (keepsBut_mono (m := [.scene, .mix, .counters, .boundary]) (by simp) moves.keeps)
    refine ⟨_, carriesOut_of_takeDue rfl due (finishFade_of_last found last runs) (moves.keeps .boundary (by simp)),
      code, gone, fun y ne => ?_, mix.trans mix', ?_, counted, kept⟩
    · obtain ⟨code', fade'⟩ := moves.others y ne
      exact ⟨code'.trans (targetCode_congr rfl rfl y), fade'⟩
    · rw [scene, setTarget_scene, active', setTarget_scene f.target f.goal s]
      rfl
  case hold =>
    refine ⟨fun z => rfl, evaluateHold_scene s, evaluateHold_reports_same, fun mode room => ⟨fun z changed => ?_,
      fun before after => ?_, fun before after => ?_⟩, evaluateHold_keeps s, suspended_iff s,
      fun h => ⟨stepFades_of_suspended h, sceneDues_of_suspended h,
        fun due => ⟨_, cueFire_of_suspended h due, dropDue_keeps _ s⟩⟩, fun h => ?_⟩
    · exact evaluateHold_recorded mode room (.inl (mem_zoneReports changed))
    · have told := evaluateHold_recorded mode room (.inr (mem_suspensionReports (by rw [before, after]; decide)))
      rwa [after] at told
    · have told := evaluateHold_recorded mode room (.inr (mem_suspensionReports (by rw [before, after]; decide)))
      rwa [after] at told
    · simp [stepFades, h]

end Sys2Proof.Machine
end

section
namespace Sys2Proof.Machine

/-! ### Crosspoint fades cancelled, and the banks exchanged (R59, R68) -/

/-- The FADE-CANCELLED reports of the targets given, with the codes that they hold (R68). -/
def cancelReports (l : List FadeTarget) (s : State) : List (Nat × Nat) :=
  l.map fun x => (fadeSubject x, (targetCode s x).val)

theorem cancelReports_cons (x : FadeTarget) (l : List FadeTarget) (s : State) :
    cancelReports (x :: l) s = (fadeSubject x, (targetCode s x).val) :: cancelReports l s := rfl

/-- The targets of the crosspoint fades, in the order of the fade table (R68). -/
def crosspointTargets (s : State) : List FadeTarget := (s.scene.fades.filter fun f => isCrosspoint f.target).map (·.target)

theorem targetCode_cancelFade (x y : FadeTarget) (s : State) : targetCode (cancelFade x s) y = targetCode s y :=
  targetCode_congr (by rw [cancelFade_scene]) (cancelFade_keeps x s .mix (by simp)) y

theorem cancelFade_countsBut (x : FadeTarget) (s : State) :
    countsBut (.fadesCancelled :: reportCounts) s (cancelFade x s) :=
  countsBut_trans (countsBut_mono (s := s) (by simp [reportCounts])
    (report_countsBut .fadeCancelled (fadeSubject x) (targetCode s x).val (dropFade x s))) (count_countsBut (by simp) _)

theorem cancelFades_keeps (l : List FadeTarget) (s : State) :
    keepsBut [.scene, .reports, .counters] s (forEach l cancelFade s) := keepsBut_forEach cancelFade_keeps l s

theorem cancelFades_countsBut (l : List FadeTarget) (s : State) :
    countsBut (.fadesCancelled :: reportCounts) s (forEach l cancelFade s) :=
  forEach_induct (countsBut (.fadesCancelled :: reportCounts) s) cancelFade l
    (fun x _ u h => countsBut_trans h (cancelFade_countsBut x u)) s (countsBut_refl _ s)

theorem counterOf_cancelFades (l : List FadeTarget) (s : State) :
    counterOf (forEach l cancelFade s) .fadesCancelled = iterate saturatingSucc l.length (counterOf s .fadesCancelled) := by
  induction l generalizing s with
  | nil => rfl
  | cons x l ih => rw [forEach_cons, ih, counterOf_cancelFade]; rfl

theorem cancelFades_scene (l : List FadeTarget) (s : State) :
    (forEach l cancelFade s).scene = { s.scene with fades := s.scene.fades.filter fun f => f.target ∉ l } := by
  induction l generalizing s with
  | nil => simp
  | cons x l ih =>
    rw [forEach_cons, ih, cancelFade_scene]
    dsimp only
    rw [List.filter_filter]
    congr 1
    exact List.filter_congr fun f _ => by simp [Bool.and_comm]

theorem cancelFades_reports (l : List FadeTarget) (s : State) :
    (forEach l cancelFade s).reports = (reportAll .fadeCancelled (cancelReports l s) s).reports := by
  induction l generalizing s with
  | nil => rfl
  | cons x l ih =>
    have codes : cancelReports l (cancelFade x s) = cancelReports l s :=
      List.map_congr_left fun y _ => by rw [targetCode_cancelFade]
    have told := report_keeps .fadeCancelled (fadeSubject x) (targetCode s x).val s
    have kept := cancelFade_keeps x s
    rw [forEach_cons, ih, codes, cancelReports_cons, reportAll_cons]
    refine reportAll_reports_congr _ _ ?_ ?_ (cancelFade_reports x s)
    · rw [kept .control (by simp), told .control (by simp)]
    · rw [kept .ring (by simp), told .ring (by simp)]

/-- Only the fades on crosspoints are on a target of a crosspoint fade. -/
theorem filter_crosspointTargets (s : State) : (s.scene.fades.filter fun f => f.target ∉ crosspointTargets s) =
    s.scene.fades.filter fun f => !isCrosspoint f.target := by
  refine List.filter_congr fun f hf => Bool.eq_iff_iff.mpr ?_
  have iff : f.target ∈ crosspointTargets s ↔ isCrosspoint f.target = true := by
    refine ⟨fun h => ?_, fun h => List.mem_map.mpr ⟨f, List.mem_filter.mpr ⟨hf, h⟩, rfl⟩⟩
    obtain ⟨g, hg, same⟩ := List.mem_map.mp h
    rw [← same]
    exact (List.mem_filter.mp hg).2
  simp [iff]

/-- The reports and the count of the crosspoint fades that an exchange of the banks cancels, told in one walk. -/
theorem fadesCancelled_iff (s t : State) : fadesCancelled s t ↔
    t.reports = (reportAll .fadeCancelled (cancelReports (crosspointTargets s) s) s).reports ∧
      counterOf t .fadesCancelled = iterate saturatingSucc (crosspointTargets s).length (counterOf s .fadesCancelled) := by
  have walk : reportAll .fadeCancelled (cancelReports (crosspointTargets s) s) s =
      forEach (s.scene.fades.filter fun f => isCrosspoint f.target)
        (fun f => report .fadeCancelled (fadeSubject f.target) (targetCode s f.target).val) s := by
    simp only [reportAll, cancelReports, crosspointTargets, forEach, List.foldl_map]
  rw [fadesCancelled, walk, crosspointTargets, List.length_map]

/-- What an exchange of the banks cancels is told alike from a state with the same banks, fades, reports and counters. -/
theorem fadesCancelled_of_keeps {s u t : State} (kept : keepsBut [.scene, .boundary] s u)
    (active : u.scene.active = s.scene.active) (fades : u.scene.fades = s.scene.fades) (h : fadesCancelled u t) :
    fadesCancelled s t := by
  have targets : crosspointTargets u = crosspointTargets s := by rw [crosspointTargets, fades, crosspointTargets]
  have codes : cancelReports (crosspointTargets s) u = cancelReports (crosspointTargets s) s :=
    List.map_congr_left fun x _ => by rw [targetCode_congr active (kept .mix (by simp))]
  have counter : counterOf u .fadesCancelled = counterOf s .fadesCancelled := by
    rw [counterOf, kept .counters (by simp), counterOf]
  rw [fadesCancelled_iff] at h ⊢
  rw [targets, codes, counter] at h
  refine ⟨h.1.trans (reportAll_reports_congr _ _ ?_ ?_ (kept .reports (by simp))), h.2⟩
  · rw [kept .control (by simp)]
  · rw [kept .ring (by simp)]

/-- The banks exchanged whole (R59). -/
def swapBanks (x : Scene) : Scene := { x with active := x.staged, staged := x.active }

theorem exchangeBanks_eq (s : State) : exchangeBanks s =
    count .bankSwaps (modScene swapBanks (forEach (crosspointTargets s) cancelFade s)) := rfl

/-- The exchange of the banks: what it leaves of the scene, what it counts and what it reports (R59, R68). -/
theorem exchangeBanks_facts (s : State) :
    (exchangeBanks s).scene = { s.scene with
      active := s.scene.staged
      staged := s.scene.active
      fades := s.scene.fades.filter fun f => !isCrosspoint f.target } ∧
    counterOf (exchangeBanks s) .bankSwaps = saturatingSucc (counterOf s .bankSwaps) ∧
    fadesCancelled s (exchangeBanks s) ∧
    countsBut (.bankSwaps :: .fadesCancelled :: reportCounts) s (exchangeBanks s) ∧
    keepsBut [.scene, .reports, .counters] s (exchangeBanks s) := by
  have scene := cancelFades_scene (crosspointTargets s) s
  have counts := cancelFades_countsBut (crosspointTargets s) s
  have cancelled := counterOf_cancelFades (crosspointTargets s) s
  have reports := cancelFades_reports (crosspointTargets s) s
  have kept := cancelFades_keeps (crosspointTargets s) s
  rw [filter_crosspointTargets] at scene
  rw [exchangeBanks_eq]
  generalize forEach (crosspointTargets s) cancelFade s = u at scene counts cancelled reports kept
  refine ⟨?_, ?_, (fadesCancelled_iff s _).mpr ⟨reports, ?_⟩, ?_, ?_⟩
  · change swapBanks u.scene = _
    rw [scene]
    rfl
  · rw [counterOf_count]
    exact congrArg _ (counterOf_of_countsBut counts (by decide))
  · exact (counterOf_of_countsBut (count_countsBut (l := [.bankSwaps]) (by simp) _) (by decide)).trans cancelled
  · exact countsBut_trans (countsBut_mono (fun _ h => List.mem_cons_of_mem _ h) counts) (count_countsBut (by simp) _)
  · exact keepsBut_trans kept (keepsBut_trans (keepsBut_mono (by simp) (keepsBut_modScene _ _))
      (keepsBut_mono (by simp) (count_keeps _ _)))

/-! ### A target moved by a cue (R65, R66) -/

/-- The counters of a LEVEL or MASTER action (R65, R66). -/
def moveCounts : List Counter := [.fadeReplaced, .fadesStarted, .fadeDegraded]

theorem setTarget_countsBut (l : List Counter) (x : FadeTarget) (c : Code) (s : State) : countsBut l s (setTarget x c s) :=
  countsBut_of_counters (setTarget_keeps x c s .counters (by simp))

theorem setTarget_fades (x : FadeTarget) (c : Code) (s : State) : (setTarget x c s).scene.fades = s.scene.fades := by
  rw [setTarget_scene]

/-- The new fade of a target: from the code held to the goal, over n periods (R66). -/
def newFade (x : FadeTarget) (goal : Code) (n : Nat) (s : State) : Fade := ⟨x, targetCode s x, goal, n, 0⟩

/-- The fade table with the fade on a target replaced (R66). -/
def replaceFade (new : Fade) (l : List Fade) : List Fade := l.map fun f => if f.target = new.target then new else f

/-- A target set at once: a fade on it ends, and is counted FADE-REPLACED (R65). -/
theorem setAtOnce_facts (x : FadeTarget) (goal : Code) (s : State) :
    Moves x s (setAtOnce x goal s) ∧ targetCode (setAtOnce x goal s) x = goal ∧ fadeOn (setAtOnce x goal s) x = none ∧
      (setAtOnce x goal s).mix = (setTarget x goal s).mix ∧
      counterOf (setAtOnce x goal s) .fadeReplaced = (if (fadeOn s x).isSome
        then saturatingSucc (counterOf s .fadeReplaced) else counterOf s .fadeReplaced) ∧
      countsBut [.fadeReplaced] s (setAtOnce x goal s) := by
  have written := moves_setTarget x goal s
  have code := targetCode_setTarget_self x goal s
  have counts : ∀ l, countsBut l s (setTarget x goal s) := fun l => setTarget_countsBut l x goal s
  unfold setAtOnce
  dsimp only
  split
  · refine ⟨moves_trans (moves_trans written (moves_dropFade x _)) (moves_count x _ _),
      (targetCode_congr rfl rfl x).trans code, fadeOn_dropFade_self x _, rfl, ?_, ?_⟩
    · rw [counterOf_count]
      exact congrArg _ (counts [] _ (by simp))
    · exact countsBut_trans (counts _) (count_countsBut (by simp) (dropFade x (setTarget x goal s)))
  · next free =>
    refine ⟨written, code, ?_, rfl, counts [] _ (by simp), counts _⟩
    rw [fadeOn_congr (setTarget_fades x goal s)]
    exact Option.not_isSome_iff_eq_none.mp free

theorem moves_replaceFade (new : Fade) (s : State) :
    Moves new.target s (modScene (fun a => { a with fades := replaceFade new a.fades }) s) := by
  refine moves_modFades fun y ne => fadeOn_of_map_ne (fun f => ?_) (fun f other => if_neg other) rfl ne
  split
  · next same => exact same.symm
  · rfl

theorem moves_addFade (new : Fade) (s : State) :
    Moves new.target s (modScene (fun a => { a with fades := a.fades ++ [new] }) s) := by
  refine moves_modFades (g := fun l => l ++ [new]) fun y ne => ?_
  rw [fadeOn, modScene_scene, List.find?_append, fadeOn]
  simp [Ne.symm ne]

theorem moves_beginFade (x : FadeTarget) (goal : Code) (n : Nat) (s : State) : Moves x s (beginFade x goal n s) := by
  unfold beginFade
  dsimp only
  split_ifs
  · exact moves_trans (moves_trans (moves_replaceFade (newFade x goal n s) s) (moves_count x _ _)) (moves_count x _ _)
  · exact moves_trans (moves_addFade (newFade x goal n s) s) (moves_count x _ _)
  · exact moves_trans (moves_setTarget x goal s) (moves_count x _ _)

theorem beginFade_countsBut (x : FadeTarget) (goal : Code) (n : Nat) (s : State) :
    countsBut moveCounts s (beginFade x goal n s) := by
  have one : ∀ {c u}, c ∈ moveCounts → countsBut moveCounts s u → countsBut moveCounts s (count c u) :=
    fun hc h => countsBut_trans h (count_countsBut hc _)
  unfold beginFade
  dsimp only
  split_ifs
  · exact one (by simp [moveCounts]) (one (by simp [moveCounts]) (countsBut_of_counters rfl))
  · exact one (by simp [moveCounts]) (countsBut_of_counters rfl)
  · exact one (by simp [moveCounts]) (setTarget_countsBut _ x goal s)

/-- A fade begins in place of the one on its target (R66). -/
theorem beginFade_replacing {x : FadeTarget} {s : State} (goal : Code) (n : Nat) (h : (fadeOn s x).isSome = true) :
    (beginFade x goal n s).scene = { s.scene with fades := replaceFade (newFade x goal n s) s.scene.fades } ∧
      (beginFade x goal n s).mix = s.mix ∧
      counterOf (beginFade x goal n s) .fadeReplaced = saturatingSucc (counterOf s .fadeReplaced) ∧
      counterOf (beginFade x goal n s) .fadesStarted = saturatingSucc (counterOf s .fadesStarted) ∧
      countsBut [.fadeReplaced, .fadesStarted] s (beginFade x goal n s) := by
  have begun : beginFade x goal n s = count .fadesStarted (count .fadeReplaced
      (modScene (fun a => { a with fades := replaceFade (newFade x goal n s) a.fades }) s)) := by
    rw [beginFade, if_pos h]
    rfl
  have other : ∀ {c d u}, counterIx c ≠ counterIx d → counterOf (count d u) c = counterOf u c :=
    fun {_ d u} ne => counterOf_of_countsBut (count_countsBut (l := [d]) (by simp) u) (by simpa using ne)
  rw [begun]
  refine ⟨rfl, rfl, ?_, ?_, ?_⟩
  · rw [other (by decide), counterOf_count]
    rfl
  · rw [counterOf_count, other (by decide)]
    rfl
  · exact countsBut_trans (s := s) (count_countsBut (by simp) (modScene _ s)) (count_countsBut (by simp) _)

/-- A fade begins in a new place of the table (R66). -/
theorem beginFade_new {x : FadeTarget} {s : State} (goal : Code) (n : Nat) (free : fadeOn s x = none)
    (room : s.scene.fades.length < 16) : beginFade x goal n s =
      count .fadesStarted (modScene (fun a => { a with fades := a.fades ++ [newFade x goal n s] }) s) := by
  rw [beginFade, free]
  simp [room, newFade]

/-- With the table full the target is set at once (R66). -/
theorem beginFade_full {x : FadeTarget} {s : State} (goal : Code) (n : Nat) (free : fadeOn s x = none)
    (full : 16 ≤ s.scene.fades.length) : beginFade x goal n s = count .fadeDegraded (setTarget x goal s) := by
  rw [beginFade, free]
  simp [full]

theorem moveTarget_moves (x : FadeTarget) (goal : Code) (n : Nat) (s : State) :
    Moves x s (moveTarget x goal n s) ∧ countsBut moveCounts s (moveTarget x goal n s) := by
  obtain ⟨moves, -, -, -, -, counts⟩ := setAtOnce_facts x goal s
  unfold moveTarget
  split
  · exact ⟨moves, countsBut_mono (by simp [moveCounts]) counts⟩
  · exact ⟨moves_beginFade x goal n s, beginFade_countsBut x goal n s⟩

theorem moveTarget_atOnce {x : FadeTarget} {goal : Code} {n : Nat} {s : State} (h : n = 0 ∨ targetCode s x = goal) :
    moveTarget x goal n s = setAtOnce x goal s := if_pos h

theorem moveTarget_fading {x : FadeTarget} {goal : Code} {n : Nat} {s : State} (h : 0 < n)
    (away : targetCode s x ≠ goal) : moveTarget x goal n s = beginFade x goal n s := if_neg (by simp [away]; omega)

end Sys2Proof.Machine
end

section
namespace Sys2Proof.Machine

/-! ### What a cue does when it fires (R64, R65) -/

/-- What any action of a cue leaves: the cue list, the held zones, and every block but the scene unit's and the zones'. -/
theorem cueAct_facts (e : CueEffect) (s : State) :
    (cueAct e s).scene.cues = s.scene.cues ∧ (cueAct e s).scene.held = s.scene.held ∧
      counterOf (cueAct e s) .cuesFired = counterOf s .cuesFired ∧
      keepsBut [.scene, .mix, .reports, .counters] s (cueAct e s) := by
  have move : ∀ x goal n, (moveTarget x goal n s).scene.cues = s.scene.cues ∧
      (moveTarget x goal n s).scene.held = s.scene.held ∧
      counterOf (moveTarget x goal n s) .cuesFired = counterOf s .cuesFired ∧
      keepsBut [.scene, .mix, .reports, .counters] s (moveTarget x goal n s) := fun x goal n => by
    obtain ⟨moves, counts⟩ := moveTarget_moves x goal n s
    exact ⟨by rw [moves.scene], by rw [moves.scene], counterOf_of_countsBut counts (by decide),
      keepsBut_mono (by simp) moves.keeps⟩
  cases e with
  | swap =>
    obtain ⟨scene, -, -, counts, kept⟩ := exchangeBanks_facts s
    exact ⟨(congrArg Scene.cues scene :), (congrArg Scene.held scene :), counterOf_of_countsBut counts (by decide),
      keepsBut_mono (by simp) kept⟩
  | level z i goal n => exact move (.crosspoint z i) goal n
  | master z goal n => exact move (.master z) goal n

/-- The state that a due cue finds: its change has left the list of those due, and the cue the cue list (R64). -/
def cueTaken (rest : List Cue) (s : State) : State := modScene (fun x => { x with cues := rest }) (dropDue .cueFire s)

/-- The state after a due cue has fired (R64). -/
def cueFired (c : Cue) (rest : List Cue) (s : State) : State := count .cuesFired (cueAct c.action (cueTaken rest s))

theorem cueTaken_keeps (rest : List Cue) (s : State) : keepsBut [.scene, .boundary] s (cueTaken rest s) :=
  keepsBut_trans (keepsBut_mono (by simp) (dropDue_keeps .cueFire s)) (keepsBut_mono (by simp) (keepsBut_modScene _ _))

theorem targetCode_cueTaken (rest : List Cue) (s : State) (x : FadeTarget) :
    targetCode (cueTaken rest s) x = targetCode s x := targetCode_congr rfl rfl x

theorem newFade_cueTaken (x : FadeTarget) (goal : Code) (n : Nat) (rest : List Cue) (s : State) :
    newFade x goal n (cueTaken rest s) = newFade x goal n s := by
  rw [newFade, targetCode_cueTaken, newFade]

theorem setTarget_mix_cueTaken (x : FadeTarget) (goal : Code) (rest : List Cue) (s : State) :
    (setTarget x goal (cueTaken rest s)).mix = (setTarget x goal s).mix :=
  (setTarget_congr (s := s) (t := cueTaken rest s) rfl rfl x goal).2

theorem takeCue_congr {s t : State} (ring : t.ring = s.ring) (l : List Cue) : takeCue t l = takeCue s l := by
  induction l with
  | nil => rfl
  | cons c cs ih =>
    have same : cueReached t c = cueReached s c := by rw [cueReached, ring, cueReached]
    rw [takeCue, takeCue, same, ih]

/-- Where no fade is due to complete, none is settled before a cue fires (R63). -/
theorem settleFades_of_none {s : State} (h : ∀ t, ¬isDue (.fadeComplete t) s) : settleFades s = s := by
  have empty : s.boundary.due.filterMap fadeDue = [] := List.filterMap_eq_nil_iff.mpr fun d hd => by
    cases d with
    | fadeComplete t => exact absurd hd (h t)
    | _ => rfl
  rw [settleFades, empty, forEach_nil]

/-- The command of a cue that is due fires the first due cue of the list, where no fade is due to complete (R63, R64). -/
theorem carriesOut_cueFire {c : Cue} {rest : List Cue} {s : State} (due : isDue .cueFire s) (runs : suspended s = false)
    (fades : ∀ t, ¬isDue (.fadeComplete t) s) (first : takeCue s s.scene.cues = some (c, rest)) :
    carriesOut .cueFire .cueFire s (cueFired c rest s) := by
  have still : ∀ t, ¬isDue (.fadeComplete t) (dropDue .cueFire s) := fun t h => fades t (List.mem_of_mem_erase h)
  have taken : takeCue (dropDue .cueFire s) (dropDue .cueFire s).scene.cues = some (c, rest) :=
    (takeCue_congr (s := s) (t := dropDue .cueFire s) rfl _).trans first
  have acts : act .cueFire (dropDue .cueFire s) = cueFired c rest s := by
    have runs' : ¬suspended (dropDue .cueFire s) = true := Bool.eq_false_iff.mp runs
    rw [act, if_neg runs', settleFades_of_none still, fireCue, taken]
    rfl
  obtain ⟨-, -, -, kept⟩ := cueAct_facts c.action (cueTaken rest s)
  exact carriesOut_of_takeDue rfl due acts (kept .boundary (by simp))

theorem counterOf_cueFired {c : Cue} {rest : List Cue} {s : State} {d : Counter}
    (h : counterIx d ≠ counterIx .cuesFired) :
    counterOf (cueFired c rest s) d = counterOf (cueAct c.action (cueTaken rest s)) d :=
  counterOf_of_countsBut (count_countsBut (l := [.cuesFired]) (by simp) _) (by simpa using h)

/-- What a cue counts is the cue, and what its action counts. -/
theorem cueFired_countsBut {c : Cue} {rest : List Cue} {s : State} {l : List Counter}
    (h : countsBut l (cueTaken rest s) (cueAct c.action (cueTaken rest s))) :
    countsBut (.cuesFired :: l) s (cueFired c rest s) :=
  countsBut_trans (countsBut_of_counters (cueTaken_keeps rest s .counters (by simp)))
    (countsBut_trans (countsBut_mono (fun _ h => List.mem_cons_of_mem _ h) h) (count_countsBut (by simp) _))

/-- A SWAP (R59, R65, R68). -/
theorem cueFired_swap {c : Cue} (rest : List Cue) (s : State) (swap : c.action = .swap) :
    (cueFired c rest s).scene.active = s.scene.staged ∧ (cueFired c rest s).scene.staged = s.scene.active ∧
      (cueFired c rest s).scene.fades = (s.scene.fades.filter fun f => !isCrosspoint f.target) ∧
      counterOf (cueFired c rest s) .bankSwaps = saturatingSucc (counterOf s .bankSwaps) ∧
      fadesCancelled s (cueFired c rest s) ∧
      countsBut [.cuesFired, .bankSwaps, .fadesCancelled, .reportsCoalesced, .reportsDropped] s (cueFired c rest s) ∧
      keepsBut [.scene, .reports, .counters, .boundary] s (cueFired c rest s) := by
  obtain ⟨scene, swaps, cancelled, counts, kept⟩ := exchangeBanks_facts (cueTaken rest s)
  have acts : cueAct c.action (cueTaken rest s) = exchangeBanks (cueTaken rest s) := by rw [swap, cueAct]
  rw [← acts] at scene swaps cancelled counts kept
  have told : fadesCancelled (cueTaken rest s) (cueFired c rest s) :=
    ⟨cancelled.1, (counterOf_cueFired (by decide)).trans cancelled.2⟩
  exact ⟨congrArg Scene.active scene, congrArg Scene.staged scene, congrArg Scene.fades scene,
    (counterOf_cueFired (by decide)).trans swaps, fadesCancelled_of_keeps (cueTaken_keeps rest s) rfl rfl told,
    cueFired_countsBut counts, keepsBut_trans (keepsBut_mono (by simp) (cueTaken_keeps rest s))
      (keepsBut_trans (keepsBut_mono (by simp) kept) (keepsBut_mono (by simp) (count_keeps _ _)))⟩

section
variable {c : Cue} {rest : List Cue} {s : State} {x : FadeTarget} {goal : Code} {n : Nat}
  (acts : cueAct c.action (cueTaken rest s) = moveTarget x goal n (cueTaken rest s))
include acts

/-- What a LEVEL or MASTER leaves (R65). -/
theorem cueFired_move : (cueFired c rest s).scene.staged = s.scene.staged ∧
    (∀ z i, x = .crosspoint z i → (cueFired c rest s).mix = s.mix) ∧
    (∀ z, x = .master z → (cueFired c rest s).scene.active = s.scene.active) ∧
    (∀ y, y ≠ x → targetCode (cueFired c rest s) y = targetCode s y ∧ fadeOn (cueFired c rest s) y = fadeOn s y) ∧
    keepsBut [.scene, .mix, .counters, .boundary] s (cueFired c rest s) := by
  have moves : Moves x (cueTaken rest s) (cueFired c rest s) := by
    rw [cueFired, acts]
    exact moves_trans (moveTarget_moves x goal n _).1 (moves_count x _ _)
  refine ⟨(congrArg Scene.staged moves.scene :), moves.mix, moves.active, fun y ne => ?_,
    keepsBut_trans (keepsBut_mono (by simp) (cueTaken_keeps rest s)) (keepsBut_mono (by simp) moves.keeps)⟩
  obtain ⟨code, fade⟩ := moves.others y ne
  exact ⟨code.trans (targetCode_cueTaken rest s y), fade⟩

/-- A LEVEL or MASTER over 0 periods, or to the code held (R65). -/
theorem cueFired_atOnce (h : n = 0 ∨ targetCode s x = goal) : targetCode (cueFired c rest s) x = goal ∧
    fadeOn (cueFired c rest s) x = none ∧ (cueFired c rest s).mix = (setTarget x goal s).mix ∧
    counterOf (cueFired c rest s) .fadeReplaced = (if (fadeOn s x).isSome
      then saturatingSucc (counterOf s .fadeReplaced) else counterOf s .fadeReplaced) ∧
    countsBut [.cuesFired, .fadeReplaced] s (cueFired c rest s) := by
  rw [← targetCode_cueTaken rest s] at h
  obtain ⟨-, code, gone, mix, replaced, counts⟩ := setAtOnce_facts x goal (cueTaken rest s)
  rw [← moveTarget_atOnce h, ← acts] at code gone mix replaced counts
  exact ⟨(targetCode_congr rfl rfl x).trans code, gone, mix.trans (setTarget_mix_cueTaken x goal rest s),
    (counterOf_cueFired (by decide)).trans replaced, cueFired_countsBut counts⟩

section
variable (lasts : 0 < n) (away : targetCode s x ≠ goal)
include lasts away

theorem cueFired_begins : cueAct c.action (cueTaken rest s) = beginFade x goal n (cueTaken rest s) :=
  acts.trans (moveTarget_fading lasts (by rwa [targetCode_cueTaken]))

/-- A fade in place of the fade on its target (R66). -/
theorem cueFired_replacing (running : (fadeOn s x).isSome = true) :
    (cueFired c rest s).scene =
      { s.scene with cues := rest, fades := replaceFade (newFade x goal n s) s.scene.fades } ∧
    (cueFired c rest s).mix = s.mix ∧
    counterOf (cueFired c rest s) .fadeReplaced = saturatingSucc (counterOf s .fadeReplaced) ∧
    counterOf (cueFired c rest s) .fadesStarted = saturatingSucc (counterOf s .fadesStarted) ∧
    countsBut [.cuesFired, .fadeReplaced, .fadesStarted] s (cueFired c rest s) := by
  obtain ⟨scene, mix, replaced, started, counts⟩ := beginFade_replacing (s := cueTaken rest s) goal n running
  rw [← cueFired_begins acts lasts away] at scene mix replaced started counts
  rw [newFade_cueTaken] at scene
  exact ⟨scene, mix, (counterOf_cueFired (by decide)).trans replaced, (counterOf_cueFired (by decide)).trans started,
    cueFired_countsBut counts⟩

/-- A fade in a new place of the table (R66). -/
theorem cueFired_new (free : fadeOn s x = none) (room : s.scene.fades.length < 16) :
    (cueFired c rest s).scene = { s.scene with cues := rest, fades := s.scene.fades ++ [newFade x goal n s] } ∧
    (cueFired c rest s).mix = s.mix ∧
    counterOf (cueFired c rest s) .fadesStarted = saturatingSucc (counterOf s .fadesStarted) ∧
    countsBut [.cuesFired, .fadesStarted] s (cueFired c rest s) := by
  have begun := (cueFired_begins acts lasts away).trans (beginFade_new (s := cueTaken rest s) goal n free room)
  rw [newFade_cueTaken] at begun
  refine ⟨by rw [cueFired, begun]; rfl, by rw [cueFired, begun]; rfl, ?_, cueFired_countsBut ?_⟩
  · rw [counterOf_cueFired (by decide), begun, counterOf_count]
    rfl
  · rw [begun]
    exact count_countsBut (by simp) (modScene _ (cueTaken rest s))

/-- With the table full the target set at once (R66). -/
theorem cueFired_full (free : fadeOn s x = none) (full : 16 ≤ s.scene.fades.length) :
    targetCode (cueFired c rest s) x = goal ∧ (cueFired c rest s).scene.fades = s.scene.fades ∧
    (cueFired c rest s).mix = (setTarget x goal s).mix ∧
    counterOf (cueFired c rest s) .fadeDegraded = saturatingSucc (counterOf s .fadeDegraded) ∧
    countsBut [.cuesFired, .fadeDegraded] s (cueFired c rest s) := by
  have begun := (cueFired_begins acts lasts away).trans (beginFade_full (s := cueTaken rest s) goal n free full)
  have written := setTarget_countsBut [] x goal (cueTaken rest s)
  refine ⟨?_, ?_, ?_, ?_, cueFired_countsBut ?_⟩
  · rw [cueFired, begun]
    exact (targetCode_congr rfl rfl x).trans (targetCode_setTarget_self x goal (cueTaken rest s))
  · rw [cueFired, begun]
    exact setTarget_fades x goal (cueTaken rest s)
  · rw [cueFired, begun]
    exact setTarget_mix_cueTaken x goal rest s
  · rw [counterOf_cueFired (by decide), begun, counterOf_count]
    exact congrArg saturatingSucc (counterOf_of_countsBut written (by simp))
  · rw [begun]
    exact countsBut_trans (setTarget_countsBut _ x goal _) (count_countsBut (by simp) _)

end

end

/-- Settles O25, by the action of the cue: a SWAP, or a target moved at once, by a fade, or degraded. -/
theorem cueFires : Obligations.CueFires := by
  intro c rest s due runs noFade first
  obtain ⟨cues, held, fired, -⟩ := cueAct_facts c.action (cueTaken rest s)
  refine ⟨cueFired c rest s, carriesOut_cueFire due runs noFade first, cues, held, ?counted, cueFired_swap rest s,
    fun x goal n action => ?move⟩
  case counted =>
    rw [cueFired, counterOf_count, fired]
    rfl
  case move =>
    have acts : cueAct c.action (cueTaken rest s) = moveTarget x goal n (cueTaken rest s) := by
      rcases action with ⟨z, i, rfl, action⟩ | ⟨z, rfl, action⟩ <;> rw [action, cueAct]
    obtain ⟨staged, mix, active, others, kept⟩ := cueFired_move acts
    exact ⟨staged, mix, active, others, cueFired_atOnce acts, fun lasts away => ⟨cueFired_replacing acts lasts away,
      cueFired_new acts lasts away, cueFired_full acts lasts away⟩, kept⟩

/-! ### BANK-SWAP, CUE-ADD and CUE-CLEAR (R59, R61, R62) -/

section
variable {s : State} (h : ready s)
include h

theorem exec_bankSwap : exec .bankSwap s = .next (commandDone .ok (exchangeBanks s)) := by
  simp only [exec, execBankSwap, settle_of_quiet h.1, operation_of_ready _ h]

theorem exec_cueAdd_outOfRange (n : Fin 256) (due : Word32) {a : CueAction} (bad : cueEffect a = none) :
    exec (.cueAdd n due a) s = .next (commandDone .outOfRange s) := by
  simp only [exec, execCueAdd, settle_of_quiet h.1, operation_of_ready _ h, bad]

theorem exec_cueAdd (n : Fin 256) (due : Word32) {a : CueAction} {e : CueEffect} (effect : cueEffect a = some e) :
    exec (.cueAdd n due a) s = .next (if 16 ≤ s.scene.cues.length then commandDone .busy s
      else commandDone .ok (modScene (fun x => { x with cues := insertCue ⟨n, due, e⟩ x.cues }) s)) := by
  simp only [exec, execCueAdd, settle_of_quiet h.1, operation_of_ready _ h, effect]

theorem exec_cueClear_all :
    exec (.cueClear none) s = .next (commandDone .ok (modScene (fun x => { x with cues := [] }) s)) := by
  simp only [exec, execCueClear, settle_of_quiet h.1, operation_of_ready _ h]

theorem exec_cueClear (n : Fin 256) :
    exec (.cueClear (some n)) s = .next (if s.scene.cues.any (fun c => c.number == n) then
      commandDone .ok (modScene (fun x => { x with cues := x.cues.filter fun c => c.number != n }) s)
      else commandDone .notFound s) := by
  simp only [exec, execCueClear, settle_of_quiet h.1, operation_of_ready _ h]

end

/-- A cue is inserted immediately before the first cue that is due later (R61). -/
theorem insertCue_place (new : Cue) (l : List Cue) : ∃ before after, l = before ++ after ∧
    insertCue new l = before ++ new :: after ∧ (∀ x ∈ before, laterThan x.due new.due = false) ∧
    ∀ x ∈ after.head?, laterThan x.due new.due = true := by
  induction l with
  | nil => exact ⟨[], [], rfl, rfl, by simp, by simp⟩
  | cons c cs ih =>
    by_cases later : laterThan c.due new.due = true
    · exact ⟨[], c :: cs, rfl, if_pos later, by simp, by simp [later]⟩
    · obtain ⟨before, after, split, placed, earlier, first⟩ := ih
      refine ⟨c :: before, after, by rw [split]; rfl, ?_, ?_, first⟩
      · rw [insertCue, if_neg later, placed]
        rfl
      · exact List.forall_mem_cons.mpr ⟨Bool.eq_false_iff.mpr later, earlier⟩

/-- The answer OK to an operation that has left the ring and the control interpreter alone. -/
theorem commandDone_finished {s u : State} {l : List Part} (kept : keepsBut l s u) (ring : .ring ∉ l)
    (control : .control ∉ l) : Finished .ok .none s u (commandDone .ok u) :=
  finishOperation_finished (kept .ring ring) (by rw [kept .control control]) rfl

/-- An operation whose effect is a change of the scene unit alone, answered OK. -/
theorem sceneChange_done (f : Scene → Scene) (s : State) :
    answered .ok s (commandDone .ok (modScene f s)) ∧ (commandDone .ok (modScene f s)).scene = f s.scene ∧
      keepsBut (.scene :: answerParts) s (commandDone .ok (modScene f s)) ∧
      answerKept s (commandDone .ok (modScene f s)) := by
  have changed := keepsBut_modScene f s
  have done := commandDone_finished changed (by simp) (by simp)
  exact ⟨done.answer, done.keeps .scene (by simp),
    keepsBut_trans (keepsBut_mono (by simp) changed) (keepsBut_mono (by simp) done.keeps), done.kept⟩

/-- Settles O26, operation by operation. -/
theorem sceneOperations : Obligations.SceneOperations := by
  intro s hs
  refine ⟨?swap, fun n due a => ⟨fun bad => ?range, fun good full => ?busy, fun e effect room => ?added⟩, ?cleared,
    fun n => ⟨fun listed => ?removed, fun absent => ?missing⟩⟩
  case swap =>
    obtain ⟨scene, swaps, cancelled, -, kept⟩ := exchangeBanks_facts s
    have done := commandDone_finished kept (by simp) (by simp)
    have after : (commandDone .ok (exchangeBanks s)).scene = _ := (done.keeps .scene (by simp)).trans scene
    have reports : (commandDone .ok (exchangeBanks s)).reports = _ := done.keeps .reports (by simp)
    refine ⟨_, exec_bankSwap hs, done.answer, by rw [after], by rw [after], by rw [after], by rw [after], by rw [after],
      ?_, ⟨reports.trans cancelled.1, ?_⟩, keepsBut_trans (keepsBut_mono (by simp) kept)
        (keepsBut_mono (by simp) done.keeps), done.kept⟩
    · exact (counterOf_of_countsBut done.counts (by decide)).trans swaps
    · exact (counterOf_of_countsBut done.counts (by decide)).trans cancelled.2
  case range => exact ⟨_, exec_cueAdd_outOfRange hs n due bad, commandDone_refused rfl s⟩
  case busy =>
    obtain ⟨e, effect⟩ := Option.ne_none_iff_exists'.mp good
    exact ⟨_, by rw [exec_cueAdd hs n due effect, if_pos full], commandDone_refused rfl s⟩
  case added =>
    obtain ⟨before, after, split, placed, earlier, later⟩ := insertCue_place ⟨n, due, e⟩ s.scene.cues
    obtain ⟨answer, scene, kept, reply⟩ :=
      sceneChange_done (fun x => { x with cues := insertCue ⟨n, due, e⟩ x.cues }) s
    rw [placed] at scene
    exact ⟨_, before, after, by rw [exec_cueAdd hs n due effect, if_neg (not_le.mpr room)], answer, split, scene, earlier,
      later, kept, reply⟩
  case cleared => exact ⟨_, exec_cueClear_all hs, sceneChange_done (fun x => { x with cues := [] }) s⟩
  case removed =>
    have found : s.scene.cues.any (fun c => c.number == n) = true := by simpa using listed
    obtain ⟨answer, scene, kept, reply⟩ :=
      sceneChange_done (fun x => { x with cues := x.cues.filter fun c => c.number != n }) s
    refine ⟨_, by rw [exec_cueClear hs, if_pos found], answer, scene.trans ?_, kept, reply⟩
    have same : (s.scene.cues.filter fun c => c.number != n) = s.scene.cues.filter fun x => x.number ≠ n :=
      List.filter_congr fun x _ => Bool.eq_iff_iff.mpr (by simp)
    rw [same]
  case missing =>
    have missing : ¬s.scene.cues.any (fun c => c.number == n) = true := by simpa using absent
    exact ⟨_, by rw [exec_cueClear hs, if_neg missing], commandDone_refused rfl s⟩

end Sys2Proof.Machine
end

section
namespace Sys2Proof.Machine

-- Declarations are elaborated one at a time: each thread's stack counts against the check's memory limit.
set_option Elab.async false

/-! ### The place of a new entry (R78, R82 to R84) -/

theorem outranks_iff (a b : Claim) : outranks a b = true ↔
    b.priority < a.priority ∨ a.priority = b.priority ∧ b.rank < a.rank := by simp [outranks]

theorem outranks_false_iff (a b : Claim) : outranks a b = false ↔
    a.priority < b.priority ∨ a.priority = b.priority ∧ a.rank ≤ b.rank := by
  rw [← Bool.not_eq_true, outranks_iff]
  omega

/-- A claim outranks every claim that stands behind one it outranks. -/
theorem outranks_of_behind {a b c : Claim} (h : outranks a b = true) (k : outranks c b = false) : outranks a c = true := by
  rw [outranks_iff] at *
  rw [outranks_false_iff] at k
  omega

theorem not_outranks_of_outranks {a b : Claim} (h : outranks a b = true) : outranks b a = false := by
  rw [outranks_iff] at h
  rw [outranks_false_iff]
  omega

/-- A claim may stand before another: the other does not outrank it (R78). -/
def precedes (s : State) (a b : ClaimId) : Prop :=
  ∀ x y, claimAt s a = some x → claimAt s b = some y → outranks y x = false

/-- The claims that have an entry in a zone's list, in its order. -/
def claimsIn (s : State) (z : ZoneId) : List ClaimId := (listOf s z).map (·.claim)

/-- Whether entries are in order is a matter of their claims alone. -/
theorem pairwise_standsBefore_iff (s : State) (l : List ListEntry) :
    l.Pairwise (standsBefore s) ↔ (l.map (·.claim)).Pairwise (precedes s) := by
  rw [List.pairwise_map]
  rfl

theorem claim_mem_claimsIn {s : State} {z : ZoneId} {e : ListEntry} (h : e ∈ listOf s z) : e.claim ∈ claimsIn s z :=
  List.mem_map_of_mem h

theorem entryIn_isNone_iff {s : State} {z : ZoneId} {c : ClaimId} : entryIn (listOf s z) c = none ↔ c ∉ claimsIn s z := by
  rw [entryIn_eq_none]
  simp [claimsIn]

/-- The claims of a list that gives up an entry's flag of the first place are the same. -/
theorem claims_pushFirst (l : List ListEntry) : (pushFirst l).map (·.claim) = l.map (·.claim) := by
  cases l with
  | nil => rfl
  | cons e es =>
    rw [pushFirst]
    split <;> rfl

section
variable {s : State} {cl : Claim}

/-- The new entry comes before the first entry that its claim outranks (R78, R82). -/
theorem insertIn_place (new : ListEntry) {l : List ListEntry} (held : ∀ e ∈ l, (claimAt s e.claim).isSome = true) :
    ∃ before after, l = before ++ after ∧ insertIn s.claims.table cl new l = before ++ new :: after ∧
      (∀ e ∈ before, ∀ x, claimAt s e.claim = some x → outranks cl x = false) ∧
      ∀ e ∈ after.head?, ∀ x, claimAt s e.claim = some x → outranks cl x = true := by
  induction l with
  | nil => exact ⟨[], [], rfl, rfl, by simp, by simp⟩
  | cons e es ih =>
    obtain ⟨first, rest⟩ := List.forall_mem_cons.mp held
    obtain ⟨x, at_e⟩ := Option.isSome_iff_exists.mp first
    have same : ∀ y, claimAt s e.claim = some y → y = x := fun y hy => Option.some.inj (hy.symm.trans at_e)
    have table : tget s.claims.table e.claim = some x := at_e
    cases above : outranks cl x with
    | true =>
      refine ⟨[], e :: es, rfl, by simp [insertIn, table, above], by simp, fun f hf y hy => ?_⟩
      obtain rfl : e = f := by simpa using hf
      rw [same y hy, above]
    | false =>
      obtain ⟨before, after, split, placed, ahead, behind⟩ := ih rest
      refine ⟨e :: before, after, by rw [split]; rfl, by simp [insertIn, table, above, placed], ?_, behind⟩
      exact List.forall_mem_cons.mpr ⟨fun y hy => by rw [same y hy, above], ahead⟩

/-- In an ordered list a claim that outranks the first entry outranks them all. -/
theorem outranks_all {l : List ListEntry} (held : ∀ e ∈ l, (claimAt s e.claim).isSome = true)
    (ordered : l.Pairwise (standsBefore s))
    (first : ∀ e ∈ l.head?, ∀ x, claimAt s e.claim = some x → outranks cl x = true) :
    ∀ e ∈ l, ∀ x, claimAt s e.claim = some x → outranks cl x = true := by
  cases l with
  | nil => simp
  | cons e es =>
    obtain ⟨x, at_e⟩ := Option.isSome_iff_exists.mp (held e List.mem_cons_self)
    have above := first e rfl x at_e
    refine List.forall_mem_cons.mpr ⟨first e rfl, fun f hf y at_f => ?_⟩
    exact outranks_of_behind above ((List.pairwise_cons.mp ordered).1 f hf x y at_e at_f)

/-- The first place is taken in an empty list, and from an entry whose claim is outranked (R82). -/
theorem takesFirst_cons {e : ListEntry} {x : Claim} (es : List ListEntry) (h : claimAt s e.claim = some x) :
    takesFirst s.claims.table cl (e :: es) = outranks cl x := by
  rw [takesFirst, onAirIn, show tget s.claims.table e.claim = some x from h]
  rfl

/-- Where an insertion puts the new entry, and what it leaves of the others (R82, R84). -/
theorem inserted_place (c : ClaimId) (live : Bool) {l : List ListEntry}
    (held : ∀ e ∈ l, (claimAt s e.claim).isSome = true) (ordered : l.Pairwise (standsBefore s)) :
    ∃ before after, l = before ++ after ∧
      (inserted s.claims.table c cl live l).map (·.claim) = before.map (·.claim) ++ c :: after.map (·.claim) ∧
      (before ≠ [] → inserted s.claims.table c cl live l = before ++ ⟨c, live, false⟩ :: after) ∧
      (before = [] → inserted s.claims.table c cl live l = ⟨c, live, true⟩ :: pushFirst after) ∧
      (∀ e ∈ before, ∀ x, claimAt s e.claim = some x → outranks cl x = false) ∧
      (∀ e ∈ after, ∀ x, claimAt s e.claim = some x → outranks cl x = true) := by
  cases takes : takesFirst s.claims.table cl l with
  | true =>
    have first : ∀ e ∈ l.head?, ∀ x, claimAt s e.claim = some x → outranks cl x = true := by
      cases l with
      | nil => simp
      | cons e es =>
        intro f hf x at_f
        obtain rfl : e = f := by simpa using hf
        rwa [takesFirst_cons es at_f] at takes
    have placed : inserted s.claims.table c cl live l = ⟨c, live, true⟩ :: pushFirst l := if_pos takes
    refine ⟨[], l, rfl, ?_, fun h => absurd rfl h, fun _ => placed, by simp, outranks_all held ordered first⟩
    rw [placed, List.map_cons, claims_pushFirst]
    rfl
  | false =>
    have placed : inserted s.claims.table c cl live l = insertIn s.claims.table cl ⟨c, live, false⟩ l :=
      if_neg (by simp [takes])
    obtain ⟨before, after, split, put, ahead, behind⟩ := insertIn_place (cl := cl) ⟨c, live, false⟩ held
    have some_before : before ≠ [] := by
      rintro rfl
      cases after with
      | nil => simp [split, takesFirst, onAirIn] at takes
      | cons e es =>
        obtain ⟨x, at_e⟩ := Option.isSome_iff_exists.mp (held e (by simp [split]))
        rw [split, List.nil_append, takesFirst_cons es at_e, behind e rfl x at_e] at takes
        cases takes
    have sorted : after.Pairwise (standsBefore s) := (List.pairwise_append.mp (split ▸ ordered)).2.1
    refine ⟨before, after, split, by simp [placed, put], fun _ => placed.trans put, fun h => absurd h some_before, ahead,
      outranks_all (fun e he => held e (by simp [split, he])) sorted behind⟩

/-- An insertion keeps a list in order (R78). -/
theorem inserted_pairwise {c : ClaimId} (live : Bool) {l : List ListEntry} (own : claimAt s c = some cl)
    (held : ∀ e ∈ l, (claimAt s e.claim).isSome = true) (ordered : l.Pairwise (standsBefore s)) :
    (inserted s.claims.table c cl live l).Pairwise (standsBefore s) := by
  obtain ⟨before, after, split, claims, -, -, ahead, behind⟩ := inserted_place (cl := cl) c live held ordered
  have same : ∀ y, claimAt s c = some y → y = cl := fun y hy => Option.some.inj (hy.symm.trans own)
  have join : (before ++ ⟨c, live, false⟩ :: after).Pairwise (standsBefore s) := by
    obtain ⟨left, right, across⟩ := List.pairwise_append.mp (split ▸ ordered)
    refine List.pairwise_append.mpr ⟨left, List.pairwise_cons.mpr ⟨fun e he x y at_c at_e => ?_, right⟩, fun e he f hf => ?_⟩
    · exact same x at_c ▸ not_outranks_of_outranks (behind e he y at_e)
    · rcases List.mem_cons.mp hf with rfl | hf
      · exact fun x y at_e at_c => same y at_c ▸ ahead e he x at_e
      · exact across e he f hf
  rw [pairwise_standsBefore_iff] at join ⊢
  rw [claims]
  simpa using join

end

/-- The claims of a list with a new entry are those of the list and the new one's, wherever it stands. -/
theorem claims_inserted_perm (table : Vector (Option Claim) 48) (c : ClaimId) (cl : Claim) (live : Bool)
    (l : List ListEntry) : ((inserted table c cl live l).map (·.claim)).Perm (c :: l.map (·.claim)) := by
  have within : ∀ l : List ListEntry, ((insertIn table cl ⟨c, live, false⟩ l).map (·.claim)).Perm (c :: l.map (·.claim)) := by
    intro l
    induction l with
    | nil => exact .refl _
    | cons e es ih =>
      have behind : ((e :: insertIn table cl ⟨c, live, false⟩ es).map (·.claim)).Perm (c :: (e :: es).map (·.claim)) :=
        (ih.cons e.claim).trans (.swap _ _ _)
      unfold insertIn
      split
      · split
        · exact .refl _
        · exact behind
      · exact behind
  unfold inserted
  split
  · rw [List.map_cons, claims_pushFirst]
  · exact within l

end Sys2Proof.Machine
end

section
namespace Sys2Proof.Machine

-- Declarations are elaborated one at a time: each thread's stack counts against the check's memory limit.
set_option Elab.async false

/-! ### What every step keeps of the claim lists (R78, R83, R91) -/

/-- The priority and rank of a claim, by which entries stand in order. -/
def standing (s : State) (c : ClaimId) : Option (Nat × Nat) := (claimAt s c).map fun x => (x.priority, x.rank)

/-- Lists lose claims alone, and a claim of the table that stays in a list keeps its standing. -/
structure ListsShrink (s t : State) : Prop where
  lists : ∀ z, (claimsIn t z).Sublist (claimsIn s z)
  stands : ∀ z, ∀ c ∈ claimsIn t z, (claimAt s c).isSome = true → standing t c = standing s c

/-- The bounds and the order of the lists of one state are those of another too. -/
structure KeepsLists (s t : State) : Prop where
  short : listsOk s → listsOk t
  held : entriesHeld s → entriesHeld t
  ordered : entriesHeld s → listsOrdered s → listsOrdered t

theorem standing_isSome (s : State) (c : ClaimId) : (standing s c).isSome = (claimAt s c).isSome := Option.isSome_map

theorem entriesHeld_iff (s : State) : entriesHeld s ↔ ∀ z, ∀ c ∈ claimsIn s z, (claimAt s c).isSome = true := by
  simp [entriesHeld, claimsIn]

theorem listsOrdered_iff (s : State) : listsOrdered s ↔ ∀ z, (claimsIn s z).Pairwise (precedes s) ∧ (claimsIn s z).Nodup :=
  forall_congr' fun _ => and_congr (pairwise_standsBefore_iff s _) .rfl

/-- Who precedes whom depends on the standing of claims alone. -/
theorem precedes_of_standing {s t : State} {a b : ClaimId} (at_a : standing t a = standing s a)
    (at_b : standing t b = standing s b) (h : precedes s a b) : precedes t a b := by
  intro x y hx hy
  simp only [standing, hx, hy, Option.map_some] at at_a at_b
  obtain ⟨x', hx', same_x⟩ := Option.map_eq_some_iff.mp at_a.symm
  obtain ⟨y', hy', same_y⟩ := Option.map_eq_some_iff.mp at_b.symm
  have before := h x' y' hx' hy'
  obtain ⟨px, rx⟩ := Prod.mk.inj same_x
  obtain ⟨py, ry⟩ := Prod.mk.inj same_y
  rwa [outranks, px, rx, py, ry] at before

theorem ListsShrink.keeps {s t : State} (h : ListsShrink s t) : KeepsLists s t where
  short ok z := by
    have := (h.lists z).length_le
    simp only [claimsIn, List.length_map] at this
    exact this.trans (ok z)
  held ok := by
    rw [entriesHeld_iff] at ok ⊢
    intro z c hc
    have before := ok z c ((h.lists z).subset hc)
    rw [← standing_isSome, h.stands z c hc before, standing_isSome, before]
  ordered held ok := by
    rw [entriesHeld_iff] at held
    rw [listsOrdered_iff] at ok ⊢
    intro z
    have same : ∀ c ∈ claimsIn t z, standing t c = standing s c := fun c hc =>
      h.stands z c hc (held z c ((h.lists z).subset hc))
    exact ⟨((ok z).1.sublist (h.lists z)).imp_of_mem fun ha hb => precedes_of_standing (same _ ha) (same _ hb),
      (ok z).2.sublist (h.lists z)⟩

theorem ListsShrink.of_claims {s t : State} (h : t.claims = s.claims) : ListsShrink s t where
  lists z := by rw [claimsIn, listOf, h]; rfl
  stands _ c _ _ := by rw [standing, claimAt, h]; rfl

theorem ListsShrink.trans {s t u : State} (h : ListsShrink s t) (k : ListsShrink t u) : ListsShrink s u where
  lists z := (k.lists z).trans (h.lists z)
  stands z c hc at_s := by
    have before := h.stands z c ((k.lists z).subset hc) at_s
    have at_t : (claimAt t c).isSome = true := by rw [← standing_isSome, before, standing_isSome, at_s]
    rw [k.stands z c hc at_t, before]

/-- The lists stay, and each claim of the table keeps its standing. -/
theorem ListsShrink.of_standing {s t : State} (lists : t.claims.lists = s.claims.lists)
    (table : ∀ c, standing t c = standing s c) : ListsShrink s t where
  lists z := by rw [claimsIn, listOf, lists]; rfl
  stands _ c _ _ := table c

/-- One list changes, and the table stays. -/
theorem ListsShrink.setList {s : State} {z : ZoneId} {l : List ListEntry}
    (h : (l.map (·.claim)).Sublist (claimsIn s z)) : ListsShrink s (setList z l s) where
  lists y := by
    by_cases e : z = y
    · subst e
      rwa [claimsIn, listOf_setList_self]
    · rw [claimsIn, listOf_setList_ne l s e]
      rfl
  stands _ _ _ _ := rfl

theorem standing_modClaim {f : Claim → Claim} (hp : ∀ x, (f x).priority = x.priority) (hr : ∀ x, (f x).rank = x.rank)
    (c d : ClaimId) (s : State) : standing (modClaim c f s) d = standing s d := by
  have table : claimAt (modClaim c f s) d = if c = d then (claimAt s d).map f else claimAt s d := tget_tmod _ _ _ _
  rw [standing, table]
  split
  · simp [standing, Function.comp_def, hp, hr]
  · rfl

protected theorem KeepsLists.refl (s : State) : KeepsLists s s := ⟨id, id, fun _ => id⟩

protected theorem KeepsLists.trans {s t u : State} (h : KeepsLists s t) (k : KeepsLists t u) : KeepsLists s u :=
  ⟨k.short ∘ h.short, k.held ∘ h.held, fun held ok => k.ordered (h.held held) (h.ordered held ok)⟩

/-! #### Updates of the claim unit, and of the other blocks -/

section
variable {s t : State} (h : KeepsLists s t)
include h

protected theorem KeepsLists.shrinks {u : State} (k : ListsShrink t u) : KeepsLists s u := h.trans k.keeps

/-- A change of other blocks. -/
protected theorem KeepsLists.same {u : State} (k : u.claims = t.claims) : KeepsLists s u := h.shrinks (.of_claims k)

protected theorem KeepsLists.parts {l : List Part} {u : State} (k : keepsBut l t u) (hl : Part.claims ∉ l := by decide) :
    KeepsLists s u := h.same (k .claims hl)

/-- A change of the claim unit that is none of its table and its lists. -/
protected theorem KeepsLists.modClaims {f : Claims → Claims} (lists : ∀ x, (f x).lists = x.lists := by intro; rfl)
    (table : ∀ x, (f x).table = x.table := by intro; rfl) : KeepsLists s (modClaims f t) :=
  h.shrinks (.of_standing (lists _) fun c => by rw [standing, claimAt, modClaims_claims, table]; rfl)

/-- A change of one claim that is none of its priority and its rank. -/
protected theorem KeepsLists.modClaim {c : ClaimId} {f : Claim → Claim}
    (hp : ∀ x, (f x).priority = x.priority := by intro; rfl) (hr : ∀ x, (f x).rank = x.rank := by intro; rfl) :
    KeepsLists s (modClaim c f t) :=
  h.shrinks (.of_standing rfl fun d => standing_modClaim hp hr c d t)

protected theorem KeepsLists.ite {c : Prop} [Decidable c] {u : State} (k : KeepsLists s u) :
    KeepsLists s (if c then t else u) := by
  split
  · exact h
  · exact k

/-- What each change of a walk keeps, the walk keeps. -/
protected theorem KeepsLists.forEach {α : Type} {l : List α} {f : α → State → State}
    (hf : ∀ a u, KeepsLists s u → KeepsLists s (f a u)) : KeepsLists s (forEach l f t) :=
  forEach_induct (KeepsLists s) f l (fun a _ u => hf a u) t h

protected theorem KeepsLists.snd {α : Type} {a : α} : KeepsLists s (a, t).2 := h

protected theorem KeepsLists.modRing {f} : KeepsLists s (modRing f t) := h.same rfl
protected theorem KeepsLists.modSlots {f} : KeepsLists s (modSlots f t) := h.same rfl
protected theorem KeepsLists.modMix {f} : KeepsLists s (modMix f t) := h.same rfl
protected theorem KeepsLists.modScene {f} : KeepsLists s (modScene f t) := h.same rfl
protected theorem KeepsLists.modPeer {f} : KeepsLists s (modPeer f t) := h.same rfl
protected theorem KeepsLists.modIntercom {f} : KeepsLists s (modIntercom f t) := h.same rfl
protected theorem KeepsLists.modAlarm {f} : KeepsLists s (modAlarm f t) := h.same rfl
protected theorem KeepsLists.modClips {f} : KeepsLists s (modClips f t) := h.same rfl
protected theorem KeepsLists.modLines {f} : KeepsLists s (modLines f t) := h.same rfl
protected theorem KeepsLists.modControl {f} : KeepsLists s (modControl f t) := h.same rfl
protected theorem KeepsLists.modReports {f} : KeepsLists s (modReports f t) := h.same rfl
protected theorem KeepsLists.modCounters {f} : KeepsLists s (modCounters f t) := h.same rfl
protected theorem KeepsLists.modBoundary {f} : KeepsLists s (modBoundary f t) := h.same rfl

protected theorem KeepsLists.count {c : Counter} : KeepsLists s (count c t) := h.same rfl

protected theorem KeepsLists.report {kind : ReportKind} {subject value : Nat} :
    KeepsLists s (report kind subject value t) := h.parts (report_keeps kind subject value t)

protected theorem KeepsLists.finishOperation {owed : Bool} {code : ResultCode} {data : ResultData} :
    KeepsLists s (finishOperation owed code data t) := h.parts (finishOperation_keeps owed code data t)

protected theorem KeepsLists.commandDone {code : ResultCode} : KeepsLists s (commandDone code t) := h.finishOperation

protected theorem KeepsLists.claimAnswer {framed : Bool} {code : ResultCode} {data : ResultData} :
    KeepsLists s (claimAnswer framed code data t) := by
  unfold Machine.claimAnswer
  exact .ite h.finishOperation (.ite h.modControl.count h.modControl)

/-! #### The end of a claim (R91, R96) -/

protected theorem KeepsLists.reportUnless {quiet : Bool} {kind : ReportKind} {subject value : Nat} :
    KeepsLists s (reportUnless quiet kind subject value t) := .ite h h.report

protected theorem KeepsLists.noteZone {quiet : Bool} {z : ZoneId} : KeepsLists s (noteZone quiet z t) := by
  unfold Machine.noteZone
  exact .ite h h.modClaims.reportUnless

protected theorem KeepsLists.removeEntry {quiet : Bool} {c : ClaimId} {z : ZoneId} :
    KeepsLists s (removeEntry quiet c z t) :=
  (h.shrinks (.setList ((List.filter_sublist (l := listOf t z)).map _))).noteZone

/-- A claim that no list names leaves the table. -/
protected theorem KeepsLists.freed {c : ClaimId} (gone : ∀ z, c ∉ claimsIn t z) : KeepsLists s (freed c t) :=
  h.shrinks
    { lists := fun _ => .refl _
      stands := fun z d hd _ => by
        have other : c ≠ d := by rintro rfl; exact gone z hd
        rw [standing, claimAt_freed, if_neg other]
        rfl }

end
end Sys2Proof.Machine
end

section
namespace Sys2Proof.Machine

-- Declarations are elaborated one at a time: each thread's stack counts against the check's memory limit.
set_option Elab.async false

/-! #### Where entries come and go (R78, R82 to R84, R91) -/

theorem noteZone_lists (quiet : Bool) (z : ZoneId) (s : State) :
    (noteZone quiet z s).claims.lists = s.claims.lists ∧ (noteZone quiet z s).claims.table = s.claims.table := by
  unfold noteZone reportUnless
  dsimp only
  split_ifs
  · exact ⟨rfl, rfl⟩
  · exact ⟨rfl, rfl⟩
  · rw [report_keeps _ _ _ _ .claims (by decide)]
    exact ⟨rfl, rfl⟩

@[simp] theorem listOf_noteZone (quiet : Bool) (z y : ZoneId) (s : State) : listOf (noteZone quiet z s) y = listOf s y :=
  congrArg (tget · y) (noteZone_lists quiet z s).1

@[simp] theorem claimAt_noteZone (quiet : Bool) (z : ZoneId) (c : ClaimId) (s : State) :
    claimAt (noteZone quiet z s) c = claimAt s c := congrArg (tget · c) (noteZone_lists quiet z s).2

/-- A walk that takes a claim's entry from every list that has one leaves none. -/
theorem not_mem_removeEntries (quiet : Bool) (c : ClaimId) {zs : List ZoneId} {s : State}
    (h : ∀ y, y ∉ zs → c ∉ claimsIn s y) (y : ZoneId) : c ∉ claimsIn (forEach zs (removeEntry quiet c) s) y := by
  induction zs generalizing s with
  | nil => exact h y (by simp)
  | cons z zs ih =>
    refine ih fun x hx => ?_
    by_cases e : z = x
    · subst e
      simp [claimsIn, removeEntry]
    · have same : claimsIn (removeEntry quiet c z s) x = claimsIn s x := by
        rw [claimsIn, removeEntry, listOf_noteZone, listOf_setList_ne _ _ e]
        rfl
      rw [same]
      exact h x (by simp [Ne.symm e, hx])

theorem not_mem_of_not_mem_zonesWhere {s : State} {c : ClaimId} {z : ZoneId} (h : z ∉ zonesWhere s c fun _ => true) :
    c ∉ claimsIn s z := by
  rw [mem_zonesWhere, not_not] at h
  exact entryIn_isNone_iff.mp h

/-- One list takes in an entry of a claim of the table, in the place of its standing, of a list that had room or has given
one entry up (R82, R83). -/
theorem KeepsLists.inserted {s t : State} (h : KeepsLists s t) {c : ClaimId} {cl : Claim} {live : Bool} {z : ZoneId}
    {l : List ListEntry} (own : claimAt t c = some cl) (part : l.Sublist (listOf t z))
    (room : l.length < max 4 (listOf t z).length) (new : entriesHeld s → c ∉ claimsIn t z) :
    KeepsLists s (setList z (inserted t.claims.table c cl live l) t) where
  short ok y := by
    by_cases e : z = y
    · subst e
      have grown := (claims_inserted_perm t.claims.table c cl live l).length_eq
      simp only [List.length_map, List.length_cons] at grown
      have := h.short ok z
      rw [listOf_setList_self, grown]
      omega
    · rw [listOf_setList_ne _ t e]
      exact h.short ok y
  held ok := by
    have before := (entriesHeld_iff t).mp (h.held ok)
    rw [entriesHeld_iff]
    intro y d hd
    change (claimAt t d).isSome = true
    by_cases e : z = y
    · subst e
      rw [claimsIn, listOf_setList_self, (claims_inserted_perm t.claims.table c cl live l).mem_iff, List.mem_cons] at hd
      rcases hd with rfl | hd
      · rw [own]; rfl
      · exact before z d ((part.map _).subset hd)
    · rw [claimsIn, listOf_setList_ne _ t e] at hd
      exact before y d hd
  ordered held ok y := by
    have before := h.ordered held ok
    by_cases e : z = y
    · subst e
      have kept : (l.map (·.claim)).Sublist (claimsIn t z) := part.map _
      rw [listOf_setList_self]
      refine ⟨inserted_pairwise live own (fun f hf => h.held held z f (part.subset hf)) ((before z).1.sublist part), ?_⟩
      rw [(claims_inserted_perm t.claims.table c cl live l).nodup_iff, List.nodup_cons]
      exact ⟨fun listed => new held (kept.subset listed), (before z).2.sublist kept⟩
    · rw [listOf_setList_ne _ t e]
      exact before y

/-- A claim created in a free place of the table (R80). -/
theorem shrink_setClaim {s : State} {c : ClaimId} (cl : Claim) (free : claimAt s c = none) :
    ListsShrink s (modClaims (fun x => { x with table := tset x.table c (some cl) }) s) where
  lists _ := .refl _
  stands _ d _ held := by
    have other : c ≠ d := by rintro rfl; simp [free] at held
    rw [standing, claimAt, modClaims_claims, tget_tset_ne _ _ other]
    rfl

theorem tellCreated_keeps (c : ClaimId) (cl : Claim) (s : State) :
    keepsBut [.slots, .intercom, .clips, .alarm] s (tellCreated c cl s) := by
  unfold tellCreated
  split
  · exact keepsBut_trans (keepsBut_mono (by simp) (rebind_keeps _ _ s)) (keepsBut_trans
      (keepsBut_mono (by simp) (keepsBut_modIntercom _ _)) (keepsBut_mono (by simp) (keepsBut_modIntercom _ _)))
  · split
    · exact keepsBut_mono (by simp) (keepsBut_modClips _ s)
    · exact keepsBut_refl _ s
  · exact keepsBut_mono (by simp) (keepsBut_modAlarm _ s)
  · exact keepsBut_refl _ s

theorem createClaim_claims (c : ClaimId) (cl : Claim) (s : State) :
    (createClaim c cl s).claims = { s.claims with
      table := tset s.claims.table c (some cl)
      chimeGen := if cl.chime ∧ 0 < cl.timer then ⟨if isNote s.claims.chimeTable 0 then some (0, 0) else none, 0⟩
        else s.claims.chimeGen } := by
  have told : ∀ u, (tellCreated c cl (count .claimsStarted u)).claims = u.claims := fun u =>
    (tellCreated_keeps c cl _ .claims (by decide)).trans (count_keeps _ u .claims (by decide))
  unfold createClaim restartChime
  dsimp only
  by_cases sounding : cl.chime ∧ 0 < cl.timer
  · rw [if_pos sounding, if_pos sounding, modClaims_claims, told]
    rfl
  · rw [if_neg sounding, if_neg sounding, told]
    rfl

theorem mem_of_insertEntry {c : ClaimId} {live : Bool} {z y : ZoneId} {s : State} {e : ListEntry} (other : z ≠ y)
    (h : e ∈ listOf (insertEntry c live z s) y) : e ∈ listOf s y := by
  unfold insertEntry at h
  dsimp only at h
  split at h
  · exact h
  · split at h
    · rwa [listOf_noteZone, listOf_setList_ne _ _ other] at h
    · split at h
      · have listed := mem_of_loseEntry h
        rw [listOf, count_keeps _ _ .claims (by decide), ← listOf, listOf_noteZone, listOf_setList_ne _ _ other] at listed
        exact listed
      · exact h

section
variable {s t : State} (h : KeepsLists s t)
include h

protected theorem KeepsLists.releaseSlot {c : ClaimId} {cl : Claim} {reason : EndReason} :
    KeepsLists s (releaseSlot c cl reason t) := h.parts (releaseSlot_keeps c cl reason t)

protected theorem KeepsLists.tellOwner {c : ClaimId} {cl : Claim} {reason : EndReason} :
    KeepsLists s (tellOwner c cl reason t) := h.parts (tellOwner_parts c cl reason t)

protected theorem KeepsLists.endClaim {reason : EndReason} {c : ClaimId} : KeepsLists s (endClaim reason c t) := by
  unfold Machine.endClaim
  split
  · exact h
  · next cl _ =>
    have unlisted := h.forEach (l := zonesWhere t c fun _ => true) (f := removeEntry (reason == .reset) c)
      fun _ _ k => k.removeEntry
    refine ((unlisted.releaseSlot (c := c) (cl := cl) (reason := reason)).freed fun z => ?_).tellOwner.reportUnless
    rw [claimsIn, listOf, releaseSlot_keeps _ _ _ _ .claims (by decide)]
    exact not_mem_removeEntries _ c (fun y hy => not_mem_of_not_mem_zonesWhere hy) z

protected theorem KeepsLists.loseEntry {c : ClaimId} : KeepsLists s (loseEntry c t) := by
  unfold Machine.loseEntry
  exact .ite h.modClaim h.modClaim.endClaim

/-- An insertion keeps the order of lists that have no entry of the claim yet. -/
protected theorem KeepsLists.insertEntry {c : ClaimId} {live : Bool} {z : ZoneId} (new : entriesHeld s → c ∉ claimsIn t z) :
    KeepsLists s (insertEntry c live z t) := by
  unfold Machine.insertEntry
  split
  · exact h
  · next cl own =>
    dsimp only
    split
    · next room => exact (h.inserted own (.refl _) (by omega) new).noteZone
    · next full =>
      split
      · have fewer : (listOf t z).dropLast.length < max 4 (listOf t z).length := by rw [List.length_dropLast]; omega
        exact (h.inserted own (List.dropLast_sublist _) fewer new).noteZone.count.loseEntry
      · exact h.modClaim.count

end
end Sys2Proof.Machine
end

section
namespace Sys2Proof.Machine

-- Declarations are elaborated one at a time: each thread's stack counts against the check's memory limit.
set_option Elab.async false

/-! #### The commit and the start of a claim (R80 to R90, R94) -/

theorem commitEntry_keeps (t : TagId) (s : State) : keepsBut [.ring, .peer, .counters] s (commitEntry t s) := by
  unfold commitEntry
  split
  · exact keepsBut_trans (keepsBut_mono (by simp) (keepsBut_modPeer _ s)) (keepsBut_mono (by simp) (originate_keeps _ _ _ _))
  · exact keepsBut_refl _ s

theorem commitPeers_keeps (c : ClaimId) (s : State) : keepsBut [.ring, .peer, .counters] s (commitPeers c s) :=
  keepsBut_forEach commitEntry_keeps _ s

theorem startPlayer_keeps (p : ChanId) (owner : PlayerOwner) (clip : ClipId) (s : State) :
    keepsBut [.clips] s (startPlayer p owner clip s) := by
  unfold startPlayer
  exact keepsBut_ite
    (keepsBut_trans (keepsBut_modClips _ s) (keepsBut_trans (requestRead_keeps _ _ _) (requestRead_keeps _ _ _)))
    (keepsBut_trans (keepsBut_modClips _ s) (requestRead_keeps _ _ _))

theorem startPlayback_keeps (c : ClaimId) (cl : Claim) (s : State) : keepsBut [.clips] s (startPlayback c cl s) := by
  unfold startPlayback
  split
  · exact keepsBut_ite (startPlayer_keeps _ _ _ s) (keepsBut_refl _ s)
  · exact keepsBut_refl _ s

theorem tellPartial_keeps (c : ClaimId) (cl : Claim) (s : State) : keepsBut [.intercom] s (tellPartial c cl s) := by
  unfold tellPartial
  split
  · exact flashPage_keeps _ c s
  · exact keepsBut_refl _ s

theorem takeEntry_keeps (c : ClaimId) (k : Option TxId) (p : PeerRef) (s : State) :
    keepsBut [.peer] s (takeEntry c k p s) := by
  unfold takeEntry
  split
  · exact keepsBut_modPeer _ s
  · exact keepsBut_refl _ s

theorem sendReserve_keeps (cl : Claim) (ref : Nat × Nat × Nat) (t : TagId) (s : State) :
    keepsBut [.ring, .counters] s (sendReserve cl ref t s) := by
  unfold sendReserve
  split
  · exact keepsBut_trans (originate_keeps _ _ _ s) (keepsBut_mono (by simp) (count_keeps _ _))
  · exact keepsBut_refl _ s

/-- The lowest free place of the claim table is free (R77). -/
theorem claimAt_freeClaim {c : ClaimId} {s : State} (h : freeClaim s = some c) : claimAt s c = none :=
  Option.isNone_iff_eq_none.mp (List.find?_some (p := fun c => (claimAt s c).isNone) h)

theorem not_mem_claimsIn_of_free {c : ClaimId} {s : State} (held : entriesHeld s) (free : claimAt s c = none) (z : ZoneId) :
    c ∉ claimsIn s z := fun listed => by simpa [free] using (entriesHeld_iff s).mp held z c listed

theorem zonesOf_nodup (zs : ZoneSet) : (zonesOf zs).Nodup := (List.nodup_finRange 24).filter _

theorem claimsIn_createClaim (c : ClaimId) (cl : Claim) (s : State) (z : ZoneId) :
    claimsIn (createClaim c cl s) z = claimsIn s z := by
  rw [claimsIn, listOf, createClaim_claims]
  rfl

/-- A claim gains a zone: the zone joins its target, and an entry of it the zone's list (R94). -/
def gainZone (c : ClaimId) (z : ZoneId) (s : State) : State :=
  insertEntry c true z (modClaim c (fun x => { x with target := tset x.target z true }) s)

theorem mem_of_gainZone {c : ClaimId} {z y : ZoneId} {s : State} {e : ListEntry} (other : z ≠ y)
    (h : e ∈ listOf (gainZone c z s) y) : e ∈ listOf s y :=
  mem_of_insertEntry (s := modClaim c (fun x => { x with target := tset x.target z true }) s) other h

section
variable {s t : State} (h : KeepsLists s t)
include h

protected theorem KeepsLists.disableZone {z : ZoneId} : KeepsLists s (disableZone z t) :=
  h.forEach fun _ _ k => k.removeEntry.count.loseEntry

protected theorem KeepsLists.commitZone {c : ClaimId} {z : ZoneId} : KeepsLists s (commitZone c z t) := by
  have same : ((listOf t z).map fun e => if e.claim = c then { e with live := true } else e).map (·.claim) =
      claimsIn t z := by
    rw [List.map_map, claimsIn]
    refine List.map_congr_left fun e _ => ?_
    simp only [Function.comp_apply]
    split <;> rfl
  exact (h.shrinks (.setList (same ▸ List.Sublist.refl _))).noteZone

protected theorem KeepsLists.commitDone {c : ClaimId} {cl : Claim} : KeepsLists s (commitDone c cl t) :=
  (h.count.modClaim.parts (commitPeers_keeps c _)).parts (startPlayback_keeps c cl _)

protected theorem KeepsLists.commitRefused {c : ClaimId} : KeepsLists s (commitRefused c t) := h.endClaim.count

protected theorem KeepsLists.commitAll {c : ClaimId} {cl : Claim} : KeepsLists s (commitAll c cl t) := by
  unfold Machine.commitAll
  exact .ite (KeepsLists.commitDone (h.forEach fun _ _ k => k.commitZone)) h.commitRefused

protected theorem KeepsLists.commitBest {c : ClaimId} {cl : Claim} : KeepsLists s (commitBest c cl t) := by
  have done : ∀ {l m}, KeepsLists s
      (Machine.commitDone c cl (forEach m (removeEntry false c) (forEach l (commitZone c) t))) :=
    ((h.forEach fun _ _ k => k.commitZone).forEach fun _ _ k => k.removeEntry).commitDone
  unfold Machine.commitBest
  exact .ite h.commitRefused (.ite (done.report.count.parts (tellPartial_keeps c cl _)) done)

protected theorem KeepsLists.commitTest {c : ClaimId} : KeepsLists s (commitTest c t) := by
  unfold Machine.commitTest
  split
  · exact h
  · split
    · exact h.commitAll
    · exact h.commitBest

protected theorem KeepsLists.commitDue {c : ClaimId} : KeepsLists s (commitDue c t) := by
  unfold Machine.commitDue
  split
  · exact h
  · exact .ite h.modClaim h.commitTest

protected theorem KeepsLists.peerSettled {c : ClaimId} : KeepsLists s (peerSettled c t) := by
  unfold Machine.peerSettled
  split
  · exact h
  · exact .ite h.modClaim.commitTest h

protected theorem KeepsLists.offerRequest {r : Request} : KeepsLists s (offerRequest r t) := .ite h.modClaims h.count

protected theorem KeepsLists.withdrawRequest {o : Owner} : KeepsLists s (withdrawRequest o t) := h.modClaims

protected theorem KeepsLists.handOnPeers {c : ClaimId} {cl : Claim} {peers : List PeerRef} :
    KeepsLists s (handOnPeers c cl peers t) := by
  have entered : ∀ {u}, KeepsLists s u → KeepsLists s (forEach peers (takeEntry c (handOnChannel t cl.slot)) u) :=
    fun k => k.forEach fun _ u k => k.parts (takeEntry_keeps _ _ _ u)
  have sent : ∀ {u l ref}, KeepsLists s u → KeepsLists s (forEach l (sendReserve cl ref) u) :=
    fun k => k.forEach fun _ u k => k.parts (sendReserve_keeps _ _ _ u)
  unfold Machine.handOnPeers
  refine sent (KeepsLists.modClaim (entered ?_))
  split
  · exact h.modPeer
  · exact h

/-- The creation of a claim in a free place of the table. -/
protected theorem KeepsLists.createClaim {c : ClaimId} {cl : Claim} (free : claimAt t c = none) :
    KeepsLists s (createClaim c cl t) := by
  have created := h.shrinks (shrink_setClaim cl free)
  have told := created.count (c := .claimsStarted) |>.parts (tellCreated_keeps c cl _)
  unfold Machine.createClaim
  exact .ite told.modClaims told

protected theorem KeepsLists.handOnClaim {c : ClaimId} {cl : Claim} {peers : List PeerRef} :
    KeepsLists s (handOnClaim c cl peers t) := by
  have handed : KeepsLists s (if peers.isEmpty || cl.noPeers then t else Machine.handOnPeers c cl peers t) :=
    .ite h h.handOnPeers
  unfold Machine.handOnClaim
  extract_lets u
  split
  · exact h
  · exact .ite h.commitDue h.modClaim
  · exact .ite handed.commitDue handed

/-- A walk that enters one claim in lists that it is not in, each change in the list of its own zone. -/
theorem KeepsLists.enterAll {c : ClaimId} {f : ZoneId → State → State} {zs : List ZoneId} (once : zs.Nodup)
    (new : entriesHeld s → ∀ z ∈ zs, c ∉ claimsIn t z)
    (enter : ∀ z u, KeepsLists s u → (entriesHeld s → c ∉ claimsIn u z) → KeepsLists s (f z u))
    (elsewhere : ∀ {z y u e}, z ≠ y → e ∈ listOf (f z u) y → e ∈ listOf u y) : KeepsLists s (forEach zs f t) := by
  induction zs generalizing t with
  | nil => exact h
  | cons z zs ih =>
    obtain ⟨other, once⟩ := List.nodup_cons.mp once
    refine ih (enter z t h fun held => new held z List.mem_cons_self) once fun held y hy listed => ?_
    obtain ⟨e, at_y, rfl⟩ := List.mem_map.mp listed
    have apart : z ≠ y := fun same => other (same ▸ hy)
    exact new held y (List.mem_cons_of_mem _ hy) (claim_mem_claimsIn (elsewhere apart at_y))

protected theorem KeepsLists.carryOut {c : ClaimId} {cl : Claim} {peers : List PeerRef} (free : claimAt t c = none) :
    KeepsLists s (carryOut c cl peers t).2 := by
  have created : KeepsLists s (Machine.createClaim c cl t) := h.createClaim free
  have entered : KeepsLists s (forEach (zonesOf cl.target) (insertEntry c !cl.chime) (Machine.createClaim c cl t)) :=
    created.enterAll (zonesOf_nodup _)
      (fun held z _ => by rw [claimsIn_createClaim]; exact not_mem_claimsIn_of_free (h.held held) free z)
      (fun _ _ k new => k.insertEntry new) mem_of_insertEntry
  unfold Machine.carryOut
  dsimp only
  split_ifs
  · exact created.endClaim
  · exact entered.handOnClaim
  · exact entered.handOnClaim
  · exact entered.endClaim

protected theorem KeepsLists.startClaim {r : StartRequest} : KeepsLists s (startClaim r t).2 := by
  unfold Machine.startClaim
  split
  · exact h.count
  · next c found =>
    split
    · exact h.count
    · have short : KeepsLists s (if peerShort t r then Machine.count .peerShortage t else t) := .ite h.count h
      have free : claimAt (if peerShort t r then Machine.count .peerShortage t else t) c = none := by
        split <;> exact claimAt_freeClaim found
      dsimp only
      split
      · exact short.count
      · exact short.carryOut free

/-- A GAIN enters a claim in lists that it is not in (R94). -/
protected theorem KeepsLists.gainZones {ch : ChanId} {c : ClaimId} {zs : ZoneSet} :
    KeepsLists s (gainZones ch c zs t) := by
  unfold Machine.gainZones
  refine .ite (h.enterAll (c := c) (f := gainZone c) ((zonesOf_nodup _).filter _) (fun _ z hz => ?_)
    (fun _ _ k new => k.modClaim.insertEntry new) mem_of_gainZone) h
  exact entryIn_isNone_iff.mp (Option.isNone_iff_eq_none.mp (List.mem_filter.mp hz).2)

end
end Sys2Proof.Machine
end

section
namespace Sys2Proof.Machine

-- Declarations are elaborated one at a time: each thread's stack counts against the check's memory limit.
set_option Elab.async false

section
variable {s t : State} (h : KeepsLists s t)
include h

/-! #### Shared operations of the other blocks -/

protected theorem KeepsLists.modSlot {i : SlotId} {f : Slot → Slot} : KeepsLists s (modSlot i f t) := h.modSlots
protected theorem KeepsLists.rebind {b : Binding} {i : SlotId} : KeepsLists s (rebind b i t) := h.modSlot
protected theorem KeepsLists.modStation {st : StationId} {f : Station → Station} : KeepsLists s (modStation st f t) :=
  h.modIntercom
protected theorem KeepsLists.modChannel {ch : ChanId} {f : Channel → Channel} : KeepsLists s (modChannel ch f t) :=
  h.modAlarm
protected theorem KeepsLists.modPlayer {p : ChanId} {f : Player → Player} : KeepsLists s (modPlayer p f t) := h.modClips
protected theorem KeepsLists.setEntry {g : TagId} {e : Option OutEntry} : KeepsLists s (setEntry g e t) := h.modPeer

protected theorem KeepsLists.originate {kind : Byte} {dest : Nat} {body : Body} :
    KeepsLists s (originate kind dest body t) := h.parts (originate_keeps kind dest body t)

protected theorem KeepsLists.countTimes {c : Counter} {n : Nat} : KeepsLists s (countTimes c n t) :=
  h.parts (countTimes_keeps c n t)

protected theorem KeepsLists.sendAnswer {origin tag answered : Nat} {code : AnswerCode} {granted requested : Nat} :
    KeepsLists s (sendAnswer origin tag answered code granted requested t) := h.originate

protected theorem KeepsLists.freeEntry {g : TagId} : KeepsLists s (freeEntry g t) := by
  unfold Machine.freeEntry
  split
  · exact h
  · split
    · exact h.setEntry.modPeer
    · exact h.setEntry

protected theorem KeepsLists.stopPlayer {p : ChanId} : KeepsLists s (stopPlayer p t) := h.parts (stopPlayer_keeps p t)

protected theorem KeepsLists.startPlayer {p : ChanId} {owner : PlayerOwner} {clip : ClipId} :
    KeepsLists s (startPlayer p owner clip t) := h.parts (startPlayer_keeps p owner clip t)

protected theorem KeepsLists.tellPartial {c : ClaimId} {cl : Claim} : KeepsLists s (tellPartial c cl t) :=
  h.parts (tellPartial_keeps c cl t)

protected theorem KeepsLists.flashKey {st : StationId} {k : KeyId} : KeepsLists s (flashKey st k t) := h.modStation

/-! #### The peer unit (chapter 6) -/

protected theorem KeepsLists.lateFailure {c : ClaimId} : KeepsLists s (lateFailure c t) := by
  unfold Machine.lateFailure
  split
  · exact .ite h.report.count.tellPartial h
  · exact h

protected theorem KeepsLists.failEntry {g : TagId} {e : OutEntry} : KeepsLists s (failEntry g e t) :=
  h.freeEntry.lateFailure.peerSettled

protected theorem KeepsLists.entryReserved {g : TagId} {e : OutEntry} : KeepsLists s (entryReserved g e t) := by
  unfold Machine.entryReserved
  refine KeepsLists.peerSettled ?_
  split
  · exact .ite (h.setEntry.count.parts (commitEntry_keeps g _)) h.setEntry.count
  · exact h.setEntry.count

protected theorem KeepsLists.answerFor {g : TagId} {e : OutEntry} {a : Answer} : KeepsLists s (answerFor g e a t) := by
  unfold Machine.answerFor releaseAnswered unsolicitedAnswer reserveAnswered commitAnswered
  refine .ite (KeepsLists.freeEntry (.ite h.count h)) (.ite (.ite h.count.failEntry h.count) (.ite ?_ (.ite ?_ h.count)))
  · exact .ite h.entryReserved h.count.failEntry
  · exact .ite h.setEntry.count (.ite h.failEntry h.count)

protected theorem KeepsLists.takeAnswer {a : Answer} : KeepsLists s (takeAnswer a t) := by
  unfold Machine.takeAnswer
  split
  · exact h.answerFor
  · exact h.count

protected theorem KeepsLists.peerTimeout {g : TagId} {e : OutEntry} : KeepsLists s (peerTimeout g e t) :=
  h.freeEntry.originate.count.lateFailure.peerSettled

protected theorem KeepsLists.enqueueReserve {r : InReserve} : KeepsLists s (enqueueReserve r t) := by
  unfold Machine.enqueueReserve
  exact .ite h.count.sendAnswer h.modPeer

protected theorem KeepsLists.clearService : KeepsLists s (clearService t) := h.modPeer

protected theorem KeepsLists.abandonService {v : InService} : KeepsLists s (abandonService v t) :=
  h.clearService.withdrawRequest.rebind

protected theorem KeepsLists.answerCreated {r : InReserve} {c : ClaimId} : KeepsLists s (answerCreated r c t) := by
  unfold Machine.answerCreated
  split
  · exact h
  · exact .ite h.sendAnswer.count (.ite h.sendAnswer.count h.endClaim.sendAnswer)

protected theorem KeepsLists.answerReserve {v : InService} {o : Started} : KeepsLists s (answerReserve v o t) := by
  unfold Machine.answerReserve
  refine KeepsLists.clearService ?_
  split
  · exact h.rebind.sendAnswer
  · exact h.sendAnswer
  · exact h.answerCreated

protected theorem KeepsLists.requestInbound {r : InReserve} {g : GroupId} {slot : SlotId} :
    KeepsLists s (requestInbound r g slot t) := by
  unfold Machine.requestInbound
  exact .ite h.rebind.modPeer.offerRequest h.rebind.modPeer.offerRequest.rebind.clearService.sendAnswer

protected theorem KeepsLists.serveReserve {r : InReserve} : KeepsLists s (serveReserve r t) := by
  unfold Machine.serveReserve
  split
  · exact h.sendAnswer
  · split
    · exact h.sendAnswer
    · exact h.requestInbound

protected theorem KeepsLists.endReused {r : InReserve} : KeepsLists s (endReused r t) := by
  unfold Machine.endReused
  split
  · exact h.endClaim
  · exact h

protected theorem KeepsLists.serveNext : KeepsLists s (serveNext t) := by
  unfold Machine.serveNext
  split
  · exact .ite h.modPeer.endReused.serveReserve h
  · exact h

protected theorem KeepsLists.commitInbound {origin tag : Nat} {c : ClaimId} {cl : Claim} :
    KeepsLists s (commitInbound origin tag c cl t) := by
  unfold Machine.commitInbound
  dsimp only
  split
  · exact h.modClaim.commitTest.sendAnswer
  · exact h.modClaim.commitTest.sendAnswer

protected theorem KeepsLists.takeCommit {origin tag : Nat} : KeepsLists s (takeCommit origin tag t) := by
  unfold Machine.takeCommit
  split
  · exact h.sendAnswer
  · split
    · exact h.sendAnswer
    · exact .ite h.commitInbound h.sendAnswer

protected theorem KeepsLists.releaseInbound {origin tag : Nat} : KeepsLists s (releaseInbound origin tag t) := by
  unfold Machine.releaseInbound
  split
  · exact h.endClaim.sendAnswer
  · exact h.sendAnswer

protected theorem KeepsLists.takeRelease {origin tag : Nat} : KeepsLists s (takeRelease origin tag t) := by
  unfold Machine.takeRelease
  split
  · exact .ite h.abandonService.sendAnswer (.ite h.modPeer.sendAnswer h.releaseInbound)
  · exact .ite h.modPeer.sendAnswer h.releaseInbound

protected theorem KeepsLists.takeClaimFrame {origin dest : Nat} {payload : List Byte} :
    KeepsLists s (takeClaimFrame origin dest payload t) := by
  unfold Machine.takeClaimFrame
  refine .ite h.count ?_
  split
  · exact h.enqueueReserve
  · exact h.takeCommit
  · exact h.takeRelease
  · exact h.takeAnswer

protected theorem KeepsLists.loseDynamic {i : SlotId} : KeepsLists s (loseDynamic i t) := by
  have k : KeepsLists s (loseDynamic.endOnSlot i t) := h.forEach fun _ _ k => k.endClaim
  unfold Machine.loseDynamic
  split
  · exact .ite h.abandonService.sendAnswer k
  · exact k
/-! #### The alarm sequencer (chapter 8) -/

protected theorem KeepsLists.rewriteSlot {ch : ChanId} : KeepsLists s (rewriteSlot ch t) := by
  unfold Machine.rewriteSlot
  split
  · exact h.modClaim
  · exact h

protected theorem KeepsLists.takePlayer {p : ChanId} : KeepsLists s (takePlayer p t) := by
  have k : KeepsLists s (takePlayer.withdrawPlayback p t) := by
    unfold takePlayer.withdrawPlayback
    split
    · exact h.modClaims.claimAnswer
    · exact h
  unfold Machine.takePlayer
  split
  · exact h.endClaim.stopPlayer
  · exact k.stopPlayer
  · exact h

protected theorem KeepsLists.standAt {ch : ChanId} {k on off silent : Nat} : KeepsLists s (standAt ch k on off silent t) :=
  h.modChannel.rewriteSlot

protected theorem KeepsLists.stallAt {ch : ChanId} {k : Nat} : KeepsLists s (stallAt ch k t) := h.modChannel.count

protected theorem KeepsLists.skipClip {ch : ChanId} {n : ClipId} : KeepsLists s (skipClip ch n t) := by
  unfold Machine.skipClip
  split
  · exact h.report.count
  · exact h

/-- The steps that a channel passes as it enters one retain what each of them does. -/
protected theorem KeepsLists.enterStep {ch : ChanId} {budget k : Nat} : KeepsLists s (enterStep ch budget k t).2 := by
  induction budget generalizing k t with
  | zero =>
    unfold Machine.enterStep
    split
    · exact h.standAt.modChannel
    · exact h.standAt
    · dsimp only
      split
      · exact h.takePlayer.startPlayer.standAt
      · exact h.stallAt
    · exact h.stallAt
    · exact h.stallAt
  | succ b ih =>
    unfold Machine.enterStep
    split
    · exact h.standAt.modChannel
    · exact h.standAt
    · dsimp only
      split
      · exact h.takePlayer.startPlayer.standAt
      · exact ih h.skipClip
    · exact ih h.modChannel
    · exact h

protected theorem KeepsLists.offerStart {ch : ChanId} : KeepsLists s (offerStart ch t) := by
  unfold Machine.offerStart
  exact .ite h.offerRequest.modChannel h.offerRequest

protected theorem KeepsLists.offerGain {ch : ChanId} {c : ClaimId} {zs : ZoneSet} : KeepsLists s (offerGain ch c zs t) := by
  unfold Machine.offerGain
  exact .ite h.offerRequest.modChannel h.offerRequest

protected theorem KeepsLists.addZones {ch : ChanId} {zs : ZoneSet} : KeepsLists s (addZones ch zs t) := by
  unfold Machine.addZones
  refine .ite h.modChannel ?_
  split
  · exact h.offerGain
  · exact h.offerStart

protected theorem KeepsLists.requestAnswered {ch : ChanId} : KeepsLists s (requestAnswered ch t) := by
  unfold Machine.requestAnswered
  refine .ite h.modChannel ?_
  split
  · exact h.modChannel.offerGain
  · exact h.modChannel.offerStart

protected theorem KeepsLists.stopChannel {ch : ChanId} {reason : EndReason} : KeepsLists s (stopChannel ch reason t) := by
  have w : KeepsLists s (if (channelOf t ch).request = .none then t else Machine.withdrawRequest (.alarm ch) t) :=
    .ite h h.withdrawRequest
  have stop : ∀ {u}, KeepsLists s u → KeepsLists s (if (playerOf u ch).owner = .alarm ch then Machine.stopPlayer ch u else u) :=
    fun k => .ite k.stopPlayer k
  unfold Machine.stopChannel
  refine (stop ?_).modChannel
  split
  · exact w.endClaim
  · exact w

protected theorem KeepsLists.removeAlarm {p : ProgramId} : KeepsLists s (removeAlarm p t) := h.modAlarm

protected theorem KeepsLists.completeProgram {ch : ChanId} : KeepsLists s (completeProgram ch t) := by
  unfold Machine.completeProgram
  split
  · exact h.stopChannel.removeAlarm.report.count
  · exact h

protected theorem KeepsLists.beginWithin {budget : Nat} {p : ProgramId} {ch : ChanId} :
    KeepsLists s (beginWithin budget p ch t).2 := by
  unfold Machine.beginWithin modEntry
  dsimp only
  split
  · exact h.modAlarm.modChannel.enterStep.report.count.completeProgram
  · exact h.modAlarm.modChannel.enterStep.offerStart.report.count

protected theorem KeepsLists.handOn {n : Nat} {used : Option (ChanId × Nat)} : KeepsLists s (handOn n used t) := by
  induction n generalizing used t with
  | zero => exact h
  | succ n ih =>
    unfold Machine.handOn
    split
    · exact ih h.beginWithin
    · exact h

protected theorem KeepsLists.refuseAlarm {p : ProgramId} {r : AlarmRefusal} : KeepsLists s (refuseAlarm p r t).2 :=
  h.report.count

protected theorem KeepsLists.retrigger {p : ProgramId} {e : AlarmEntry} {zs : ZoneSet} : KeepsLists s (retrigger p e zs t) := by
  unfold Machine.retrigger modEntry
  refine .ite h.count ?_
  dsimp only
  split
  · exact h.modAlarm.count.addZones
  · exact h.modAlarm.count

protected theorem KeepsLists.discardAlarm {e : AlarmEntry} : KeepsLists s (discardAlarm e t) := by
  unfold Machine.discardAlarm
  dsimp only
  split
  · exact h.stopChannel.removeAlarm.report.count
  · exact h.removeAlarm.report.count

protected theorem KeepsLists.preempt {p : ProgramId} {old : AlarmEntry} {ch : ChanId} : KeepsLists s (preempt p old ch t) := by
  unfold Machine.preempt modEntry
  exact h.stopChannel.modAlarm.count.beginWithin.handOn

protected theorem KeepsLists.tryPreempt {p : ProgramId} : KeepsLists s (tryPreempt p t) := by
  unfold Machine.tryPreempt
  refine .ite ?_ h
  split
  · split
    · exact .ite h.preempt h
    · exact h
  · exact h

protected theorem KeepsLists.insertEntryOf {p : ProgramId} {zs : ZoneSet} {before : List ProgramId} :
    KeepsLists s (insertEntryOf p zs before t) := by
  unfold Machine.insertEntryOf
  exact h.modAlarm.handOn.tryPreempt.forEach fun _ _ k => k.report

protected theorem KeepsLists.newAlarm {p : ProgramId} {zs : ZoneSet} : KeepsLists s (newAlarm p zs t).2 := by
  unfold Machine.newAlarm
  dsimp only
  split
  · dsimp only
    exact h.insertEntryOf
  · split
    · split
      · dsimp only
        exact h.discardAlarm.insertEntryOf
      · exact h.refuseAlarm
    · exact h.refuseAlarm

protected theorem KeepsLists.startAlarm {p : ProgramId} {g : Nat} : KeepsLists s (startAlarm p g t).2 := by
  unfold Machine.startAlarm
  dsimp only
  split
  · exact h.refuseAlarm
  · split
    · dsimp only
      exact h.retrigger
    · split
      · exact h.refuseAlarm
      · exact h.newAlarm

protected theorem KeepsLists.stopAlarm {p : ProgramId} : KeepsLists s (stopAlarm p t).2 := by
  unfold Machine.stopAlarm
  split
  · exact h.refuseAlarm
  · dsimp only
    split
    · exact h.stopChannel.removeAlarm.report.count.handOn
    · exact h.removeAlarm.report.count.handOn

protected theorem KeepsLists.enableZone {z : ZoneId} : KeepsLists s (enableZone z t) := by
  unfold Machine.enableZone
  refine h.forEach fun e u k => ?_
  split
  · exact .ite k.addZones k
  · exact k

protected theorem KeepsLists.patternAct {origin : Nat} {p : PatternId} : KeepsLists s (patternAct origin p t) := by
  unfold Machine.patternAct
  dsimp only
  split
  · exact h.report.count.startAlarm
  · exact h.report.count.stopAlarm

protected theorem KeepsLists.takeAlarmFrame {origin : Nat} {payload : List Byte} :
    KeepsLists s (takeAlarmFrame origin payload t) := h.count.forEach fun _ _ k => k.patternAct
/-! #### The intercom controller (chapter 7) -/

protected theorem KeepsLists.setRinger {b : Bool} {st : StationId} : KeepsLists s (setRinger b st t) := h.modStation

protected theorem KeepsLists.setCall {i : CallId} {c : Option Call} : KeepsLists s (setCall i c t) := h.modIntercom

protected theorem KeepsLists.pollNext {st : StationId} : KeepsLists s (pollNext st t) := by
  unfold Machine.pollNext
  split
  · exact h.modStation
  · exact h

protected theorem KeepsLists.endCall {reason : CallReason} {i : CallId} : KeepsLists s (endCall reason i t) := by
  unfold Machine.endCall
  split
  · exact h
  · exact (h.forEach fun _ _ k => k.setRinger).setCall.reportUnless

protected theorem KeepsLists.removeMember {i : CallId} {c : Call} {st : StationId} : KeepsLists s (removeMember i c st t) :=
  h.setCall

protected theorem KeepsLists.refuseKey {st : StationId} {k : KeyId} {r : KeyRefusal} : KeepsLists s (refuseKey st k r t) :=
  h.report.flashKey.count

protected theorem KeepsLists.ignoreKey : KeepsLists s (ignoreKey t) := h.count

protected theorem KeepsLists.callKey {a : StationId} {k : KeyId} {b : StationId} : KeepsLists s (callKey a k b t) := by
  unfold Machine.callKey
  refine .ite h.refuseKey (.ite h.refuseKey ?_)
  split
  · exact h.refuseKey
  · exact h.setCall.setRinger.count

protected theorem KeepsLists.answerKey {b : StationId} : KeepsLists s (answerKey b t) := by
  unfold Machine.answerKey
  split
  · exact h.setCall.setRinger.count
  · exact h.ignoreKey

protected theorem KeepsLists.endKey {st : StationId} : KeepsLists s (endKey st t) := by
  unfold Machine.endKey
  split
  · exact h.ignoreKey
  · split
    · exact .ite h.endCall h.endCall
    · exact .ite h.removeMember h.removeMember.endCall

protected theorem KeepsLists.joinKey {st : StationId} {k : KeyId} {n : Nat} : KeepsLists s (joinKey st k n t) := by
  unfold Machine.joinKey
  refine .ite h.refuseKey ?_
  split
  · exact .ite h.setCall h.refuseKey
  · split
    · exact h.setCall.count
    · exact h.refuseKey

protected theorem KeepsLists.setPage {st : StationId} {p : Option Page} : KeepsLists s (setPage st p t) := h.modStation

protected theorem KeepsLists.pageKey {st : StationId} {k : KeyId} {group priority : Nat} {mode : ClaimMode}
    {policy : Policy} {chime latch : Bool} : KeepsLists s (pageKey st k group priority mode policy chime latch t) := by
  unfold Machine.pageKey
  exact .ite h.refuseKey (.ite h.offerRequest.count.setPage h.offerRequest.count.refuseKey)

protected theorem KeepsLists.endPage {st : StationId} {reason : EndReason} : KeepsLists s (endPage st reason t) := by
  unfold Machine.endPage
  split
  · exact h
  · dsimp only
    split
    · exact h.setPage.endClaim
    · exact h.setPage.withdrawRequest

protected theorem KeepsLists.pageRefused {st : StationId} : KeepsLists s (pageRefused st t) := by
  unfold Machine.pageRefused
  split
  · exact h
  · exact h.setPage.refuseKey

protected theorem KeepsLists.alarmKey {st : StationId} {k : KeyId} {f : State → Option AlarmRefusal × State}
    (hf : KeepsLists s (f t).2) : KeepsLists s (alarmKey st k f t) := by
  unfold Machine.alarmKey alarmKeyDone
  refine .ite ?_ h.refuseKey
  split
  · exact hf.flashKey
  · exact hf

protected theorem KeepsLists.pressFunction {st : StationId} {k : KeyId} : KeepsLists s (pressFunction st k t) := by
  unfold Machine.pressFunction
  split
  · exact h
  · exact h
  · exact h.callKey
  · exact h.answerKey
  · exact h.endKey
  · exact h.joinKey
  · exact h.pageKey
  · exact h.alarmKey h.startAlarm
  · exact h.alarmKey h.stopAlarm

protected theorem KeepsLists.pressKey {st : StationId} {k : KeyId} : KeepsLists s (pressKey st k t) :=
  .ite h.endPage h.pressFunction

protected theorem KeepsLists.releaseKey {st : StationId} {k : KeyId} : KeepsLists s (releaseKey st k t) := .ite h.endPage h

protected theorem KeepsLists.debounceKey {st : StationId} {keys : Vector Bool 8} {k : KeyId} :
    KeepsLists s (debounceKey st keys k t) := by
  unfold Machine.debounceKey
  exact .ite (.ite h.modStation.count (.ite h.modStation.count.pressKey h.modStation.count.releaseKey))
    (.ite h h.modStation)

protected theorem KeepsLists.takeAnswerOfPoll {st : StationId} {keys : Vector Bool 8} :
    KeepsLists s (takeAnswerOfPoll st keys t) := by
  unfold Machine.takeAnswerOfPoll
  exact .ite (h.modStation.forEach fun _ _ k => k.debounceKey) h.modStation.report

protected theorem KeepsLists.takeMiss {st : StationId} : KeepsLists s (takeMiss st t) := by
  unfold Machine.takeMiss dropPending
  exact .ite h.count.modStation.modStation.countTimes h.count

protected theorem KeepsLists.leaveCall {st : StationId} : KeepsLists s (leaveCall st t) := by
  unfold Machine.leaveCall
  split
  · exact h
  · dsimp only
    split
    · exact h.removeMember.endCall
    · exact .ite h.removeMember h.removeMember.endCall

protected theorem KeepsLists.becomeAbsent {st : StationId} : KeepsLists s (becomeAbsent st t) :=
  h.modStation.endPage.leaveCall.report
end
end Sys2Proof.Machine
end

section
namespace Sys2Proof.Machine

-- Declarations are elaborated one at a time: each thread's stack counts against the check's memory limit.
set_option Elab.async false

/-! #### The other blocks' work that leaves the claim unit alone -/

theorem closeBoundary_claims (s : State) : (closeBoundary s).claims = s.claims := by
  cases run : running s with
  | true =>
    rw [closeBoundary_of_running run]
    exact endedState_keeps _ _ _ _ _ _ .claims (by decide)
  | false =>
    unfold closeBoundary
    dsimp only
    rw [if_neg (by simp [run])]
    rfl

theorem countClaim_standing (x : Claim) : (countClaim x).priority = x.priority ∧ (countClaim x).rank = x.rank := by
  unfold countClaim
  dsimp only
  split <;> exact ⟨rfl, rfl⟩

theorem standing_countClaims (c : ClaimId) (s : State) : standing (countClaims s) c = standing s c := by
  have table : claimAt (countClaims s) c = (claimAt s c).map countClaim := by
    simp [claimAt, countClaims]
  rw [standing, table, standing]
  cases claimAt s c with
  | none => rfl
  | some x => simp only [Option.map_some, countClaim_standing x]

theorem countClaims_lists (s : State) : (countClaims s).claims.lists = s.claims.lists := by
  simp only [countClaims, modClaims_claims]

section
variable {s t : State} (h : KeepsLists s t)
include h

protected theorem KeepsLists.modLane {l : LaneId} {f : Lane → Lane} : KeepsLists s (modLane l f t) := h.modLines
protected theorem KeepsLists.modRecord {l : LaneId} {f : LaneRecord → LaneRecord} : KeepsLists s (modRecord l f t) :=
  h.modLane

protected theorem KeepsLists.setLineState {l : LaneId} {v : LineState} : KeepsLists s (setLineState l v t) :=
  .ite h h.modRecord.report.count

protected theorem KeepsLists.setOvertemp {l : LaneId} {b : Bool} : KeepsLists s (setOvertemp l b t) :=
  .ite h h.modRecord.report

protected theorem KeepsLists.closeWindow : KeepsLists s (closeWindow t) := by
  have judged : ∀ {l u}, KeepsLists s u → KeepsLists s (judgeLane l u) := by
    intro l u k
    unfold judgeLane
    exact KeepsLists.modRecord (.ite k.count.setOvertemp.setLineState k.count.setOvertemp)
  unfold Machine.closeWindow
  refine KeepsLists.modLines (h.forEach fun l u k => ?_)
  unfold closeLane
  exact .ite (KeepsLists.modRecord (.ite (judged k) k)) k

protected theorem KeepsLists.finishFade {g : FadeTarget} : KeepsLists s (finishFade g t) := by
  unfold Machine.finishFade
  split
  · exact .ite (h.parts (completeFade_moves _ t).1.keeps) h
  · exact h

protected theorem KeepsLists.exchangeBanks : KeepsLists s (exchangeBanks t) := by
  obtain ⟨-, -, -, -, kept⟩ := exchangeBanks_facts t
  exact h.parts kept

protected theorem KeepsLists.fireCue : KeepsLists s (fireCue t) := by
  unfold Machine.fireCue
  split
  · exact (h.modScene.parts (cueAct_facts _ _).2.2.2).count
  · exact h

protected theorem KeepsLists.sceneStages : KeepsLists s (sceneStages t).2 :=
  (h.parts (evaluateHold_keeps t)).parts (stepFades_keeps _)

/-! #### The tables, the image and the interpreter (chapter 11) -/

protected theorem KeepsLists.putSource {i : SlotId} {mode : SlotMode} {b : Binding} {cls : SlotClass} {trim : Code} :
    KeepsLists s (putSource i mode b cls trim t).2 := by
  unfold Machine.putSource
  dsimp only
  split
  · exact h
  · exact .ite h.modSlot h.modSlot.rebind

protected theorem KeepsLists.putZone {z : ZoneId} {master : Bool} {e : ZoneEntry} :
    KeepsLists s (putZone z master e t) := by
  rw [putZone_eq]
  have recorded := h.parts (zoneRecorded_keeps (z := z) (master := master) (e := e) (s := t))
  unfold changeEnabled
  exact .ite recorded.disableZone (.ite recorded.enableZone recorded)

protected theorem KeepsLists.putProgram {p : ProgramId} {e : ProgramEntry} : KeepsLists s (putProgram p e t).2 := by
  unfold Machine.putProgram
  split
  · exact h
  · exact h.modAlarm.snd

protected theorem KeepsLists.putEntry {n : TableName} {row column : Nat} {e : Entry} :
    KeepsLists s (putEntry n row column e t).2 := by
  unfold Machine.putEntry
  split
  · exact h.putSource
  · exact h.modScene.snd
  · exact h.modMix.snd
  · exact h.putZone.snd
  · split
    · exact h
    · exact h.modClaims.snd
  · exact h.modClaims.snd
  · exact h.modStation.snd
  · exact h.modIntercom.snd
  · exact h.putProgram
  · exact h.modAlarm.snd
  · exact h.modControl.snd
  · exact h

protected theorem KeepsLists.writeEntry {n : TableName} {row column : Nat} {e : Entry} :
    KeepsLists s (writeEntry n row column e t).2 := by
  unfold Machine.writeEntry
  split
  · exact h
  · exact h.putEntry

protected theorem KeepsLists.putFields {n : TableName} {row column : Nat} {l : List Field} {e : Entry} :
    KeepsLists s (putFields n row column l e t).2 := by
  unfold Machine.putFields
  split
  · split
    · exact h.putSource
    · exact h.modSlot.snd
  · exact h.putZone.snd
  · exact h.modClaims.snd
  · exact h.modClaims.snd
  · exact h.modStation.snd
  · exact h.modIntercom.snd
  · exact h.putProgram
  · exact h.modAlarm.snd
  · exact h.modControl.snd
  · exact h.putEntry

protected theorem KeepsLists.writeNamed {n : TableName} {row column : Nat} {l : List Field} :
    KeepsLists s (writeNamed n row column l t).2 := by
  unfold Machine.writeNamed
  split
  · exact h
  · split
    · exact h
    · split
      · exact h
      · exact h.putFields

protected theorem KeepsLists.advance : KeepsLists s (advance t) := h.modControl

protected theorem KeepsLists.writeAll {l : List Entry} {w : Written} : KeepsLists s (writeAll l w t).2 := by
  induction l generalizing w t with
  | nil => exact h
  | cons e es ih =>
    unfold Machine.writeAll
    dsimp only
    split
    · exact h.writeEntry
    · exact ih h.writeEntry.advance

protected theorem KeepsLists.readEntries {n : Nat} {clear : Bool} : KeepsLists s (readEntries n clear t).2 := by
  have read : ∀ {k room acc u}, KeepsLists s u → KeepsLists s (readAll clear k room acc u).2 := by
    intro k
    induction k with
    | zero => exact fun k => k
    | succ n ih =>
      intro room acc u k
      have cleared : ∀ {p}, KeepsLists s (clearRead p clear u) := .ite k.modCounters k
      unfold Machine.readAll
      dsimp only
      split
      · exact ih cleared.advance
      · exact k
  unfold Machine.readEntries
  dsimp only
  split
  · exact read h
  · exact h

protected theorem KeepsLists.compareWrite {compare new : Entry} : KeepsLists s (compareWrite compare new t).2.2 := by
  unfold Machine.compareWrite
  dsimp only
  split
  · exact h.advance
  · split
    · exact h
    · split
      · exact h.writeEntry.advance
      · exact h.advance

protected theorem KeepsLists.endLoad {reload : Bool} {x : ImageTables} : KeepsLists s (endLoad reload x t) := by
  have zones := h.parts (installZones_keeps x t)
  have tables : KeepsLists s (installTables x t) := by
    unfold Machine.installTables
    exact zones.modSlots.modMix.modScene.modClaims.modIntercom.modAlarm.modControl
  exact tables.parts (endLoad_parts reload x t).1

protected theorem KeepsLists.requestRead {r : Reader} {sector : Nat} : KeepsLists s (requestRead r sector t) :=
  h.parts (requestRead_keeps r sector t)

protected theorem KeepsLists.imageSector {i : Nat} {data : List Byte} : KeepsLists s (imageSector i data t) := by
  unfold Machine.imageSector
  split
  · exact h
  · refine .ite ?_ h.modControl
    rw [imageRead_eq]
    have judged : ∀ {r}, KeepsLists s (imageReported r t) := h.parts (imageReported_keeps _ t)
    exact .ite judged.modControl.requestRead.requestRead judged.endLoad

protected theorem KeepsLists.dirSector {i : Nat} {data : List Byte} : KeepsLists s (dirSector i data t) := by
  unfold Machine.dirSector
  split
  · exact h
  · exact .ite h.modControl (h.parts (loadDirectory_facts _ _ t).1).endLoad

protected theorem KeepsLists.deliverRead {r : Reader} {data : List Byte} : KeepsLists s (deliverRead r data t) := by
  unfold Machine.deliverRead
  split
  · exact .ite h.modClips h
  · exact h.imageSector
  · exact h.dirSector
  · exact h

protected theorem KeepsLists.arbitrateFlash : KeepsLists s (arbitrateFlash t) := h.parts (arbitrateFlash_keeps t)

protected theorem KeepsLists.queueWrite {kind : WriteKind} : KeepsLists s (queueWrite kind t) := h.modClips.arbitrateFlash

protected theorem KeepsLists.queueDirectory : KeepsLists s (queueDirectory t) := by
  unfold Machine.queueDirectory
  split
  · exact .ite h h.queueWrite
  · exact h.queueWrite

protected theorem KeepsLists.setClip {c : ClipId} {e : DirEntry} : KeepsLists s (setClip c e t) :=
  h.parts (setClip_keeps c e t)

/-- A reset empties every list (R100). -/
protected theorem KeepsLists.resetClaims : KeepsLists s (resetClaims t) := by
  have emptied : ∀ u, ListsShrink u (modClaims (fun x => { x with
      lists := Vector.replicate 24 [], queue := [], chimeGen := ⟨none, 0⟩, reported := Vector.replicate 24 .free }) u) :=
    fun u => { lists := fun z => by simp [claimsIn, listOf], stands := fun _ _ _ _ => rfl }
  have abandoned : KeepsLists s (match t.peer.service with
      | some v => Machine.abandonService v t
      | none => t) := by
    split
    · exact h.abandonService
    · exact h
  unfold Machine.resetClaims
  exact (KeepsLists.modPeer (abandoned.forEach fun _ _ k => k.endClaim)).shrinks (emptied _)

protected theorem KeepsLists.softResetAll : KeepsLists s (softResetAll t) := by
  have calls : KeepsLists s (Machine.resetIntercom (Machine.resetClaims t)) :=
    KeepsLists.modIntercom (h.resetClaims.forEach fun i u k => k.parts (endCall_keeps i u))
  unfold Machine.softResetAll
  exact calls.stopPlayer.stopPlayer.modClips.modSlots.modMix.modScene.modAlarm.modLines.modControl.modReports

protected theorem KeepsLists.reloadAll : KeepsLists s (reloadAll t) := by
  unfold Machine.reloadAll
  exact (h.softResetAll.modControl.parts (endFrame_facts _).1).parts (beginLoading_facts _).1

protected theorem KeepsLists.takeControlFrame {origin : Nat} {payload : List Byte} :
    KeepsLists s (takeControlFrame origin payload t) := by
  have timed : KeepsLists s (restartTimer (Machine.count .controlFrames t)) := by
    unfold Machine.restartTimer
    dsimp only
    split
    · exact h.count.modControl.modControl.report
    · exact h.count.modControl
  unfold Machine.takeControlFrame
  exact .ite (.ite timed.count timed.modControl) h.count

protected theorem KeepsLists.startFrame : KeepsLists s (startFrame t) := by
  unfold Machine.startFrame beginFrame
  split
  · exact .ite (.ite (h.modControl.parts (finishFrame_keeps _ _)) (h.modControl.parts (continueFrame_keeps _ _))) h
  · exact h

protected theorem KeepsLists.operation {f : State → State} (k : KeepsLists s (f t)) : KeepsLists s (operation f t) := by
  unfold Machine.operation
  split
  · split
    · exact .ite h k
    · exact k
  · exact h

protected theorem KeepsLists.answerManagement {r : StartRequest} {o : Started} : KeepsLists s (answerManagement r o t) := by
  unfold Machine.answerManagement
  split
  · refine KeepsLists.claimAnswer ?_
    split
    · split
      · exact h.stopPlayer
      · exact h
    · exact h
  · exact h.claimAnswer
  · exact h.claimAnswer

protected theorem KeepsLists.answerStart {r : StartRequest} {o : Started} : KeepsLists s (answerStart r o t) := by
  unfold Machine.answerStart
  split
  · split
    · exact h.pageRefused
    · exact h
  · exact h.answerManagement
  · exact h.rewriteSlot.requestAnswered
  · split
    · exact h.answerReserve
    · exact h

protected theorem KeepsLists.takeRequest : KeepsLists s (takeRequest t) := by
  unfold Machine.takeRequest
  split
  · exact h
  · exact h.modClaims.startClaim.answerStart
  · exact h.modClaims.gainZones.requestAnswered

protected theorem KeepsLists.offerManagement {q : StartRequest} : KeepsLists s (offerManagement q t) := by
  unfold Machine.offerManagement awaitAnswer
  exact .ite (.ite h.offerRequest.modControl h.offerRequest) h.offerRequest.answerManagement

/-! #### The period boundary -/

protected theorem KeepsLists.writeGenerator {i : SlotId} {b : Block} : KeepsLists s (writeGenerator i b t) := h.modSlot

protected theorem KeepsLists.chimeWork : KeepsLists s (chimeWork t) := by
  unfold Machine.chimeWork chimeBlock
  split
  · exact h.writeGenerator
  · exact .ite h h.modClaims.writeGenerator

protected theorem KeepsLists.nextNote : KeepsLists s (nextNote t) := by
  unfold Machine.nextNote chimeBlock
  split
  · exact h
  · exact .ite h.modClaims.modClaims.writeGenerator h.modClaims.writeGenerator

protected theorem KeepsLists.workStep {ch : ChanId} : KeepsLists s (workStep ch t) :=
  h.parts (atStep_workStep ch t).keeps

protected theorem KeepsLists.enterAndWork {ch : ChanId} {k : Nat} : KeepsLists s (enterAndWork ch k t) := by
  unfold Machine.enterAndWork programEnd
  dsimp only
  split
  · exact h.enterStep.completeProgram.handOn.writeGenerator
  · exact h.enterStep.workStep

protected theorem KeepsLists.channelWork {ch : ChanId} : KeepsLists s (channelWork ch t) := by
  unfold Machine.channelWork
  exact .ite h.writeGenerator (.ite h.enterAndWork (.ite h.enterAndWork (.ite h h.workStep)))

protected theorem KeepsLists.completePlay {p : ChanId} {channelFirst : Bool} :
    KeepsLists s (completePlay p channelFirst t) := by
  unfold Machine.completePlay releasePlayer
  dsimp only
  split
  · exact h.modClips.count.endClaim
  · exact .ite h.modClips.count h.modClips.count.enterAndWork
  · exact h.modClips.count

protected theorem KeepsLists.loseSource {i : SlotId} : KeepsLists s (loseSource i t) := by
  unfold Machine.loseSource
  exact .ite (.ite h.modSlot.report.count.loseDynamic h.modSlot.report.count) h

protected theorem KeepsLists.timeOut {c : ClaimId} : KeepsLists s (timeOut c t) := by
  unfold Machine.timeOut
  split
  · exact .ite h.endClaim.count h
  · exact h

protected theorem KeepsLists.expireChime {c : ClaimId} : KeepsLists s (expireChime c t) := by
  unfold Machine.expireChime
  split
  · exact .ite h.commitDue h
  · exact h

protected theorem KeepsLists.deadlineOf {state : OutState} {g : TagId} : KeepsLists s (deadlineOf state g t) := by
  unfold Machine.deadlineOf
  split
  · exact .ite h.freeEntry h.peerTimeout
  · exact h

protected theorem KeepsLists.ringOut {i : CallId} : KeepsLists s (ringOut i t) := by
  unfold Machine.ringOut
  split
  · exact .ite h.endCall.count h
  · exact h

protected theorem KeepsLists.beginScan : KeepsLists s (beginScan t) := by
  unfold Machine.beginScan countScan
  exact h.modIntercom.modBoundary.modStation

protected theorem KeepsLists.loseStation {st : StationId} : KeepsLists s (loseStation st t) :=
  .ite h.becomeAbsent.pollNext h

protected theorem KeepsLists.enterStandalone : KeepsLists s (enterStandalone t) := by
  unfold Machine.enterStandalone
  exact .ite h.modControl.report.count h

protected theorem KeepsLists.emitReports : KeepsLists s (emitReports t) := by
  unfold Machine.emitReports sendReports
  exact .ite (.ite h.modReports (h.modReports.modReports.forEach fun _ _ k => k.originate.count)) h

protected theorem KeepsLists.dropDue {d : Due} : KeepsLists s (dropDue d t) := h.modBoundary

protected theorem KeepsLists.sceneWork : KeepsLists s (sceneWork t) := by
  unfold Machine.sceneWork
  exact h.sceneStages.modBoundary

/-- Each change that a boundary makes due keeps the lists. -/
protected theorem KeepsLists.act {d : Due} : KeepsLists s (act d t) := by
  cases d with
  | sceneWork => exact h.sceneWork
  | originAgeOut => exact .ite h.modRing h
  | sourceLost => exact h.loseSource
  | fadeComplete => exact h.finishFade
  | cueFire => exact .ite h (KeepsLists.fireCue (h.forEach fun _ _ k => k.dropDue.finishFade))
  | chimeNoteEnd => exact .ite h.nextNote h
  | holdTimeout => exact h.timeOut
  | chimeExpiry => exact h.expireChime
  | reserveDeadline => exact h.deadlineOf
  | commitDeadline => exact h.deadlineOf
  | releaseDeadline => exact h.deadlineOf
  | scanStart => exact h.beginScan
  | callNoAnswer => exact h.ringOut
  | flashTimer => exact .ite h.modStation h
  | stationAbsent => exact h.loseStation
  | toneStepEnd => exact .ite h.enterAndWork h
  | silenceStepEnd => exact .ite h.enterAndWork h
  | playComplete => exact .ite h.completePlay h
  | windowClose => exact .ite h.closeWindow h
  | standaloneEntry => exact h.enterStandalone
  | reportEmission => exact h.emitReports

protected theorem KeepsLists.sceneTurn : KeepsLists s (sceneTurn t) := by
  unfold Machine.sceneTurn sceneWaits
  exact .ite h.dropDue.sceneWork (.ite h.modBoundary h)

protected theorem KeepsLists.closeIfDone : KeepsLists s (closeIfDone t) := by
  unfold Machine.closeIfDone
  exact .ite (h.sceneTurn.same (closeBoundary_claims _)) h.sceneTurn

protected theorem KeepsLists.takeDue {d : Due} {f : State → State} (hf : ∀ u, KeepsLists s u → KeepsLists s (f u)) :
    KeepsLists s (takeDue d f t) := by
  unfold Machine.takeDue
  exact .ite (hf _ h.dropDue).closeIfDone h

protected theorem KeepsLists.carryDue {d : Due} : KeepsLists s (carryDue d t) := h.dropDue.act

protected theorem KeepsLists.passDues : KeepsLists s (passDues t) := by
  refine h.forEach fun d u k => ?_
  unfold passDue sceneTurnWhole
  exact .ite (.ite (k.carryDue.sceneTurn.forEach fun _ _ k => k.carryDue) k.carryDue.sceneTurn) k

protected theorem KeepsLists.passAll : KeepsLists s (passAll t) := h.passDues.passDues.closeIfDone

protected theorem KeepsLists.settle : KeepsLists s (settle t) := by
  unfold Machine.settle admitNext see
  exact .ite (.ite h.passAll.modBoundary.modBoundary h.passAll) h

protected theorem KeepsLists.finish : KeepsLists s (finish t) := by
  unfold Machine.finish hasten
  exact .ite h.modBoundary.passAll h

/-- Every claim is counted at a boundary, which leaves its standing (R87, R93). -/
protected theorem KeepsLists.countClaims : KeepsLists s (countClaims t) :=
  h.shrinks (.of_standing (countClaims_lists t) fun c => standing_countClaims c t)

protected theorem KeepsLists.runBoundary {race : Race} {first : List Due} : KeepsLists s (runBoundary race first t) := by
  have lined := h.parts (lineStage1_keeps t)
  have stages : KeepsLists s (if race.holdAfter.isNone then Machine.sceneStages (Machine.lineStage1 t)
      else ([], Machine.lineStage1 t)).2 := by
    split
    · exact lined.sceneStages
    · exact lined
  have players : ∀ {u}, KeepsLists s u → KeepsLists s (forEach (everyFin 2) Machine.playerWork
      (forEach (everyFin 2) Machine.channelWork u)) :=
    fun k => (k.forEach fun _ _ k => k.channelWork).forEach fun p u k => k.parts (atPlay_playerWork p u).keeps
  unfold Machine.runBoundary countInterval countTimer advancePhase
  exact (players stages.countClaims.chimeWork).modIntercom.modControl.modReports.modBoundary

protected theorem KeepsLists.openBoundary {race : Race} : KeepsLists s (openBoundary race t) := by
  have judged := h.parts (judgedState_keeps t)
  rw [openBoundary_eq]
  exact KeepsLists.closeIfDone (.ite judged.runBoundary (judged.parts (idleBlocks_keeps _)).modBoundary)

/-! #### The ring ports (chapter 1) -/

protected theorem KeepsLists.setTiming {x : Timing} : KeepsLists s (setTiming x t) := h.parts (setTiming_keeps x t)

protected theorem KeepsLists.setLink {p : Port} {l : LinkState} : KeepsLists s (setLink p l t) :=
  h.parts (setLink_keeps p l t)

protected theorem KeepsLists.loseSignal {p : Port} {midFrame : Bool} : KeepsLists s (loseSignal p midFrame t) := by
  unfold Machine.loseSignal
  split
  · exact h
  · exact h.setLink
  · exact (h.parts (dropTraffic_keeps p midFrame t)).setLink

protected theorem KeepsLists.completeTransmission {p : Port} : KeepsLists s (completeTransmission p t) := by
  unfold Machine.completeTransmission
  exact .ite ((h.parts (modPort_keeps p _ t)).count.parts (arbitrate_keeps p _)) h

protected theorem KeepsLists.localBoundary {race : Race} : KeepsLists s (localBoundary race t) := by
  unfold Machine.localBoundary
  exact h.modRing.setTiming.count.openBoundary

protected theorem KeepsLists.takeBeacon {payload : List Byte} {race : Race} : KeepsLists s (takeBeacon payload race t) := by
  unfold Machine.takeBeacon adoptBeacon
  exact .ite (.ite h.modRing.setTiming.count h.modRing.setTiming.openBoundary) h

protected theorem KeepsLists.audioCapture {origin : Nat} {payload : List Byte} :
    KeepsLists s (audioCapture origin payload t) := by
  unfold Machine.audioCapture
  split
  · exact h.count
  · exact h.forEach fun x u k => k.parts (capture_keeps _ _ u)

protected theorem KeepsLists.handOver {f : Frame} {payload : List Byte} {race : Race} :
    KeepsLists s (handOver f payload race t) := by
  unfold Machine.handOver
  split
  · exact h.takeBeacon
  · exact h.audioCapture
  · exact h.takeControlFrame
  · exact h.takeClaimFrame
  · exact h.takeAlarmFrame
  · exact h

protected theorem KeepsLists.takeFrame {p : Port} {f : Frame} {payload : List Byte} {race : Race} :
    KeepsLists s (takeFrame p f payload race t) := by
  unfold Machine.takeFrame
  exact .ite h.modRing.count.handOver h.count

protected theorem KeepsLists.forwardFrame {p : Port} {f : Frame} : KeepsLists s (forwardFrame p f t) :=
  .ite h.count (h.parts (offer_keeps _ _ t))

protected theorem KeepsLists.receiveFrame {p : Port} {bytes : List Byte} {race : Race} :
    KeepsLists s (receiveFrame p bytes race t) := by
  have classified : ∀ {f payload u}, KeepsLists s u → KeepsLists s (classify p f payload race u) := by
    intro f payload u k
    unfold Machine.classify takeAndForward
    exact .ite k.count (.ite k.forwardFrame (.ite k.takeFrame
      (.ite (.ite k.forwardFrame.takeFrame k.takeFrame.forwardFrame) k.forwardFrame)))
  unfold Machine.receiveFrame
  split
  · exact h.count
  · exact h.count
  · exact h.count
  · exact h.count
  · unfold Machine.checkedFrame classifyLoading
    split
    · exact h.count.forwardFrame
    · exact .ite h.count.count (.ite h.count.forwardFrame (.ite h.count.count h.count.forwardFrame))
    · exact classified h.count
    · exact classified h.count

end
end Sys2Proof.Machine
end

section
namespace Sys2Proof.Machine

-- Declarations are elaborated one at a time: each thread's stack counts against the check's memory limit.
set_option Elab.async false

/-! #### Every command but a power-on reset keeps the lists -/

/-- The state that the outcome goes on to, if it goes on, keeps the lists. -/
def goesOnKeeping (s : State) : Host.Outcome State Fault Refusal → Prop
  | .next t => KeepsLists s t
  | _ => True

section
variable {s t : State} (h : KeepsLists s t)
include h

/-- A command is carried out once what is due has been settled. -/
theorem KeepsLists.afterSettle {f : State → State} (hf : ∀ u, KeepsLists s u → KeepsLists s (f u)) :
    KeepsLists s (f (settle t)) := hf _ h.settle

/-- A command of an operation is settled, and then carried out. -/
theorem KeepsLists.operationSettled {f : State → State} (hf : ∀ u, KeepsLists s u → KeepsLists s (f u)) :
    KeepsLists s (operation f (settle t)) := h.settle.operation (hf _ h.settle)

protected theorem KeepsLists.setPointer {p : Option Pointer} : KeepsLists s (setPointer p t) := by
  unfold Machine.setPointer
  split
  · exact h.modControl.commandDone
  · exact h.commandDone

protected theorem KeepsLists.readDone {r : ReadRequest} {data : List Byte} : KeepsLists s (readDone r data t) :=
  h.modClips.count.deliverRead.arbitrateFlash

protected theorem KeepsLists.writeDone : KeepsLists s (writeDone t) := by
  have advanced : ∀ {w rest u}, KeepsLists s u → KeepsLists s (advanceWrite w rest u) := by
    intro w rest u k
    unfold advanceWrite
    refine .ite ?_ k.modClips
    dsimp only
    split
    · exact k.modClips.modControl.count
    · exact k.modClips
  unfold Machine.writeDone
  dsimp only
  split
  · exact (advanced h.modClips.count).arbitrateFlash
  · exact h.modClips.count.arbitrateFlash

protected theorem KeepsLists.deleteClip {c : ClipId} {e : DirEntry} : KeepsLists s (deleteClip c e t) := by
  unfold Machine.deleteClip
  exact (KeepsLists.setClip (.ite h.modClips h)).queueDirectory

end

protected theorem KeepsLists.alarmDone {s : State} {r : Option AlarmRefusal × State} (h : KeepsLists s r.2) :
    KeepsLists s (alarmDone r) := by
  unfold Machine.alarmDone
  split
  · exact h.commandDone
  · exact h.commandDone

/-- Each command but a power-on reset keeps the lists. -/
theorem exec_keepsLists (c : Instr) (hc : ∀ straps, c ≠ .powerOnReset straps) (s : State) : goesOnKeeping s (exec c s) := by
  have h : KeepsLists s s := .refl s
  cases c with
  | powerOnReset straps => exact absurd rfl (hc straps)
  | signalDetected p =>
    exact h.afterSettle (f := fun t => if (portOf t p).link = .down then setLink p .training t else t)
      fun u k => .ite k.setLink k
  | trainingComplete p =>
    exact h.afterSettle (f := fun t => if (portOf t p).link = .training then setLink p .up t else t)
      fun u k => .ite k.setLink k
  | trainingTimeout p =>
    exact h.afterSettle (f := fun t => if (portOf t p).link = .training then count (.trainingRetry p) t else t)
      fun u k => .ite k.count k
  | signalLost => exact h.settle.loseSignal
  | frameReceived p l race =>
    have k : KeepsLists s (if isTimed l then finish s else settle s) := .ite h.finish h.settle
    exact KeepsLists.ite k.receiveFrame k
  | frameTransmitComplete => exact h.settle.completeTransmission
  | localBoundary race => exact h.finish.localBoundary
  | relabelWindowClose => exact h.settle.modRing
  | originEntryAgeOut => exact h.takeDue fun _ k => .ite k.modRing k
  | micBlockArrival st b =>
    exact KeepsLists.ite (h.finish.modStation.forEach fun i u k => k.parts (capture_keeps i _ u)) h.finish
  | sourceLost => exact h.takeDue fun _ k => k.loseSource
  | fadeComplete => exact h.takeDue fun _ k => k.finishFade
  | cueFire => exact h.takeDue fun _ k => k.act
  | claimRequestTake => exact KeepsLists.ite h.settle.takeRequest h.settle
  | chimeNoteEnd => exact h.takeDue fun _ k => k.act
  | chimeExpiry => exact h.takeDue fun _ k => k.expireChime
  | holdTimeout => exact h.takeDue fun _ k => k.timeOut
  | reserveDeadline => exact h.takeDue fun _ k => k.deadlineOf
  | commitDeadline => exact h.takeDue fun _ k => k.deadlineOf
  | releaseDeadline => exact h.takeDue fun _ k => k.deadlineOf
  | reserveService => exact h.settle.serveNext
  | scanStart => exact h.takeDue fun _ k => k.beginScan
  | pollAnswer => exact KeepsLists.ite h.settle.takeAnswerOfPoll.pollNext h.settle
  | missedScan => exact KeepsLists.ite (.ite h.settle.takeMiss.modBoundary h.settle.takeMiss.pollNext) h.settle
  | stationAbsent => exact h.takeDue fun _ k => k.loseStation
  | callNoAnswer => exact h.takeDue fun _ k => k.ringOut
  | flashTimerExpiry => exact h.takeDue fun _ k => .ite k.modStation k
  | toneStepEnd => exact h.takeDue fun _ k => k.act
  | silenceStepEnd => exact h.takeDue fun _ k => k.act
  | flashReadComplete data =>
    refine h.afterSettle (f := fun t => match t.clips.inFlight with
      | some (.read r) => readDone r data t
      | _ => t) fun u k => ?_
    split
    · exact k.readDone
    · exact k
  | flashWriteComplete =>
    refine h.afterSettle (f := fun t => match t.clips.inFlight with
      | some (.write _ _) => writeDone t
      | _ => t) fun u k => ?_
    split
    · exact k.writeDone
    · exact k
  | playComplete => exact h.takeDue fun _ k => .ite k.completePlay k
  | ampReturn => exact h.settle.modLane
  | windowClose => exact h.takeDue fun _ k => k.act
  | controlFrameStart => exact h.settle.startFrame
  | standaloneEntry => exact h.takeDue fun _ k => k.enterStandalone
  | select => exact h.operationSettled fun _ k => k.setPointer
  | window => exact h.operationSettled fun _ k => k.setPointer
  | write => exact h.operationSettled fun _ k => k.writeAll.finishOperation
  | writeFields => exact h.operationSettled fun _ k => k.writeNamed.advance.commandDone
  | writeIf => exact h.operationSettled fun _ k => k.compareWrite.finishOperation
  | read => exact h.operationSettled fun _ k => k.readEntries.finishOperation
  | claimStart =>
    refine h.operationSettled fun _ k => ?_
    split
    · exact k.offerManagement
    · exact k.commandDone
  | claimEnd =>
    refine h.operationSettled fun _ k => ?_
    split
    · split
      · exact k.commandDone
      · split
        · exact k.commandDone
        · exact k.endClaim.commandDone
    · exact k.commandDone
  | playClip =>
    refine h.operationSettled fun _ k => ?_
    split
    · split
      · exact k.commandDone
      · split
        · exact k.commandDone
        · exact k.modPlayer.offerManagement
    · exact k.commandDone
  | alarmStart =>
    refine h.operationSettled fun _ k => ?_
    split
    · exact k.commandDone
    · exact k.startAlarm.alarmDone
  | alarmStop =>
    refine h.operationSettled fun _ k => ?_
    split
    · exact k.commandDone
    · exact k.stopAlarm.alarmDone
  | bankSwap => exact h.operationSettled fun _ k => k.exchangeBanks.commandDone
  | cueAdd =>
    refine h.operationSettled fun _ k => ?_
    split
    · exact k.commandDone
    · exact .ite k.commandDone k.modScene.commandDone
  | cueClear =>
    refine h.operationSettled fun _ k => ?_
    split
    · exact k.modScene.commandDone
    · exact .ite k.modScene.commandDone k.commandDone
  | clipOpen =>
    refine h.operationSettled fun _ k => ?_
    split
    · exact k.commandDone
    · refine .ite k.commandDone (.ite k.commandDone (.ite k.commandDone ?_))
      split
      · exact k.commandDone
      · exact k.setClip.modClips.commandDone
  | clipWrite =>
    refine h.operationSettled fun _ k => ?_
    split
    · exact k.commandDone
    · exact .ite k.commandDone (.ite k.commandDone (.ite k.commandDone k.modClips.queueWrite.count.commandDone))
  | clipClose =>
    refine h.operationSettled fun _ k => ?_
    split
    · exact k.commandDone
    · exact .ite k.commandDone (.ite k.setClip.modClips.queueDirectory.commandDone k.commandDone)
  | clipDelete =>
    refine h.operationSettled fun _ k => ?_
    split
    · exact k.commandDone
    · exact .ite k.commandDone (.ite k.commandDone (.ite k.deleteClip.commandDone k.commandDone))
  | saveImage => exact h.operationSettled fun _ k => .ite k.commandDone k.modControl.queueWrite.commandDone
  | softReset => exact h.finish.operation (.ite h.finish.commandDone h.finish.softResetAll.commandDone)
  | reload => exact h.finish.operation (.ite h.finish.commandDone h.finish.reloadAll)
  | reportEmission => exact h.takeDue fun _ k => k.emitReports

/-- A power-on reset leaves every list empty (R22). -/
theorem powerOnReset_keepsLists {straps : Byte} {s t : State} (h : exec (.powerOnReset straps) s = .next t) :
    KeepsLists s t := by
  have claims : t.claims = (State.powerOn straps.toNat).claims := by cases h; rfl
  have empty : ∀ z, claimsIn t z = [] := fun z => by
    rw [claimsIn, listOf, claims, ← listOf, listOf_powerOn]
    rfl
  exact ListsShrink.keeps ⟨fun z => by rw [empty]; exact List.nil_sublist _, fun z c hc _ => by simp [empty] at hc⟩

/-- Every step keeps the bounds and the order of the claim lists. -/
theorem step_keepsLists {s t : State} (h : step s = .next t) : KeepsLists s t := by
  unfold step at h
  split at h
  · cases h
    exact .refl s
  · next c rest e =>
    have queued : KeepsLists s (withQueue rest s) := (KeepsLists.refl s).same rfl
    by_cases reset : ∃ straps, c = .powerOnReset straps
    · obtain ⟨straps, rfl⟩ := reset
      exact queued.trans (powerOnReset_keepsLists h)
    · have kept := exec_keepsLists c (fun straps hc => reset ⟨straps, hc⟩) (withQueue rest s)
      rw [h] at kept
      exact queued.trans kept

/-- Settles O59: a step's every change lets entries go or enters a claim in its place. -/
theorem listsKept : Obligations.ListsKept :=
  ⟨fun _ _ ok h => (step_keepsLists h).short ok, fun _ _ ok h => (step_keepsLists h).held ok,
    fun _ _ held ok h => (step_keepsLists h).ordered held ok⟩

end Sys2Proof.Machine
end

section
namespace Sys2Proof.Machine

-- Declarations are elaborated one at a time: each thread's stack counts against the check's memory limit.
set_option Elab.async false

/-! ### The end of a chime note (R86) -/

/-- The chime generator takes a state, and its slot a block. -/
def chimeSet (g : ChimeGen) (b : Block) (s : State) : State :=
  writeGenerator 31 b (modClaims (fun x => { x with chimeGen := g }) s)

theorem chimeSet_facts (g : ChimeGen) (b : Block) (s : State) :
    (chimeSet g b s).claims = { s.claims with chimeGen := g } ∧
      tget (chimeSet g b s).slots 31 = { tget s.slots 31 with block := b } ∧
      (∀ j, j ≠ 31 → tget (chimeSet g b s).slots j = tget s.slots j) ∧ keepsBut [.slots, .claims] s (chimeSet g b s) :=
  ⟨rfl, tget_modSlot_self 31 _ _, fun _ other => tget_modSlot_ne _ _ other.symm,
    keepsBut_trans (keepsBut_mono (by simp) (keepsBut_modClaims _ s)) (keepsBut_mono (by simp) (modSlot_keeps 31 _ _))⟩

section
variable {row : Fin 4} {played : Nat} {s : State} (note : s.claims.chimeGen.note = some (row, played))
include note

/-- The next row sounds its first block from phase 0. -/
theorem nextNote_of_note {next : Fin 4} (follows : next.val = row.val + 1) (sounds : isNote s.claims.chimeTable next = true) :
    nextNote s =
      let b := toneBlock s.mix.taper (tget s.claims.chimeTable next).freq (tget s.claims.chimeTable next).amp 0
      chimeSet ⟨some (next, 1), b.2⟩ b.1 s := by
  have row_next : finUpTo 3 (row.val + 1) = next := finUpTo_of_eq follows
  have inside : row.val < 3 := by have := next.isLt; omega
  rw [nextNote, note]
  simp only [row_next, inside, sounds, and_self, if_true]
  rfl

/-- With no note behind the row the generator is idle. -/
theorem nextNote_of_last (last : ∀ next : Fin 4, next.val = row.val + 1 → isNote s.claims.chimeTable next = false) :
    nextNote s = chimeSet ⟨none, 0⟩ silence s := by
  have ends : ¬(row.val < 3 ∧ isNote s.claims.chimeTable (finUpTo 3 (row.val + 1)) = true) := fun ⟨inside, sounds⟩ => by
    rw [last _ (by simp only [finUpTo]; omega)] at sounds
    cases sounds
  rw [nextNote, note]
  simp only [if_neg ends]
  rfl

theorem act_chimeNoteEnd (ended : (tget s.claims.chimeTable row).duration ≤ played) :
    act .chimeNoteEnd (dropDue .chimeNoteEnd s) = nextNote (dropDue .chimeNoteEnd s) := by
  have still : noteEnded (dropDue .chimeNoteEnd s) = true := by
    have gen : (dropDue .chimeNoteEnd s).claims.chimeGen.note = some (row, played) := note
    rw [noteEnded, gen]
    exact decide_eq_true ended
  rw [act, if_pos still]

end

/-- Settles O29, by whether the row behind the note is a note. -/
theorem chimeNoteEnds : Obligations.ChimeNoteEnds := by
  intro row played s due note ended
  have found : (dropDue .chimeNoteEnd s).claims.chimeGen.note = some (row, played) := note
  have acts := act_chimeNoteEnd note ended
  have set : ∀ g b, nextNote (dropDue .chimeNoteEnd s) = chimeSet g b (dropDue .chimeNoteEnd s) →
      ∃ u, carriesOut .chimeNoteEnd .chimeNoteEnd s u ∧ u.claims.chimeGen = g ∧ (tget u.slots 31).block = b ∧
        tget u.slots 31 = { tget s.slots 31 with block := (tget u.slots 31).block } ∧
        (∀ j, j ≠ 31 → tget u.slots j = tget s.slots j) ∧ u.claims = { s.claims with chimeGen := u.claims.chimeGen } ∧
        keepsBut [.slots, .claims, .boundary] s u := fun g b same => by
    obtain ⟨claims, slot, others, kept⟩ := chimeSet_facts g b (dropDue .chimeNoteEnd s)
    refine ⟨_, carriesOut_of_takeDue rfl due (acts.trans same) (kept .boundary (by simp)), by rw [claims], by rw [slot],
      by rw [slot]; rfl, others, by rw [claims]; rfl,
      keepsBut_trans (keepsBut_mono (by simp) (dropDue_keeps _ s)) (keepsBut_mono (by simp) kept)⟩
  by_cases sounds : ∃ next : Fin 4, next.val = row.val + 1 ∧ isNote s.claims.chimeTable next = true
  · obtain ⟨next, follows, sounds⟩ := sounds
    obtain ⟨u, carried, gen, block, frame⟩ := set _ _ (nextNote_of_note found follows sounds)
    refine ⟨u, carried, fun other here _ => ?_, fun none => ?_, frame⟩
    · obtain rfl : other = next := Fin.ext (here.trans follows.symm)
      exact ⟨gen, block⟩
    · rw [none next follows] at sounds
      cases sounds
  · have last : ∀ next : Fin 4, next.val = row.val + 1 → isNote s.claims.chimeTable next = false := fun next follows =>
      Bool.eq_false_iff.mpr fun note => sounds ⟨next, follows, note⟩
    obtain ⟨u, carried, gen, block, frame⟩ := set _ _ (nextNote_of_last found last)
    exact ⟨u, carried, fun next follows note => absurd ⟨next, follows, note⟩ sounds, fun _ => ⟨gen, block⟩, frame⟩

end Sys2Proof.Machine
end

section
namespace Sys2Proof.Machine

-- Declarations are elaborated one at a time: each thread's stack counts against the check's memory limit.
set_option Elab.async false

/-! ### CLAIM-START and PLAY-CLIP (R79, R174, R196) -/

theorem groupOfNumber_val (g : GroupId) : groupOfNumber g.val = some g := dif_pos g.isLt

theorem groupOfNumber_of_le {n : Nat} (h : 32 ≤ n) : groupOfNumber n = none := dif_neg (by omega)

theorem clipOfNumber_val (c : ClipId) : clipOfNumber c.val = some c := dif_pos c.isLt

theorem clipOfNumber_of_le {n : Nat} (h : 64 ≤ n) : clipOfNumber n = none := dif_neg (by omega)

theorem playerOfSlot_playerSlot (p : ChanId) : playerOfSlot (playerSlot p) = some p :=
  (by decide : ∀ p : ChanId, playerOfSlot (playerSlot p) = some p) p

/-- A refusal that an operation is given at once is answered as any other (R190, R196). -/
theorem claimAnswer_refused {code : ResultCode} {s : State} (refusal : isRefusal code = true) :
    claimAnswer s.control.service.isSome code .none s = commandDone code s := by
  cases service : s.control.service with
  | none =>
    have index : operationIndex s = 0 := by rw [operationIndex, service]
    rw [commandDone, finishOperation_eq, service, answeredState, index]
    rfl
  | some v => exact finishOperation_owed .none s (by simp [refusal])

/-- A request that the queue has room for joins it, and its operation waits for the answer (R79, R190). -/
theorem offerManagement_taken {q : StartRequest} {s : State} (run : running s = true)
    (management : isAlarmRequest (.start q) = false) (here : q.framed = s.control.service.isSome)
    (room : s.claims.queue.length < 14) :
    (offerManagement q s).claims = { s.claims with queue := s.claims.queue ++ [.start q] } ∧
      (offerManagement q s).control =
        { s.control with service := s.control.service.map fun v => { v with waiting := true } } ∧
      keepsBut [.claims, .control] s (offerManagement q s) := by
  have admits : queueAdmits s (.start q) = true := by simp [queueAdmits, run, management, room]
  have joined : offerManagement q s = if q.framed then
      awaitAnswer (modClaims (fun x => { x with queue := x.queue ++ [.start q] }) s)
      else modClaims (fun x => { x with queue := x.queue ++ [.start q] }) s := by
    rw [offerManagement, if_pos admits, offerRequest, if_pos admits]
  have put := keepsBut_modClaims (fun x => { x with queue := x.queue ++ [.start q] }) s
  cases service : s.control.service with
  | none =>
    have plain : ¬q.framed = true := by simp [here, service]
    rw [joined, if_neg plain]
    exact ⟨rfl, by rw [Option.map_none, ← service]; rfl, keepsBut_mono (by simp) put⟩
  | some v =>
    have framed : q.framed = true := by simp [here, service]
    rw [joined, if_pos framed]
    refine ⟨rfl, ?_, keepsBut_trans (keepsBut_mono (by simp) put) (keepsBut_mono (by simp) (keepsBut_modControl _ _))⟩
    rw [← service]
    rfl

/-- A request for which the queue has no room is counted, and answered BUSY (R79). -/
theorem offerManagement_full {q : StartRequest} {s : State} (run : running s = true)
    (management : isAlarmRequest (.start q) = false) (full : 14 ≤ s.claims.queue.length) :
    offerManagement q s = answerManagement q .busy (count .requestsBusy s) := by
  have refuses : ¬queueAdmits s (.start q) = true := by simp [queueAdmits, run, management, full]
  rw [offerManagement, if_neg refuses, offerRequest, if_neg refuses]

theorem answerManagement_busy {q : StartRequest} {i : SlotId} (s : State) (slot : q.slot = some i)
    (none : playerOfSlot i = none) : answerManagement q .busy s = claimAnswer q.framed .busy .none s := by
  rw [answerManagement, slot]
  dsimp only
  rw [none]

/-- A playback's player is given up where its request finds the queue full (R174). -/
theorem answerManagement_busy_player {q : StartRequest} {i : SlotId} {p : ChanId} (s : State) (slot : q.slot = some i)
    (player : playerOfSlot i = some p) :
    answerManagement q .busy s = claimAnswer q.framed .busy .none (stopPlayer p s) := by
  rw [answerManagement, slot]
  dsimp only
  rw [player]

/-- The commands in a state in which the interpreter can carry out an operation, by what they name (R174, R196). -/
theorem exec_claimStart {s : State} (h : ready s) {slot : Nat} {i : SlotId} (named : claimStartSlot s slot = some i)
    (g : GroupId) (priority : Nat) (mode : ClaimMode) (policy : Policy) (chime : Bool) (hold : Nat) :
    exec (.claimStart slot g.val priority mode policy chime hold) s =
      .next (offerManagement (managementRequest i g priority mode policy chime hold (inFrame s)) s) := by
  simp only [exec, execClaimStart, settle_of_quiet h.1, operation_of_ready _ h, named, groupOfNumber_val]

theorem exec_claimStart_out {s : State} (h : ready s) {slot group : Nat}
    (bad : claimStartSlot s slot = none ∨ 32 ≤ group) (priority : Nat) (mode : ClaimMode) (policy : Policy)
    (chime : Bool) (hold : Nat) :
    exec (.claimStart slot group priority mode policy chime hold) s = .next (commandDone .outOfRange s) := by
  simp only [exec, execClaimStart, settle_of_quiet h.1, operation_of_ready _ h]
  rcases bad with none | out
  · simp only [none]
  · rw [groupOfNumber_of_le out]
    cases claimStartSlot s slot <;> rfl

section
variable {s : State} (h : ready s) (priority : Nat) (mode : ClaimMode) (policy : Policy) (chime : Bool)
include h

theorem exec_playClip_out {clip group : Nat} (bad : 64 ≤ clip ∨ 32 ≤ group) :
    exec (.playClip clip group priority mode policy chime) s = .next (commandDone .outOfRange s) := by
  simp only [exec, execPlayClip, settle_of_quiet h.1, operation_of_ready _ h]
  rcases bad with out | out
  · simp only [clipOfNumber_of_le out]
  · rw [groupOfNumber_of_le out]
    cases clipOfNumber clip <;> rfl

theorem exec_playClip_notReady {c : ClipId} (other : (clipAt s c).state ≠ .ready) (g : GroupId) :
    exec (.playClip c.val g.val priority mode policy chime) s = .next (commandDone .notReady s) := by
  simp only [exec, execPlayClip, settle_of_quiet h.1, operation_of_ready _ h, clipOfNumber_val, groupOfNumber_val]
  rw [if_pos other]

theorem exec_playClip_noPlayer {c : ClipId} (ready : (clipAt s c).state = .ready) (none : freePlayer s = none)
    (g : GroupId) : exec (.playClip c.val g.val priority mode policy chime) s = .next (commandDone .busy s) := by
  simp only [exec, execPlayClip, settle_of_quiet h.1, operation_of_ready _ h, clipOfNumber_val, groupOfNumber_val, none]
  rw [if_neg (not_not.mpr ready)]

theorem exec_playClip {c : ClipId} {p : ChanId} (ready : (clipAt s c).state = .ready) (free : freePlayer s = some p)
    (g : GroupId) : exec (.playClip c.val g.val priority mode policy chime) s =
      .next (reservePlayer p c g priority mode policy chime s) := by
  simp only [exec, execPlayClip, settle_of_quiet h.1, operation_of_ready _ h, clipOfNumber_val, groupOfNumber_val, free]
  rw [if_neg (not_not.mpr ready)]

end

/-- A slot that CLAIM-START may name is a ring slot, which is no player's (R196). -/
theorem playerOfSlot_of_claimStartSlot {s : State} {n : Nat} {i : SlotId} (h : claimStartSlot s n = some i) :
    playerOfSlot i = none := by
  unfold claimStartSlot at h
  split at h
  · next ring =>
    split at h
    · cases h
    · obtain rfl := Option.some.inj h
      have not29 : (⟨n, by omega⟩ : SlotId) ≠ 29 := fun e => by have := congrArg Fin.val e; simp at this; omega
      have not30 : (⟨n, by omega⟩ : SlotId) ≠ 30 := fun e => by have := congrArg Fin.val e; simp at this; omega
      rw [playerOfSlot, if_neg not29, if_neg not30]
  · cases h

/-- A management claim request that finds the queue full is refused, counted once (R79, R196). -/
theorem busy_refused {s : State} : counterOf (commandDone .busy (count .requestsBusy s)) .requestsBusy =
      saturatingSucc (counterOf s .requestsBusy) ∧ refusedWith .busy s (commandDone .busy (count .requestsBusy s)) := by
  refine ⟨(counterOf_of_countsBut (commandDone_answers .busy _).counts (by decide)).trans (counterOf_count _ s),
    commandDone_answered .busy (count .requestsBusy s), ?_, commandDone_answerKept rfl rfl rfl⟩
  exact keepsBut_trans (keepsBut_mono (by simp) (count_keeps .requestsBusy s)) (commandDone_keeps .busy _)

/-- A player that is reserved for a playback of a clip (R174). -/
def playerReserved (p : ChanId) (c : ClipId) (s : State) : State :=
  modPlayer p (fun x => { x with owner := .management none, clip := c }) s

theorem playerReserved_clips (p : ChanId) (c : ClipId) (s : State) : (playerReserved p c s).clips = { s.clips with
    players := tset s.clips.players p { playerOf s p with owner := .management none, clip := c } } := rfl

/-- A playback that is refused gives its player up, with whatever reads the player had asked for (R173, R174). -/
theorem stopPlayer_reserved (p : ChanId) (c : ClipId) (s : State) :
    (stopPlayer p (playerReserved p c s)).clips = { s.clips with
      players := tset s.clips.players p idlePlayer
      reads := s.clips.reads.filter fun r => !readOfPlayer p r
      inFlight := s.clips.inFlight.map (orphanRead p) } := by
  have owned : ¬((playerOf (playerReserved p c s) p).state = .idle ∧ (playerOf (playerReserved p c s) p).owner = .none) := by
    rintro ⟨-, none⟩
    rw [playerOf, playerReserved_clips, tget_tset_self] at none
    cases none
  have again : tset (tset s.clips.players p { playerOf s p with owner := .management none, clip := c }) p idlePlayer =
      tset s.clips.players p idlePlayer := table_ext fun q => by
    rw [tget_tset, tget_tset, tget_tset]
    split <;> rfl
  rw [stopPlayer, if_neg owned, modClips_clips, playerReserved_clips]
  dsimp only
  rw [again]

/-- A playback for whose request the queue has no room is answered BUSY, and its player given up (R79, R174). -/
theorem reservePlayer_full (p : ChanId) (c : ClipId) (g : GroupId) (priority : Nat) (mode : ClaimMode) (policy : Policy)
    (chime : Bool) {s : State} (run : running s = true) (full : 14 ≤ s.claims.queue.length) :
    reservePlayer p c g priority mode policy chime s =
      commandDone .busy (stopPlayer p (playerReserved p c (count .requestsBusy s))) := by
  have refused := offerManagement_full (s := playerReserved p c s)
    (q := managementRequest (playerSlot p) g priority mode policy chime 0 (inFrame s)) run rfl full
  have answers := answerManagement_busy_player (count .requestsBusy (playerReserved p c s))
    (q := managementRequest (playerSlot p) g priority mode policy chime 0 (inFrame s)) rfl (playerOfSlot_playerSlot p)
  have control : (stopPlayer p (playerReserved p c (count .requestsBusy s))).control = s.control :=
    stopPlayer_keeps p _ .control (by simp)
  rw [← claimAnswer_refused rfl, control]
  exact refused.trans answers

/-- Reads that are none of the player's are left as they are. -/
theorem orphanRead_of_other {p : ChanId} {s : State}
    (h : ∀ r, s.clips.inFlight = some (.read r) → readOfPlayer p r = false) :
    s.clips.inFlight.map (orphanRead p) = s.clips.inFlight := by
  cases flight : s.clips.inFlight with
  | none => rfl
  | some op =>
    cases op with
    | read r => simp [orphanRead, orphanRequest, h r flight]
    | write sector content => rfl

/-- Settles O51, command by command. -/
theorem managementRequests : Obligations.ManagementRequests := by
  intro group priority mode policy chime s h
  refine ⟨fun slot hold bad => ⟨_, exec_claimStart_out h bad .., commandDone_refused rfl s⟩,
    fun slot hold i g named at_g => ?started,
    fun clip bad => ⟨_, exec_playClip_out h _ _ _ _ bad, commandDone_refused rfl s⟩,
    fun c g at_g => ⟨fun other => ?notReady, fun ready none => ?noPlayer,
      fun p ready free room => ?reserved, fun p ready free full => ?givenUp⟩⟩
  all_goals subst at_g
  case started =>
    have does := exec_claimStart h named g priority mode policy chime hold
    refine ⟨fun room => ⟨_, does, offerManagement_taken h.2.1 rfl rfl room⟩, fun full => ⟨_, does, ?_⟩⟩
    rw [offerManagement_full h.2.1 rfl full,
      answerManagement_busy _ rfl (playerOfSlot_of_claimStartSlot named)]
    change counterOf (claimAnswer (count .requestsBusy s).control.service.isSome _ _ _) _ = _ ∧
      refusedWith _ _ (claimAnswer (count .requestsBusy s).control.service.isSome _ _ _)
    rw [claimAnswer_refused rfl]
    exact busy_refused
  case notReady => exact ⟨_, exec_playClip_notReady h _ _ _ _ other g, commandDone_refused rfl s⟩
  case noPlayer => exact ⟨_, exec_playClip_noPlayer h _ _ _ _ ready none g, commandDone_refused rfl s⟩
  case reserved =>
    obtain ⟨claims, control, kept⟩ := offerManagement_taken (s := playerReserved p c s)
      (q := managementRequest (playerSlot p) g priority mode policy chime 0 s.control.service.isSome) h.2.1 rfl rfl room
    exact ⟨_, exec_playClip h priority mode policy chime ready free g, claims,
      (kept .clips (by simp)).trans (playerReserved_clips p c s), control,
      keepsBut_trans (keepsBut_mono (by simp) (keepsBut_modClips _ s)) (keepsBut_mono (by simp) kept)⟩
  case givenUp =>
    have does := exec_playClip h priority mode policy chime ready free g
    have given := reservePlayer_full p c g priority mode policy chime h.2.1 full
    have stopped := stopPlayer_keeps p (playerReserved p c (count .requestsBusy s))
    have players := stopPlayer_reserved p c (count .requestsBusy s)
    generalize stopPlayer p (playerReserved p c (count .requestsBusy s)) = u at given stopped players
    have answer := commandDone_keeps .busy u
    have control : u.control = s.control := stopped .control (by simp)
    have ring : u.ring = s.ring := stopped .ring (by simp)
    have counters : u.counters = (count .requestsBusy s).counters := stopped .counters (by simp)
    have counted : counterOf u .requestsBusy = saturatingSucc (counterOf s .requestsBusy) := by
      rw [counterOf, counters]
      exact counterOf_count .requestsBusy s
    have reserved : keepsBut [.clips, .counters] s u :=
      keepsBut_trans (keepsBut_mono (by simp) (count_keeps .requestsBusy s))
        (keepsBut_trans (keepsBut_mono (by simp) (keepsBut_modClips _ _)) (keepsBut_mono (by simp) stopped))
    rw [given] at does
    have clips : (commandDone .busy u).clips = { s.clips with
        players := tset s.clips.players p idlePlayer
        reads := s.clips.reads.filter fun r => !readOfPlayer p r
        inFlight := s.clips.inFlight.map (orphanRead p) } := (answer .clips (by simp)).trans players
    refine ⟨_, does, ?_, ?_, fun q other => ?_, ?_, ?_, fun mine flight => ?_, ?_, ?_, ?_⟩
    · exact (commandDone_answered .busy u).trans (by rw [operationIndex, operationIndex, control])
    · rw [playerOf, clips, tget_tset_self]
    · rw [playerOf, clips, tget_tset_ne _ _ (Ne.symm other)]
      rfl
    · rw [clips]
    · rw [clips]
    · rw [clips, orphanRead_of_other flight, List.filter_eq_self.mpr fun r of => by simp [mine r of]]
    · exact (counterOf_of_countsBut (commandDone_answers .busy u).counts (by decide)).trans counted
    · exact keepsBut_trans (keepsBut_mono (by simp) reserved) (keepsBut_mono (by simp) answer)
    · exact commandDone_answerKept rfl ring control

end Sys2Proof.Machine
end

section
namespace Sys2Proof.Machine

-- Declarations are elaborated one at a time: each thread's stack counts against the check's memory limit.
set_option Elab.async false

/-! ### COMMIT and RELEASE for the entries of a claim (R109, R110) -/

/-- The counters of a frame that is originated: lost at a port (R2, R14). -/
def sendCounts : List Counter := [.linkDiscard .a, .linkDiscard .b, .queueFull .a, .queueFull .b]

theorem sendClaim_keeps (dest : Nat) (payload : List Byte) (s : State) :
    keepsBut [.ring, .counters] s (sendClaim dest payload s) := originate_keeps _ _ _ s

theorem sendClaim_countsBut (dest : Nat) (payload : List Byte) (s : State) :
    countsBut sendCounts s (sendClaim dest payload s) := originate_countsBut dest _ s (by decide)

theorem sendClaim_period (dest : Nat) (payload : List Byte) (s : State) :
    (sendClaim dest payload s).ring.period = s.ring.period := by rw [sendClaim, (sends_originate _ _ _ s).ring]

theorem sendClaim_ring_congr (dest : Nat) (payload : List Byte) {s t : State} (ring : t.ring = s.ring)
    (control : t.control = s.control) : (sendClaim dest payload t).ring = (sendClaim dest payload s).ring :=
  originate_ring_congr ring (by rw [control])

/-- One frame of a kind goes to the peer of an entry, which takes a state and a fresh deadline. -/
def renewOne (kind : Nat) (state : OutState) (t : TagId) (s : State) : State :=
  match entryAt s t with
  | some e => sendClaim e.peer (shortPayload kind t.val) (renewEntry t e state s)
  | none => s

/-- The frame alone, for an entry as it stands in another state. -/
def entryFrame (kind : Nat) (s : State) (t : TagId) (u : State) : State :=
  match entryAt s t with
  | some e => sendClaim e.peer (shortPayload kind t.val) u
  | none => u

theorem commitPeers_eq (c : ClaimId) (s : State) :
    commitPeers c s = forEach (entriesOf s c (· == .reserved)) (renewOne 2 .commitSent) s := rfl

theorem releasePeers_eq (c : ClaimId) (s : State) :
    releasePeers c s = clearHold c (forEach (entriesOf s c fun _ => true) (renewOne 3 .releaseSent) s) := rfl

section
variable (kind : Nat) (state : OutState)

theorem renewOne_keeps (t : TagId) (s : State) : keepsBut [.ring, .peer, .counters] s (renewOne kind state t s) := by
  unfold renewOne
  split
  · exact keepsBut_trans (keepsBut_mono (by simp) (keepsBut_modPeer _ s))
      (keepsBut_mono (by simp) (sendClaim_keeps _ _ _))
  · exact keepsBut_refl _ s

theorem renewOne_countsBut (t : TagId) (s : State) : countsBut sendCounts s (renewOne kind state t s) := by
  unfold renewOne
  split
  · exact sendClaim_countsBut _ _ (renewEntry _ _ _ s)
  · exact countsBut_refl _ s

theorem renewOne_period (t : TagId) (s : State) : (renewOne kind state t s).ring.period = s.ring.period := by
  unfold renewOne
  split
  · exact sendClaim_period _ _ (renewEntry _ _ _ s)
  · rfl

/-- The peer unit's record changes in the entry alone. -/
theorem renewOne_peer (t : TagId) (s : State) : (renewOne kind state t s).peer = { s.peer with
    file := tset s.peer.file t ((entryAt s t).map (sentEntry s state)) } := by
  unfold renewOne
  cases e : entryAt s t with
  | none =>
    have same : tset s.peer.file t (none : Option OutEntry) = s.peer.file := table_ext fun k => by
      rw [tget_tset]
      split
      · next at_k => exact at_k ▸ e.symm
      · rfl
    dsimp only [Option.map_none]
    rw [same]
  | some x =>
    dsimp only
    rw [sendClaim_keeps _ _ _ .peer (by decide)]
    rfl

theorem entryAt_renewOne (t k : TagId) (s : State) : entryAt (renewOne kind state t s) k =
    if t = k then (entryAt s k).map (sentEntry s state) else entryAt s k := by
  rw [entryAt, renewOne_peer]
  dsimp only
  rw [tget_tset]
  split
  · next e => rw [e]
  · rfl

/-- The frame that goes out does not depend on the entry's new state. -/
theorem renewOne_ring {t : TagId} {s u v : State} (entry : entryAt u t = entryAt s t) (ring : u.ring = v.ring)
    (control : u.control = v.control) : (renewOne kind state t u).ring = (entryFrame kind s t v).ring := by
  unfold renewOne entryFrame
  rw [entry]
  split
  · exact sendClaim_ring_congr _ _ (s := v) (t := renewEntry _ _ _ u) ring control
  · exact ring

theorem entryFrame_keeps (s : State) (t : TagId) (u : State) : keepsBut [.ring, .counters] u (entryFrame kind s t u) := by
  unfold entryFrame
  split
  · exact sendClaim_keeps _ _ _
  · exact keepsBut_refl _ u

theorem renewAll_keeps (l : List TagId) (s : State) :
    keepsBut [.ring, .peer, .counters] s (forEach l (renewOne kind state) s) :=
  keepsBut_forEach (renewOne_keeps kind state) l s

theorem renewAll_countsBut (l : List TagId) (s : State) : countsBut sendCounts s (forEach l (renewOne kind state) s) :=
  forEach_induct (countsBut sendCounts s) _ l (fun t _ u h => countsBut_trans h (renewOne_countsBut kind state t u)) s
    (countsBut_refl _ s)

theorem renewAll_peer (l : List TagId) (s : State) : (forEach l (renewOne kind state) s).peer =
    { s.peer with file := (forEach l (renewOne kind state) s).peer.file } := by
  induction l generalizing s with
  | nil => rfl
  | cons t l ih => rw [forEach_cons, ih, renewOne_peer]

/-- Each entry of a walk is renewed, and every other stays. -/
theorem entryAt_renewAll {l : List TagId} (once : l.Nodup) (s : State) (t : TagId) :
    entryAt (forEach l (renewOne kind state) s) t =
      if t ∈ l then (entryAt s t).map (sentEntry s state) else entryAt s t := by
  obtain ⟨-, inside, outside⟩ := get_forEach_own (get := entryAt) (f := renewOne kind state) (s := s)
    (I := fun u => u.control = s.control ∧ u.ring.period = s.ring.period)
    (fun a u hu same => ⟨⟨(renewOne_keeps kind state a u .control (by decide)).trans hu.1,
        (renewOne_period kind state a u).trans hu.2⟩, by
      have fresh : sentEntry u state = sentEntry s state := funext fun e => by rw [sentEntry, sentEntry, hu.1, hu.2]
      rw [entryAt_renewOne, entryAt_renewOne, same, fresh], fun b ne => by rw [entryAt_renewOne, if_neg ne]⟩)
    once (t := s) ⟨rfl, rfl⟩ (fun _ _ => rfl)
  split
  · next at_t => rw [inside t at_t, entryAt_renewOne, if_pos rfl]
  · next not_t => exact outside t not_t

/-- The frames of a walk go out one after another, to the peers of the entries as they stood before it. -/
theorem renewAll_ring {l : List TagId} (once : l.Nodup) {s u v : State} (entries : ∀ t ∈ l, entryAt u t = entryAt s t)
    (ring : u.ring = v.ring) (control : u.control = v.control) :
    (forEach l (renewOne kind state) u).ring = (forEach l (entryFrame kind s) v).ring := by
  induction l generalizing u v with
  | nil => exact ring
  | cons t l ih =>
    obtain ⟨new, once⟩ := List.nodup_cons.mp once
    refine ih once (fun k hk => ?_) (renewOne_ring kind state (entries t (by simp)) ring control) ?_
    · have other : t ≠ k := fun e => new (e ▸ hk)
      rw [entryAt_renewOne, if_neg other, entries k (List.mem_cons_of_mem _ hk)]
    · exact (renewOne_keeps kind state t u .control (by decide)).trans
        (control.trans (entryFrame_keeps kind s t v .control (by decide)).symm)

end

/-- Two states in which the peer unit does the same: its record, the ring and the interpreter agree. -/
structure PeersAgree (s t : State) : Prop where
  peer : t.peer = s.peer
  ring : t.ring = s.ring
  control : t.control = s.control

theorem peersAgree_of_keeps {l : List Part} {s t : State} (h : keepsBut l s t) (peer : .peer ∉ l) (ring : .ring ∉ l)
    (control : .control ∉ l) : PeersAgree s t := ⟨h .peer peer, h .ring ring, h .control control⟩

theorem PeersAgree.entryAt {s t : State} (h : PeersAgree s t) (k : TagId) : entryAt t k = entryAt s k := by
  rw [Machine.entryAt, h.peer, Machine.entryAt]

theorem PeersAgree.entriesOf {s t : State} (h : PeersAgree s t) (c : ClaimId) (p : OutState → Bool) :
    entriesOf t c p = entriesOf s c p := by simp only [Machine.entriesOf, h.entryAt]

theorem PeersAgree.renewAll {s t : State} (h : PeersAgree s t) (kind : Nat) (state : OutState) {l : List TagId}
    (once : l.Nodup) : PeersAgree (forEach l (renewOne kind state) s) (forEach l (renewOne kind state) t) where
  peer := by
    have fresh : sentEntry t state = sentEntry s state := funext fun e => by
      rw [sentEntry, sentEntry, h.ring, h.control]
    have files : (forEach l (renewOne kind state) t).peer.file = (forEach l (renewOne kind state) s).peer.file :=
      table_ext fun k => by
        have left := entryAt_renewAll kind state once t k
        have right := entryAt_renewAll kind state once s k
        rw [h.entryAt, fresh] at left
        exact left.trans right.symm
    rw [renewAll_peer, renewAll_peer kind state l s, files, h.peer]
  ring := (renewAll_ring kind state once (s := s) (fun k _ => h.entryAt k) h.ring h.control).trans
    (renewAll_ring kind state once (fun _ _ => rfl) rfl rfl).symm
  control := (renewAll_keeps kind state l t .control (by decide)).trans
    (h.control.trans (renewAll_keeps kind state l s .control (by decide)).symm)

theorem nodup_entriesOf (s : State) (c : ClaimId) (p : OutState → Bool) : (entriesOf s c p).Nodup :=
  (List.nodup_finRange 8).filter _

theorem mem_entriesOf {s : State} {c : ClaimId} {p : OutState → Bool} {t : TagId} :
    t ∈ entriesOf s c p ↔ ∃ e, entryAt s t = some e ∧ e.claim = c ∧ e.state ≠ .releaseSent ∧ p e.state = true := by
  unfold entriesOf
  rw [List.mem_filter]
  cases entryAt s t <;> simp [everyFin, and_assoc]

/-- What the walk over a claim's entries does to one entry. -/
theorem entryAt_renewEntries (kind : Nat) (state : OutState) (c : ClaimId) (p : OutState → Bool) (s : State) (t : TagId) :
    entryAt (forEach (entriesOf s c p) (renewOne kind state) s) t = (entryAt s t).map fun e =>
      if e.claim = c ∧ e.state ≠ .releaseSent ∧ p e.state = true then sentEntry s state e else e := by
  simp only [entryAt_renewAll kind state (nodup_entriesOf s c p), mem_entriesOf]
  cases entryAt s t with
  | none => simp
  | some e =>
    simp only [Option.some.injEq, exists_eq_left', Option.map_some]
    split <;> rfl

theorem PeersAgree.commitPeers {s t : State} (h : PeersAgree s t) (c : ClaimId) :
    PeersAgree (commitPeers c s) (commitPeers c t) := by
  rw [commitPeers_eq, commitPeers_eq, h.entriesOf]
  exact h.renewAll 2 .commitSent (nodup_entriesOf s c _)

theorem PeersAgree.releasePeers {s t : State} (h : PeersAgree s t) (c : ClaimId) :
    PeersAgree (releasePeers c s) (releasePeers c t) := by
  rw [releasePeers_eq, releasePeers_eq, h.entriesOf]
  obtain ⟨peer, ring, control⟩ := h.renewAll 3 .releaseSent (nodup_entriesOf s c fun _ => true)
  exact ⟨by rw [clearHold, modPeer_peer, peer]; rfl, ring, control⟩

theorem commitPeers_countsBut (c : ClaimId) (s : State) : countsBut sendCounts s (commitPeers c s) :=
  renewAll_countsBut 2 .commitSent _ s

theorem releasePeers_countsBut (c : ClaimId) (s : State) : countsBut sendCounts s (releasePeers c s) :=
  renewAll_countsBut 3 .releaseSent _ s

theorem releasePeers_period (c : ClaimId) (s : State) : (releasePeers c s).ring.period = s.ring.period :=
  forEach_induct (fun u => u.ring.period = s.ring.period) (renewOne 3 .releaseSent) (entriesOf s c fun _ => true)
    (fun t _ u h => (renewOne_period 3 .releaseSent t u).trans h) s rfl

/-- A claim without entries sends nothing at its end. -/
theorem releasePeers_none {c : ClaimId} {s : State} (h : entriesOf s c (fun _ => true) = []) :
    releasePeers c s = clearHold c s := by rw [releasePeers_eq, h, forEach_nil]

theorem commitPeers_none {c : ClaimId} {s : State} (h : entriesOf s c (fun _ => true) = []) : commitPeers c s = s := by
  have none : entriesOf s c (· == .reserved) = [] := List.eq_nil_iff_forall_not_mem.mpr fun t ht => by
    obtain ⟨e, at_t, own, other, -⟩ := mem_entriesOf.mp ht
    have : t ∈ entriesOf s c fun _ => true := mem_entriesOf.mpr ⟨e, at_t, own, other, rfl⟩
    simp [h] at this
  rw [commitPeers_eq, none, forEach_nil]

end Sys2Proof.Machine
end

section
namespace Sys2Proof.Machine

-- Declarations are elaborated one at a time: each thread's stack counts against the check's memory limit.
set_option Elab.async false

/-! ### The end of a claim of any owner (R91) -/

/-- A claim's entries leave its zones' lists, the zone states reported unless the end is a reset's. -/
def unlistedBy (quiet : Bool) (c : ClaimId) (s : State) : State :=
  forEach (zonesWhere s c fun _ => true) (removeEntry quiet c) s

/-- A claim as it stands when its owner is told of its end: unlisted, its slot released and its place free. -/
def vacated (reason : EndReason) (c : ClaimId) (cl : Claim) (s : State) : State :=
  freed c (releaseSlot c cl reason (unlistedBy (reason == .reset) c s))

theorem endClaim_of_held {c : ClaimId} {cl : Claim} {s : State} (reason : EndReason) (h : claimAt s c = some cl) :
    endClaim reason c s = reportUnless (reason == .reset) .claimEnd c.val (reasonCode reason)
      (tellOwner c cl reason (vacated reason c cl s)) := by
  unfold endClaim
  rw [h]
  rfl

theorem reportUnless_keeps (quiet : Bool) (kind : ReportKind) (subject value : Nat) (s : State) :
    keepsBut [.reports, .counters] s (reportUnless quiet kind subject value s) :=
  keepsBut_ite (keepsBut_refl _ s) (report_keeps kind subject value s)

theorem reportUnless_countsBut (quiet : Bool) (kind : ReportKind) (subject value : Nat) (s : State) :
    countsBut reportCounts s (reportUnless quiet kind subject value s) := by
  unfold reportUnless
  split
  · exact countsBut_refl _ s
  · exact report_countsBut kind subject value s

theorem noteZone_countsBut (quiet : Bool) (z : ZoneId) (s : State) : countsBut reportCounts s (noteZone quiet z s) := by
  unfold noteZone
  dsimp only
  split
  · exact countsBut_refl _ s
  · exact reportUnless_countsBut _ _ _ _ (modClaims _ s)

theorem noteZone_claims (quiet : Bool) (z : ZoneId) (s : State) :
    (noteZone quiet z s).claims = { s.claims with reported := (noteZone quiet z s).claims.reported } := by
  unfold noteZone
  dsimp only
  split
  · rfl
  · rw [reportUnless_keeps _ _ _ _ _ .claims (by decide)]
    rfl

theorem listOf_removeEntryBy (quiet : Bool) (c : ClaimId) (z y : ZoneId) (s : State) :
    listOf (removeEntry quiet c z s) y =
      if z = y then (listOf s y).filter (fun e => e.claim != c) else listOf s y := by
  rw [removeEntry, listOf_noteZone]
  split
  · next e => rw [← e, listOf_setList_self]
  · next e => rw [listOf_setList_ne _ _ e]

theorem listOf_unlistedBy (quiet : Bool) (c : ClaimId) (s : State) (z : ZoneId) :
    listOf (unlistedBy quiet c s) z = (listOf s z).filter (fun e => e.claim ≠ c) := by
  obtain ⟨-, inside, outside⟩ := get_forEach_own (get := listOf) (f := removeEntry quiet c) (I := fun _ => True) (s := s)
    (fun y u _ same => ⟨trivial, by rw [listOf_removeEntryBy, listOf_removeEntryBy, same],
      fun x ne => by rw [listOf_removeEntryBy, if_neg ne]⟩)
    (l := zonesWhere s c fun _ => true) ((List.nodup_finRange 24).filter _) (t := s) trivial (fun _ _ => rfl)
  have same : (listOf s z).filter (fun e => e.claim ≠ c) = (listOf s z).filter (fun e => e.claim != c) :=
    List.filter_congr fun e _ => Bool.eq_iff_iff.mpr (by simp)
  by_cases h : z ∈ zonesWhere s c fun _ => true
  · rw [unlistedBy, inside z h, listOf_removeEntryBy, if_pos rfl, same]
  · rw [unlistedBy, outside z h, same, eq_comm, List.filter_eq_self]
    rw [mem_zonesWhere, not_not, entryIn_eq_none] at h
    exact fun e he => bne_iff_ne.mpr (h e he)

theorem unlistedBy_keeps (quiet : Bool) (c : ClaimId) (s : State) :
    keepsBut [.claims, .reports, .counters] s (unlistedBy quiet c s) :=
  keepsBut_forEach (removeEntry_keeps quiet c) _ s

theorem unlistedBy_countsBut (quiet : Bool) (c : ClaimId) (s : State) :
    countsBut reportCounts s (unlistedBy quiet c s) :=
  forEach_induct (countsBut reportCounts s) _ _ (fun z _ u h =>
    countsBut_trans h (noteZone_countsBut quiet z (setList z ((listOf u z).filter fun e => e.claim != c) u))) s
    (countsBut_refl _ s)

/-- Of the claim unit the lists and the zone states reported change alone. -/
theorem unlistedBy_claims (quiet : Bool) (c : ClaimId) (s : State) : (unlistedBy quiet c s).claims = { s.claims with
    lists := (unlistedBy quiet c s).claims.lists, reported := (unlistedBy quiet c s).claims.reported } := by
  unfold unlistedBy
  generalize zonesWhere s c (fun _ => true) = zs
  induction zs generalizing s with
  | nil => rfl
  | cons z zs ih =>
    have one : (removeEntry quiet c z s).claims = { s.claims with
        lists := (removeEntry quiet c z s).claims.lists
        reported := (removeEntry quiet c z s).claims.reported } := by
      rw [removeEntry, noteZone_claims]
      rfl
    rw [forEach_cons, ih, one]

section
variable (reason : EndReason) (c : ClaimId) (cl : Claim) (s : State)

theorem vacated_keeps : keepsBut [.slots, .claims, .clips, .reports, .counters] s (vacated reason c cl s) :=
  keepsBut_trans (keepsBut_mono (by simp) (unlistedBy_keeps _ c s)) (keepsBut_trans
    (keepsBut_mono (by simp) (releaseSlot_keeps c cl reason _)) (keepsBut_mono (by simp) (keepsBut_modClaims _ _)))

theorem vacated_claims : (vacated reason c cl s).claims = { s.claims with
    table := tset s.claims.table c none
    lists := (vacated reason c cl s).claims.lists
    reported := (vacated reason c cl s).claims.reported } := by
  rw [vacated, freed, modClaims_claims, releaseSlot_keeps _ _ _ _ .claims (by decide), unlistedBy_claims]

theorem listOf_vacated (z : ZoneId) :
    listOf (vacated reason c cl s) z = (listOf s z).filter (fun e => e.claim ≠ c) := by
  rw [← listOf_unlistedBy (reason == .reset) c s z, vacated, listOf, freed, modClaims_claims]
  dsimp only
  rw [releaseSlot_keeps _ _ _ _ .claims (by decide)]
  rfl

theorem vacated_countsBut : countsBut reportCounts s (vacated reason c cl s) := by
  have counters : (vacated reason c cl s).counters = (unlistedBy (reason == .reset) c s).counters :=
    releaseSlot_keeps c cl reason _ .counters (by decide)
  intro r other
  rw [counters]
  exact unlistedBy_countsBut _ c s r other

theorem peersAgree_vacated : PeersAgree s (vacated reason c cl s) :=
  peersAgree_of_keeps (vacated_keeps reason c cl s) (by decide) (by decide) (by decide)

/-- The counters that the end of a claim may count. -/
def endingCounts : List Counter := .inboundPreempted :: (sendCounts ++ reportCounts)

theorem tellOwner_countsBut : countsBut endingCounts s (tellOwner c cl reason s) := by
  unfold tellOwner
  split
  · next st _ =>
    have told : countsBut endingCounts s (tellStation st c reason s) := fun r _ => by
      rw [tellStation_intercom st c reason s .counters (by decide)]
    exact countsBut_trans told (countsBut_mono (by decide) (releasePeers_countsBut c _))
  · exact countsBut_mono (by decide) (releasePeers_countsBut c s)
  · exact countsBut_refl _ s
  · exact countsBut_mono (by decide) (tellOrigin_countsBut _ _ _ _ s)

theorem tellOwner_period : (tellOwner c cl reason s).ring.period = s.ring.period := by
  unfold tellOwner
  split
  · next st _ =>
    rw [releasePeers_period, tellStation_intercom st c reason s .ring (by decide)]
  · exact releasePeers_period c s
  · rfl
  · exact tellOrigin_period _ _ _ _ s

theorem endClaim_countsBut : countsBut endingCounts s (endClaim reason c s) := by
  cases held : claimAt s c with
  | none => rw [endClaim_of_free reason held]; exact countsBut_refl _ s
  | some cl =>
    rw [endClaim_of_held reason held]
    exact countsBut_trans (countsBut_mono (by decide) (vacated_countsBut reason c cl s)) (countsBut_trans
      (tellOwner_countsBut reason c cl _) (countsBut_mono (by decide) (reportUnless_countsBut _ _ _ _ _)))

end

section
variable {reason : EndReason} {c : ClaimId} {cl : Claim} {s : State} (held : claimAt s c = some cl)
include held

theorem endClaim_claims : (endClaim reason c s).claims = (vacated reason c cl s).claims := by
  rw [endClaim_of_held reason held, reportUnless_keeps _ _ _ _ _ .claims (by decide),
    tellOwner_parts _ _ _ _ .claims (by decide)]

/-- A claim that ends leaves the table and every list (R91). -/
theorem claimGone_endClaim : claimGone c s (endClaim reason c s) := by
  have claims := endClaim_claims (reason := reason) held
  have table : ∀ d, claimAt (endClaim reason c s) d = if c = d then none else claimAt s d := fun d => by
    rw [claimAt, claims, vacated_claims]
    exact tget_tset _ _ _ _
  refine ⟨by rw [table, if_pos rfl], fun d other => by rw [table, if_neg other.symm], fun z => ?_⟩
  rw [listOf, claims]
  exact listOf_vacated reason c cl s z

/-- Of the claim unit the table, the lists and the zone states reported change alone. -/
theorem endClaim_claims_frame : (endClaim reason c s).claims = { s.claims with
    table := (endClaim reason c s).claims.table
    lists := (endClaim reason c s).claims.lists
    reported := (endClaim reason c s).claims.reported } := by
  rw [endClaim_claims held, vacated_claims]

theorem recorded_endClaim (loud : reason ≠ .reset) (addressed : s.control.mode ≠ .unaddressed) :
    recorded .claimEnd c.val (reasonCode reason) s (endClaim reason c s) := by
  have quiet : (reason == .reset) = false := beq_false_of_ne loud
  have control : (tellOwner c cl reason (vacated reason c cl s)).control = s.control :=
    (tellOwner_parts _ _ _ _ .control (by decide)).trans (vacated_keeps reason c cl s .control (by decide))
  have period : (tellOwner c cl reason (vacated reason c cl s)).ring.period = s.ring.period :=
    (tellOwner_period _ _ _ _).trans (congrArg Ring.period (vacated_keeps reason c cl s .ring (by decide)))
  have made := recorded_report .claimEnd c.val (reasonCode reason)
    (s := tellOwner c cl reason (vacated reason c cl s)) (by rw [control]; exact addressed)
  rw [endClaim_of_held reason held, reportUnless, quiet]
  rw [recorded, period] at made
  exact made

theorem endClaim_ring : (endClaim reason c s).ring = (tellOwner c cl reason (vacated reason c cl s)).ring := by
  rw [endClaim_of_held reason held, reportUnless_keeps _ _ _ _ _ .ring (by decide)]

/-- The origin of an inbound claim hears of its end as it is told (R117). -/
theorem originTold_endClaim : originTold (preemptingEnd reason) cl id s (endClaim reason c s) := by
  intro node tag owner
  have told := tellOrigin_told (node := node) (tag := tag) (n := (zonesOf cl.target).length) (reason := reason)
    (vacated_keeps reason c cl s .ring (by decide)) (vacated_keeps reason c cl s .control (by decide))
    (vacated_keeps reason c cl s .peer (by decide))
  have before : counterOf (vacated reason c cl s) .inboundPreempted = counterOf s .inboundPreempted :=
    counterOf_of_countsBut (vacated_countsBut reason c cl s) (by decide)
  have ring := endClaim_ring (reason := reason) held
  have after : counterOf (endClaim reason c s) .inboundPreempted =
      counterOf (tellOwner c cl reason (vacated reason c cl s)) .inboundPreempted := by
    rw [endClaim_of_held reason held]
    exact counterOf_of_countsBut (reportUnless_countsBut _ _ _ _ _) (by decide)
  rw [tellOwner, owner] at ring after
  rw [ring, after, ← before]
  exact told

/-- A claim of this part releases its peers at its end (R110). -/
theorem endClaim_releases (here : isLocal cl.owner = true) :
    (endClaim reason c s).peer = (releasePeers c s).peer ∧ (endClaim reason c s).ring = (releasePeers c s).ring := by
  have peer : (endClaim reason c s).peer = (tellOwner c cl reason (vacated reason c cl s)).peer := by
    rw [endClaim_of_held reason held, reportUnless_keeps _ _ _ _ _ .peer (by decide)]
  rw [peer, endClaim_ring held, tellOwner]
  have agree := peersAgree_vacated reason c cl s
  cases owner : cl.owner with
  | management => exact ⟨(agree.releasePeers c).peer, (agree.releasePeers c).ring⟩
  | station st =>
    have told := tellStation_intercom st c reason (vacated reason c cl s)
    have both : PeersAgree s (tellStation st c reason (vacated reason c cl s)) :=
      ⟨(told .peer (by decide)).trans agree.peer, (told .ring (by decide)).trans agree.ring,
        (told .control (by decide)).trans agree.control⟩
    exact ⟨(both.releasePeers c).peer, (both.releasePeers c).ring⟩
  | alarm ch => rw [owner] at here; cases here
  | peer node tag => rw [owner] at here; cases here

end

theorem endClaim_keeps (reason : EndReason) (c : ClaimId) (s : State) : keepsBut endingParts s (endClaim reason c s) := by
  cases held : claimAt s c with
  | none => rw [endClaim_of_free reason held]; exact keepsBut_refl _ s
  | some cl =>
    rw [endClaim_of_held reason held]
    exact keepsBut_trans (keepsBut_mono (by decide) (vacated_keeps reason c cl s)) (keepsBut_trans
      (keepsBut_mono (by decide) (tellOwner_parts c cl reason _))
      (keepsBut_mono (by decide) (reportUnless_keeps _ _ _ _ _)))

end Sys2Proof.Machine
end

section
namespace Sys2Proof.Machine

-- Declarations are elaborated one at a time: each thread's stack counts against the check's memory limit.
set_option Elab.async false

/-! ### The insertion of an entry (R82 to R84) -/

/-- A zone's list is written, and its state reported where it changes. -/
def listWritten (z : ZoneId) (l : List ListEntry) (s : State) : State := noteZone false z (setList z l s)

section
variable (z : ZoneId) (l : List ListEntry) (s : State)

theorem listWritten_claims : (listWritten z l s).claims = { s.claims with
    lists := tset s.claims.lists z l, reported := (listWritten z l s).claims.reported } :=
  noteZone_claims false z (setList z l s)

theorem listWritten_countsBut : countsBut reportCounts s (listWritten z l s) := noteZone_countsBut false z (setList z l s)

theorem listWritten_keeps : keepsBut [.claims, .reports, .counters] s (listWritten z l s) :=
  keepsBut_trans (keepsBut_mono (by simp) (keepsBut_modClaims _ s)) (noteZone_keeps false z _)

theorem listOf_listWritten (y : ZoneId) : listOf (listWritten z l s) y = if z = y then l else listOf s y := by
  rw [listWritten, listOf_noteZone]
  exact tget_tset _ _ _ _

theorem claimAt_listWritten (d : ClaimId) : claimAt (listWritten z l s) d = claimAt s d :=
  claimAt_noteZone false z d (setList z l s)

end

section
variable {c : ClaimId} {cl : Claim} (live : Bool) {z : ZoneId} {s : State} (own : claimAt s c = some cl)
include own

/-- Into a list with a place free the entry enters (R82). -/
theorem insertEntry_room (room : (listOf s z).length < 4) :
    insertEntry c live z s = listWritten z (inserted s.claims.table c cl live (listOf s z)) s := by
  rw [insertEntry, own]
  exact if_pos room

/-- Into a full list whose last entry its claim does not outrank it does not enter: the claim loses the zone (R83). -/
theorem insertEntry_lost {e : ListEntry} {x : Claim} (full : 4 ≤ (listOf s z).length)
    (last : (listOf s z).getLast? = some e) (held : claimAt s e.claim = some x) (behind : outranks cl x = false) :
    insertEntry c live z s = count (.zonesLost z) (modClaim c (fun x => { x with lost := x.lost + 1 }) s) := by
  have none : evictedBy s.claims.table cl (listOf s z) = none := by
    rw [evictedBy, last]
    dsimp only
    rw [show tget s.claims.table e.claim = some x from held]
    exact if_neg (by simp [behind])
  rw [insertEntry, own]
  dsimp only
  rw [if_neg (by omega), none]

/-- Into a full list it enters in place of the last entry, when its claim outranks that entry's (R83). -/
theorem insertEntry_evicts {e : ListEntry} {x : Claim} (full : 4 ≤ (listOf s z).length)
    (last : (listOf s z).getLast? = some e) (held : claimAt s e.claim = some x) (above : outranks cl x = true) :
    insertEntry c live z s = loseEntry e.claim (count (.entriesEvicted z)
      (listWritten z (inserted s.claims.table c cl live (listOf s z).dropLast) s)) := by
  have evicts : evictedBy s.claims.table cl (listOf s z) = some e := by
    rw [evictedBy, last]
    dsimp only
    rw [show tget s.claims.table e.claim = some x from held]
    exact if_pos above
  rw [insertEntry, own]
  dsimp only
  rw [if_neg (by omega), evicts]
  rfl

end

theorem claimAt_modClaim (c d : ClaimId) (f : Claim → Claim) (s : State) :
    claimAt (modClaim c f s) d = if c = d then (claimAt s d).map f else claimAt s d := tget_tmod _ _ _ _

/-- A change of a claim that stands in the table is a write of its place. -/
theorem modClaim_of_held {c : ClaimId} {cl : Claim} {s : State} (f : Claim → Claim) (h : claimAt s c = some cl) :
    (modClaim c f s).claims = { s.claims with table := tset s.claims.table c (some (f cl)) } := by
  have table : tmod s.claims.table c (Option.map f) = tset s.claims.table c (some (f cl)) := table_ext fun d => by
    rw [tget_tmod, tget_tset]
    split
    · next e => rw [← e, show tget s.claims.table c = some cl from h]; rfl
    · rfl
  rw [modClaim, modClaims_claims, table]

theorem holdsAnyZone_iff {s : State} {c : ClaimId} :
    holdsAnyZone s c = true ↔ ∃ z, entryIn (listOf s z) c ≠ none := by
  rw [holdsAnyZone, Bool.not_eq_true', List.isEmpty_eq_false_iff_exists_mem]
  exact exists_congr fun z => mem_zonesWhere

/-- Where a new entry of another claim takes the last place's entry from a list, its claim has no entry there. -/
theorem not_mem_inserted {c d : ClaimId} {cl : Claim} {live : Bool} {table : Vector (Option Claim) 48}
    {l : List ListEntry} (other : d ≠ c) (gone : d ∉ l.map (·.claim)) :
    d ∉ (inserted table c cl live l).map (·.claim) := by
  rw [(claims_inserted_perm table c cl live l).mem_iff, List.mem_cons]
  exact fun h => h.elim other gone

/-- A zone's list is written in the place of one that held an entry of a claim, which loses the zone (R83, R84). -/
def evictedFrom (z : ZoneId) (l : List ListEntry) (d : ClaimId) (s : State) : State :=
  modClaim d (fun x => { x with lost := x.lost + 1 }) (count (.entriesEvicted z) (listWritten z l s))

section
variable (z : ZoneId) (l : List ListEntry) (d : ClaimId) (s : State)

theorem evictedFrom_keeps : keepsBut [.claims, .reports, .counters] s (evictedFrom z l d s) :=
  keepsBut_trans (listWritten_keeps z l s) (keepsBut_trans (keepsBut_mono (by simp) (count_keeps _ _))
    (keepsBut_mono (by simp) (keepsBut_modClaims _ _)))

theorem evictedFrom_countsBut : countsBut (.entriesEvicted z :: reportCounts) s (evictedFrom z l d s) :=
  countsBut_trans (countsBut_mono (by simp [reportCounts]) (listWritten_countsBut z l s))
    (count_countsBut (by simp) (listWritten z l s))

theorem counterOf_evictedFrom :
    counterOf (evictedFrom z l d s) (.entriesEvicted z) = saturatingSucc (counterOf s (.entriesEvicted z)) :=
  (counterOf_count _ _).trans (congrArg _ (counterOf_of_countsBut (listWritten_countsBut z l s)
    (entriesEvicted_other z (by decide))))

theorem listOf_evictedFrom (y : ZoneId) : listOf (evictedFrom z l d s) y = if z = y then l else listOf s y :=
  listOf_listWritten z l s y

theorem claimAt_evictedFrom (k : ClaimId) : claimAt (evictedFrom z l d s) k =
    if d = k then (claimAt s k).map (fun x => { x with lost := x.lost + 1 }) else claimAt s k := by
  rw [evictedFrom, claimAt_modClaim]
  change (if d = k then (claimAt (listWritten z l s) k).map _ else claimAt (listWritten z l s) k) = _
  rw [claimAt_listWritten]

end

/-- A claim evicted from a list that holds another zone goes on without the one it lost. -/
theorem evicted_keeps {s : State} {z y : ZoneId} {l : List ListEntry} {d : ClaimId} (other : y ≠ z)
    (listed : entryIn (listOf s y) d ≠ none) :
    loseEntry d (count (.entriesEvicted z) (listWritten z l s)) = evictedFrom z l d s := by
  have holds : holdsAnyZone (evictedFrom z l d s) d = true :=
    holdsAnyZone_iff.mpr ⟨y, by rw [listOf_evictedFrom, if_neg other.symm]; exact listed⟩
  exact if_pos holds

/-- A claim evicted from the only list that it had an entry in ends. -/
theorem evicted_ends {s : State} {z : ZoneId} {l : List ListEntry} {d : ClaimId} (gone : entryIn l d = none)
    (alone : ∀ y, y ≠ z → entryIn (listOf s y) d = none) :
    loseEntry d (count (.entriesEvicted z) (listWritten z l s)) = endClaim .preempted d (evictedFrom z l d s) := by
  have homeless : ¬holdsAnyZone (evictedFrom z l d s) d = true := by
    rw [holdsAnyZone_iff]
    rintro ⟨y, listed⟩
    rw [listOf_evictedFrom] at listed
    split at listed
    · exact listed gone
    · next ne => exact listed (alone y (Ne.symm ne))
  exact if_neg homeless

theorem filter_of_entryIn_none {l : List ListEntry} {d : ClaimId} (h : entryIn l d = none) :
    l.filter (fun e => e.claim ≠ d) = l :=
  List.filter_eq_self.mpr fun e he => decide_eq_true (entryIn_eq_none.mp h e he)

/-- An end of which the origin of an inbound claim is told, from a state that differs from another in the claims, the reports
and the counters of both, and of a claim that differs in nothing that the origin hears. -/
theorem originTold_of_before {told : Bool} {x y : Claim} {s t u : State} (keeps : keepsBut [.claims, .reports, .counters] s t)
    (count : counterOf t .inboundPreempted = counterOf s .inboundPreempted) (owner : y.owner = x.owner)
    (target : y.target = x.target) (h : originTold told y id t u) : originTold told x id s u := by
  intro node tag own
  have service := inServiceFor_congr (keeps .peer (by decide)) node tag
  obtain ⟨hears, silent⟩ := h node tag (owner.trans own)
  refine ⟨fun yes free => ?_, fun no => ?_⟩
  · obtain ⟨ring, counted⟩ := hears yes (service.trans free)
    exact ⟨ring.trans (target ▸ sendAnswer_ring_congr _ _ _ _ _ _ (keeps .ring (by decide))
      (congrArg Control.mode (keeps .control (by decide)))), counted.trans (by rw [count])⟩
  · obtain ⟨ring, counted⟩ := silent (no.imp_right service.trans)
    exact ⟨ring.trans (keeps .ring (by decide)), counted.trans count⟩

section
variable {s : State} {z : ZoneId} {l : List ListEntry} {d : ClaimId} {x : Claim} (held : claimAt s d = some x)
include held

theorem claimAt_evicted_ends (k : ClaimId) :
    claimAt (endClaim .preempted d (evictedFrom z l d s)) k = if d = k then none else claimAt s k := by
  have found : claimAt (evictedFrom z l d s) d = some { x with lost := x.lost + 1 } := by
    rw [claimAt_evictedFrom, if_pos rfl, held]; rfl
  obtain ⟨free, others, -⟩ := claimGone_endClaim (reason := .preempted) found
  split
  · next e => exact e ▸ free
  · next ne => rw [others k (Ne.symm ne), claimAt_evictedFrom, if_neg ne]

theorem listOf_evicted_ends (gone : entryIn l d = none) (alone : ∀ y, y ≠ z → entryIn (listOf s y) d = none)
    (y : ZoneId) :
    listOf (endClaim .preempted d (evictedFrom z l d s)) y = if z = y then l else listOf s y := by
  have found : claimAt (evictedFrom z l d s) d = some { x with lost := x.lost + 1 } := by
    rw [claimAt_evictedFrom, if_pos rfl, held]; rfl
  rw [(claimGone_endClaim (reason := .preempted) found).2.2, listOf_evictedFrom]
  apply filter_of_entryIn_none
  split
  · exact gone
  · next ne => exact alone y (Ne.symm ne)

/-- The end of an evicted claim is told and reported as any other (R84, R91). -/
theorem evicted_told : (s.control.mode ≠ .unaddressed →
      recorded .claimEnd d.val 2 s (endClaim .preempted d (evictedFrom z l d s))) ∧
    originTold true x id s (endClaim .preempted d (evictedFrom z l d s)) := by
  have found : claimAt (evictedFrom z l d s) d = some { x with lost := x.lost + 1 } := by
    rw [claimAt_evictedFrom, if_pos rfl, held]; rfl
  have keeps := evictedFrom_keeps z l d s
  refine ⟨fun addressed => ?_, ?_⟩
  · have made := recorded_endClaim (reason := .preempted) found (by decide)
      (by rw [keeps .control (by decide)]; exact addressed)
    rw [recorded, keeps .ring (by decide)] at made
    exact made
  · have counted := counterOf_of_countsBut (c := .inboundPreempted) (evictedFrom_countsBut z l d s) fun e he same => by
      rcases List.mem_cons.mp he with rfl | he
      · exact entriesEvicted_other z (l := [.inboundPreempted]) (by decide) _ (by simp) same.symm
      · exact (by decide : ∀ e ∈ reportCounts, counterIx .inboundPreempted ≠ counterIx e) e he same
    exact originTold_of_before (y := { x with lost := x.lost + 1 }) keeps counted rfl rfl
      (originTold_endClaim (reason := .preempted) found)

end

section
variable {c : ClaimId} {cl x : Claim} (live : Bool) {z : ZoneId} {s : State} {e : ListEntry}
  (own : claimAt s c = some cl) (full : 4 ≤ (listOf s z).length) (last : (listOf s z).getLast? = some e)
  (held : claimAt s e.claim = some x) (above : outranks cl x = true)
  (once : e.claim ∉ (listOf s z).dropLast.map (·.claim))
include own held above once

/-- The list that an entry has been evicted from holds no other of its claim. -/
theorem evicted_gone : entryIn (inserted s.claims.table c cl live (listOf s z).dropLast) e.claim = none := by
  have other : e.claim ≠ c := fun same => by
    have equal : x = cl := Option.some.inj (held.symm.trans (same ▸ own))
    rw [equal] at above
    exact absurd (not_outranks_of_outranks above) (by simp [above])
  have fresh := not_mem_inserted (cl := cl) (live := live) (table := s.claims.table) other once
  exact entryIn_eq_none.mpr fun f hf same => fresh (List.mem_map.mpr ⟨f, hf, same⟩)

include full last

/-- What an eviction leaves (R83, R84). -/
theorem evicted_facts :
    listOf (insertEntry c live z s) z = inserted s.claims.table c cl live (listOf s z).dropLast ∧
      (∀ y, y ≠ z → listOf (insertEntry c live z s) y = listOf s y) ∧
      (∀ d, d ≠ e.claim → claimAt (insertEntry c live z s) d = claimAt s d) ∧
      counterOf (insertEntry c live z s) (.entriesEvicted z) = saturatingSucc (counterOf s (.entriesEvicted z)) ∧
      ((∃ y, y ≠ z ∧ entryIn (listOf s y) e.claim ≠ none) →
        claimAt (insertEntry c live z s) e.claim = some { x with lost := x.lost + 1 } ∧
        countsBut [.entriesEvicted z, .reportsCoalesced, .reportsDropped] s (insertEntry c live z s) ∧
        keepsBut [.claims, .reports, .counters] s (insertEntry c live z s)) ∧
      ((∀ y, y ≠ z → entryIn (listOf s y) e.claim = none) →
        claimAt (insertEntry c live z s) e.claim = none ∧
        (s.control.mode ≠ .unaddressed → recorded .claimEnd e.claim.val 2 s (insertEntry c live z s)) ∧
        originTold true x id s (insertEntry c live z s) ∧
        keepsBut [.ring, .slots, .claims, .peer, .intercom, .alarm, .clips, .reports, .counters] s
          (insertEntry c live z s)) := by
  rw [insertEntry_evicts live own full last held above]
  have gone := evicted_gone live own held above once
  generalize inserted s.claims.table c cl live (listOf s z).dropLast = l at gone ⊢
  by_cases elsewhere : ∃ y, y ≠ z ∧ entryIn (listOf s y) e.claim ≠ none
  · obtain ⟨y, other, listed⟩ := elsewhere
    rw [evicted_keeps other listed]
    refine ⟨by rw [listOf_evictedFrom, if_pos rfl], fun y ne => by rw [listOf_evictedFrom, if_neg ne.symm],
      fun d ne => by rw [claimAt_evictedFrom, if_neg ne.symm], counterOf_evictedFrom z l e.claim s, fun _ =>
        ⟨by rw [claimAt_evictedFrom, if_pos rfl, held]; rfl, evictedFrom_countsBut z l e.claim s,
          evictedFrom_keeps z l e.claim s⟩, fun alone => absurd (alone y other) listed⟩
  · have alone : ∀ y, y ≠ z → entryIn (listOf s y) e.claim = none := fun y ne =>
      by_contra fun listed => elsewhere ⟨y, ne, listed⟩
    have counted : counterOf (endClaim .preempted e.claim (evictedFrom z l e.claim s)) (.entriesEvicted z) =
        saturatingSucc (counterOf s (.entriesEvicted z)) :=
      (counterOf_of_countsBut (endClaim_countsBut .preempted e.claim _) (entriesEvicted_other z (by decide))).trans
        (counterOf_evictedFrom z l e.claim s)
    obtain ⟨reported, told⟩ := evicted_told (z := z) (l := l) held
    rw [evicted_ends gone alone]
    refine ⟨by rw [listOf_evicted_ends held gone alone, if_pos rfl],
      fun y ne => by rw [listOf_evicted_ends held gone alone, if_neg ne.symm],
      fun d ne => by rw [claimAt_evicted_ends held, if_neg ne.symm], counted,
      fun h => absurd h elsewhere, fun _ => ⟨by rw [claimAt_evicted_ends held, if_pos rfl], reported, told,
        keepsBut_trans (keepsBut_mono (by decide) (evictedFrom_keeps z l e.claim s)) (endClaim_keeps _ _ _)⟩⟩

end

/-- Settles O27: the place of the new entry, and the insertion into a list with room and into a full one. -/
theorem insertionKeepsOrder : Obligations.InsertionKeepsOrder := by
  refine ⟨fun s c cl live l own held ordered => ⟨inserted_pairwise live own held ordered, ?_⟩, fun s c cl live z own =>
    ⟨fun room => ?_, fun e x full last held => ⟨fun behind => ?_, fun above once =>
      evicted_facts live own full last held above once⟩⟩⟩
  · obtain ⟨before, after, split, claims, some_before, none_before, ahead, behind⟩ :=
      inserted_place (cl := cl) c live held ordered
    refine ⟨before, after, split, claims, some_before, fun none => (none_before none).trans ?_, ahead, behind⟩
    cases after <;> rfl
  · rw [insertEntry_room live own room]
    exact ⟨listWritten_claims _ _ s, listWritten_countsBut _ _ s, listWritten_keeps _ _ s⟩
  · rw [insertEntry_lost live own full last held behind]
    refine ⟨modClaim_of_held _ own, ⟨counterOf_count _ _, count_countsBut (by simp) _⟩, ?_⟩
    exact keepsBut_trans (keepsBut_mono (by simp) (keepsBut_modClaims _ s)) (keepsBut_mono (by simp) (count_keeps _ _))

end Sys2Proof.Machine
end

section
namespace Sys2Proof.Machine

-- Declarations are elaborated one at a time: each thread's stack counts against the check's memory limit.
set_option Elab.async false

/-! ### RELEASE frames, the transmit channel, CLAIM-END and the hold limit (R91 to R93, R103, R110) -/

theorem clearHold_tx (c : ClaimId) (s : State) (k : TxId) : tget (clearHold c s).peer.tx k = match tget s.peer.tx k with
    | some r => if r.claim = c ∧ r.hold = true then (if r.peers = 0 then none else some { r with hold := false })
      else some r
    | none => none := by
  rw [clearHold, modPeer_peer]
  dsimp only
  rw [tget_tmap]
  cases tget s.peer.tx k with
  | none => rfl
  | some r => simp [settleTx]

/-- The end of a claim of this part: each of its entries, its channel, and the RELEASE frames (R110). -/
theorem releasePeers_facts (c : ClaimId) (s : State) :
    (∀ t, entryAt (releasePeers c s) t = (entryAt s t).map fun e =>
      if e.claim = c ∧ e.state ≠ .releaseSent then sentEntry s .releaseSent e else e) ∧
    (∀ k, tget (releasePeers c s).peer.tx k = match tget s.peer.tx k with
      | some r => if r.claim = c ∧ r.hold = true then (if r.peers = 0 then none else some { r with hold := false })
        else some r
      | none => none) ∧
    (releasePeers c s).peer = { s.peer with file := (releasePeers c s).peer.file, tx := (releasePeers c s).peer.tx } ∧
    (releasePeers c s).ring = (forEach (entriesOf s c fun _ => true) (entryFrame 3 s) s).ring ∧
    keepsBut [.ring, .peer, .counters] s (releasePeers c s) := by
  have peer := renewAll_peer 3 .releaseSent (entriesOf s c fun _ => true) s
  refine ⟨fun t => ?_, fun k => ?_, ?_, ?_, ?_⟩
  · have entries := entryAt_renewEntries 3 .releaseSent c (fun _ => true) s t
    simp only [and_true] at entries
    exact entries
  · rw [releasePeers_eq, clearHold_tx, peer]
  · rw [releasePeers_eq, clearHold, modPeer_peer, peer]
  · exact renewAll_ring 3 .releaseSent (nodup_entriesOf s c _) (fun _ _ => rfl) rfl rfl
  · exact keepsBut_trans (renewAll_keeps 3 .releaseSent _ s) (keepsBut_mono (by simp) (keepsBut_modPeer _ _))

/-- An entry becomes FREE, and with it the place that it held in its transmit channel (R103). -/
theorem freeEntry_facts {t : TagId} {e : OutEntry} {s : State} (entry : entryAt s t = some e) :
    (freeEntry t s).peer = { s.peer with file := tset s.peer.file t none, tx := (freeEntry t s).peer.tx } ∧
    (∀ k r, e.channel = some k → tget s.peer.tx k = some r → tget (freeEntry t s).peer.tx k =
      if r.hold = false ∧ r.peers ≤ 1 then none else some { r with peers := r.peers - 1 }) ∧
    (∀ k, e.channel ≠ some k → tget (freeEntry t s).peer.tx k = tget s.peer.tx k) ∧
    keepsBut [.peer] s (freeEntry t s) := by
  unfold freeEntry
  rw [entry]
  dsimp only
  cases channel : e.channel with
  | none => exact ⟨rfl, by simp, fun _ _ => rfl, keepsBut_modPeer _ s⟩
  | some j =>
    refine ⟨rfl, fun k r same record => ?_, fun k other => ?_, keepsBut_trans (keepsBut_modPeer _ s) (keepsBut_modPeer _ _)⟩
    · obtain rfl := Option.some.inj same
      have dropped : tget (dropPeer j (setEntry t none s)).peer.tx j = settleTx { r with peers := r.peers - 1 } := by
        rw [dropPeer, modPeer_peer, setEntry, modPeer_peer]
        dsimp only
        rw [tget_tmod_self, record]
        rfl
      have few : r.peers - 1 = 0 ↔ r.peers ≤ 1 := by omega
      dsimp only
      rw [dropped]
      simp only [settleTx, few]
    · have ne : j ≠ k := fun e => other (congrArg some e)
      dsimp only
      rw [dropPeer, modPeer_peer, setEntry, modPeer_peer]
      exact tget_tmod_ne _ _ ne

/-- The end of a claim of another owner leaves the alarm channels as they are. -/
theorem endClaim_alarm {c : ClaimId} {cl : Claim} {s : State} (reason : EndReason) (held : claimAt s c = some cl)
    (other : ∀ ch, cl.owner ≠ .alarm ch) : (endClaim reason c s).alarm = s.alarm := by
  rw [endClaim_of_held reason held, reportUnless_keeps _ _ _ _ _ .alarm (by decide),
    ← vacated_keeps reason c cl s .alarm (by decide)]
  generalize vacated reason c cl s = v
  unfold tellOwner
  cases owner : cl.owner with
  | station st =>
    exact (releasePeers_keeps c _ .alarm (by decide)).trans (tellStation_intercom st c reason v .alarm (by decide))
  | management => exact releasePeers_keeps c v .alarm (by decide)
  | alarm ch => exact absurd owner (other ch)
  | peer node tag => exact tellOrigin_keeps _ _ _ _ v .alarm (by decide)

/-- The end of an inbound claim touches its slot, the claims and what its origin and the controller hear alone. -/
theorem endClaim_inbound_parts {c : ClaimId} {cl : Claim} {node tag : Nat} {s : State} (reason : EndReason)
    (held : claimAt s c = some cl) (owner : cl.owner = .peer node tag) :
    (endClaim reason c s).slots = (rebind .unbound cl.slot s).slots ∧
      keepsBut [.ring, .slots, .claims, .reports, .counters] s (endClaim reason c s) := by
  have ended := endClaim_of_held reason held
  have slot : releaseSlot c cl reason (unlistedBy (reason == .reset) c s) =
      rebind .unbound cl.slot (unlistedBy (reason == .reset) c s) := by rw [releaseSlot, owner]
  have told : ∀ u, keepsBut [.ring, .counters] u (tellOwner c cl reason u) := fun u => by
    rw [tellOwner, owner]
    exact tellOrigin_keeps _ _ _ _ u
  have vacates : keepsBut [.slots, .claims, .reports, .counters] s (vacated reason c cl s) := by
    rw [vacated, slot]
    exact keepsBut_trans (keepsBut_mono (by simp) (unlistedBy_keeps _ c s)) (keepsBut_trans
      (keepsBut_mono (by simp) (rebind_keeps _ _ _)) (keepsBut_mono (by simp) (keepsBut_modClaims _ _)))
  refine ⟨?_, ?_⟩
  · have before : (unlistedBy (reason == .reset) c s).slots = s.slots := unlistedBy_keeps _ c s .slots (by decide)
    rw [ended, reportUnless_keeps _ _ _ _ _ .slots (by decide), told _ .slots (by decide), vacated, freed, modClaims_slots,
      slot, rebind, modSlot, modSlots_slots, before]
    rfl
  · rw [ended]
    exact keepsBut_trans (keepsBut_mono (by simp) vacates) (keepsBut_trans (keepsBut_mono (by simp) (told _))
      (keepsBut_mono (by simp) (reportUnless_keeps _ _ _ _ _)))

/-- A reset ends an inbound claim without a report. -/
theorem endClaim_reset_reports {c : ClaimId} {cl : Claim} {node tag : Nat} {s : State}
    (held : claimAt s c = some cl) (owner : cl.owner = .peer node tag) : (endClaim .reset c s).reports = s.reports := by
  rw [endClaim_reset held, tellOwner, owner]
  dsimp only
  rw [tellOrigin_keeps _ _ _ _ _ .reports (by decide), freed, modClaims_reports, releaseSlot_keeps _ _ _ _ .reports (by decide),
    (unlisted_claims c s).1 .reports (by decide)]

/-- What the origin of an ended claim has heard, with the REPLY of the operation that ended it (R117, R197). -/
theorem originTold_replied {told : Bool} {cl : Claim} {s u : State} (control : u.control = s.control)
    (h : originTold told cl id s u) :
    originTold told cl (finishOperation false .ok .none) s (finishOperation false .ok .none u) := by
  have counted : counterOf (finishOperation false .ok .none u) .inboundPreempted = counterOf u .inboundPreempted :=
    counterOf_of_countsBut (finishOperation_answers false .ok .none u).counts (by decide)
  intro node tag owner
  obtain ⟨hears, silent⟩ := h node tag owner
  rw [counted]
  refine ⟨fun yes free => ?_, fun no => ?_⟩
  · obtain ⟨ring, one⟩ := hears yes free
    have plain : (sendAnswer node tag 0 .preempted 0 (zonesOf cl.target).length s).control = s.control :=
      sendAnswer_keeps _ _ _ _ _ _ s .control (by simp)
    exact ⟨(finishOperation_congr false .ok .none ring (control.trans plain.symm)).1, one⟩
  · obtain ⟨ring, none⟩ := silent no
    exact ⟨(finishOperation_congr false .ok .none ring control).1, none⟩

/-- CLAIM-END, by what it names (R92). -/
theorem exec_claimEnd_of_free {s : State} (h : ready s) {c : ClaimId} (free : claimAt s c = none) :
    exec (.claimEnd c.val) s = .next (commandDone .notFound s) := by
  simp only [exec, execClaimEnd, settle_of_quiet h.1, operation_of_ready _ h, c.isLt, dif_pos, Fin.eta, free]

theorem exec_claimEnd_error {s : State} (h : ready s) {c : ClaimId} {cl : Claim} {code : ResultCode}
    (held : claimAt s c = some cl) (refuses : claimEndReason cl.owner = .error code) :
    exec (.claimEnd c.val) s = .next (commandDone code s) := by
  simp only [exec, execClaimEnd, settle_of_quiet h.1, operation_of_ready _ h, c.isLt, dif_pos, Fin.eta, held, refuses]

theorem exec_claimEnd {s : State} (h : ready s) {c : ClaimId} {cl : Claim} {reason : EndReason}
    (held : claimAt s c = some cl) (ends : claimEndReason cl.owner = .ok reason) :
    exec (.claimEnd c.val) s = .next (commandDone .ok (endClaim reason c s)) := by
  simp only [exec, execClaimEnd, settle_of_quiet h.1, operation_of_ready _ h, c.isLt, dif_pos, Fin.eta, held, ends]

theorem exec_claimEnd_of_le {s : State} (h : ready s) {n : Nat} (out : 48 ≤ n) :
    exec (.claimEnd n) s = .next (commandDone .outOfRange s) := by
  have no : ¬n < 48 := by omega
  simp only [exec, execClaimEnd, settle_of_quiet h.1, operation_of_ready _ h, dif_neg no]

/-- What a CLAIM-END that ends a claim leaves. -/
theorem claimEnd_ends {c : ClaimId} {cl : Claim} {s : State} (reason : EndReason) (addressed : s.control.mode ≠ .unaddressed)
    (held : claimAt s c = some cl) (loud : reason ≠ .reset) (plain : ∀ ch, cl.owner ≠ .alarm ch) :
    answered .ok s (commandDone .ok (endClaim reason c s)) ∧ claimGone c s (commandDone .ok (endClaim reason c s)) ∧
      recorded .claimEnd c.val (reasonCode reason) s (commandDone .ok (endClaim reason c s)) ∧
      ((isLocal cl.owner = true) → (commandDone .ok (endClaim reason c s)).peer = (releasePeers c s).peer ∧
        (commandDone .ok (endClaim reason c s)).ring = (finishOperation false .ok .none (releasePeers c s)).ring) ∧
      originTold (preemptingEnd reason) cl (finishOperation false .ok .none) s (commandDone .ok (endClaim reason c s)) ∧
      keepsBut [.ring, .slots, .claims, .peer, .intercom, .clips, .control, .reports, .counters] s
        (commandDone .ok (endClaim reason c s)) := by
  have kept := endClaim_keeps reason c s
  have control : (endClaim reason c s).control = s.control := kept .control (by decide)
  have answer := commandDone_keeps .ok (endClaim reason c s)
  obtain ⟨free, others, lists⟩ := claimGone_endClaim (reason := reason) held
  have claims : (commandDone .ok (endClaim reason c s)).claims = (endClaim reason c s).claims := answer .claims (by simp)
  refine ⟨?_, ⟨?_, fun d ne => ?_, fun z => ?_⟩, ?_, fun here => ?_,
    originTold_replied control (originTold_endClaim (reason := reason) held), ?_⟩
  · exact (commandDone_answered .ok _).trans (by rw [operationIndex, operationIndex, control])
  · rw [claimAt, claims]; exact free
  · rw [claimAt, claims]; exact others d ne
  · rw [listOf, claims]; exact lists z
  · rw [recorded, answer .reports (by simp)]
    exact recorded_endClaim (reason := reason) held loud addressed
  · obtain ⟨peer, ring⟩ := endClaim_releases (reason := reason) held here
    exact ⟨(answer .peer (by simp)).trans peer, (finishOperation_congr false .ok .none ring
      (control.trans (releasePeers_keeps c s .control (by decide)).symm)).1⟩
  · have ended := keepsBut_of_agree (keepsBut_mono (m := .alarm :: [.ring, .slots, .claims, .peer, .intercom, .clips,
      .reports, .counters]) (by decide) kept) (endClaim_alarm reason held plain)
    exact keepsBut_trans (keepsBut_mono (by simp) ended) (keepsBut_mono (by simp) answer)

/-- What a CLAIM-END leaves that releases a claim of this part. -/
theorem claimEnd_releases {c : ClaimId} {cl : Claim} {s : State} (addressed : s.control.mode ≠ .unaddressed)
    (held : claimAt s c = some cl) (plain : ∀ ch, cl.owner ≠ .alarm ch) (here : isLocal cl.owner = true)
    (inbound : ∀ node tag, cl.owner ≠ .peer node tag) :
    answered .ok s (commandDone .ok (endClaim .released c s)) ∧ claimGone c s (commandDone .ok (endClaim .released c s)) ∧
      recorded .claimEnd c.val 0 s (commandDone .ok (endClaim .released c s)) ∧
      ((∀ node tag, cl.owner ≠ .peer node tag) →
        (commandDone .ok (endClaim .released c s)).peer = (releasePeers c s).peer ∧
        (commandDone .ok (endClaim .released c s)).ring = (finishOperation false .ok .none (releasePeers c s)).ring) ∧
      originTold true cl (finishOperation false .ok .none) s (commandDone .ok (endClaim .released c s)) ∧
      keepsBut [.ring, .slots, .claims, .peer, .intercom, .clips, .control, .reports, .counters] s
        (commandDone .ok (endClaim .released c s)) := by
  obtain ⟨answer, gone, made, releases, -, kept⟩ := claimEnd_ends .released addressed held (by decide) plain
  exact ⟨answer, gone, made, fun _ => releases here, fun node tag owner => absurd owner (inbound node tag), kept⟩

theorem peersAgree_dropDue (d : Due) (s : State) : PeersAgree s (dropDue d s) := ⟨rfl, rfl, rfl⟩

theorem act_holdTimeout {c : ClaimId} {cl : Claim} {s : State} (held : claimAt s c = some cl)
    (reached : holdReached cl = true) : timeOut c (dropDue (.holdTimeout c) s) =
      count .holdTimeouts (endClaim .timeout c (dropDue (.holdTimeout c) s)) := by
  rw [timeOut, show claimAt (dropDue (.holdTimeout c) s) c = some cl from held]
  exact if_pos reached

/-- Settles O31, clause by clause. -/
theorem claimEnds : Obligations.ClaimEnds := by
  refine ⟨fun c s => releasePeers_facts c s, fun t e s entry => freeEntry_facts entry, fun n s h => ⟨fun out => ?_,
    fun c at_c => ⟨fun free => ?_, fun cl ch held owner => ?_, fun cl held plain => ?_⟩⟩,
    fun reason c cl node tag s held owner => ⟨claimGone_endClaim held, ?_, fun j other => ?_, fun tells => ?_,
      fun notPreempted notLost notReset => ?_, fun reset => ?_, (endClaim_inbound_parts reason held owner).2⟩,
    fun c cl s due held reached => ?_⟩
  · exact ⟨_, exec_claimEnd_of_le h out, commandDone_refused rfl s⟩
  · subst at_c
    exact ⟨_, exec_claimEnd_of_free h free, commandDone_refused rfl s⟩
  · subst at_c
    exact ⟨_, exec_claimEnd_error h held (by rw [owner]; rfl), commandDone_refused rfl s⟩
  · subst at_c
    have released := claimEnd_releases (addressed_of_running h.2.1) held plain
    cases owner : cl.owner with
    | alarm ch => exact absurd owner (plain ch)
    | peer node tag =>
      obtain ⟨answer, gone, made, -, told, kept⟩ := claimEnd_ends .preempted (addressed_of_running h.2.1) held (by decide) plain
      exact ⟨_, exec_claimEnd h held (by rw [owner]; rfl), answer, gone, made, fun none => absurd rfl (none node tag), told, kept⟩
    | station st =>
      rw [owner] at released
      exact ⟨_, exec_claimEnd h held (by rw [owner]; rfl), released rfl (by simp)⟩
    | management =>
      rw [owner] at released
      exact ⟨_, exec_claimEnd h held (by rw [owner]; rfl), released rfl (by simp)⟩
  · rw [(endClaim_inbound_parts reason held owner).1]
    exact tget_modSlot_self _ _ _
  · rw [(endClaim_inbound_parts reason held owner).1]
    exact tget_modSlot_ne _ _ other.symm
  · have preempts : preemptingEnd reason = true := by rcases tells with rfl | rfl | rfl <;> rfl
    exact preempts ▸ originTold_endClaim held
  · have quiet : preemptingEnd reason = false := by
      cases reason with
      | preempted => exact absurd rfl notPreempted
      | sourceLost => exact absurd rfl notLost
      | reset => exact absurd rfl notReset
      | _ => rfl
    exact quiet ▸ originTold_endClaim held
  · subst reset
    exact endClaim_reset_reports held owner
  · have kept := endClaim_keeps .timeout c (dropDue (.holdTimeout c) s)
    have at_c : claimAt (dropDue (.holdTimeout c) s) c = some cl := held
    refine ⟨_, carriesOut_of_takeDue rfl due (act_holdTimeout held reached) (kept .boundary (by decide)),
      claimGone_endClaim at_c, recorded_endClaim (reason := .timeout) at_c (by decide), ?_, fun here => ?_, ?_⟩
    · exact (counterOf_count _ _).trans (congrArg _ (counterOf_of_countsBut
        (endClaim_countsBut .timeout c (dropDue (.holdTimeout c) s)) (by decide)))
    · have local_ : isLocal cl.owner = true := by rcases here with owner | ⟨st, owner⟩ <;> rw [owner] <;> rfl
      obtain ⟨peer, ring⟩ := endClaim_releases (reason := .timeout) at_c local_
      have agree := (peersAgree_dropDue (.holdTimeout c) s).releasePeers c
      exact ⟨peer.trans agree.peer, ring.trans agree.ring⟩
    · exact keepsBut_trans (keepsBut_mono (by simp) (dropDue_keeps _ s)) (keepsBut_trans (keepsBut_mono (by decide) kept)
        (keepsBut_mono (by simp) (count_keeps _ _)))

end Sys2Proof.Machine
end

section
namespace Sys2Proof.Machine

-- Declarations are elaborated one at a time: each thread's stack counts against the check's memory limit.
set_option Elab.async false

/-! ### Walks that write the lists of zones (R82, R88, R89) -/

/-- Each zone of a list has its claim list written, from the list as it stands. -/
def listsWritten (g : ZoneId → List ListEntry → List ListEntry) (zs : List ZoneId) (s : State) : State :=
  forEach zs (fun z t => listWritten z (g z (listOf t z)) t) s

section
variable (g : ZoneId → List ListEntry → List ListEntry) (zs : List ZoneId) (s : State)

theorem listsWritten_keeps : keepsBut [.claims, .reports, .counters] s (listsWritten g zs s) :=
  keepsBut_forEach (fun z t => listWritten_keeps z (g z (listOf t z)) t) zs s

theorem listsWritten_countsBut : countsBut reportCounts s (listsWritten g zs s) :=
  forEach_induct (countsBut reportCounts s) _ zs (fun z _ t h => countsBut_trans h (listWritten_countsBut z _ t)) s
    (countsBut_refl _ s)

theorem listsWritten_claims : (listsWritten g zs s).claims = { s.claims with
    lists := (listsWritten g zs s).claims.lists, reported := (listsWritten g zs s).claims.reported } := by
  unfold listsWritten
  induction zs generalizing s with
  | nil => rfl
  | cons z zs ih => rw [forEach_cons, ih, listWritten_claims]

/-- Each list of the walk is written once, and every other stays. -/
theorem listOf_listsWritten (once : zs.Nodup) (z : ZoneId) :
    listOf (listsWritten g zs s) z = if z ∈ zs then g z (listOf s z) else listOf s z := by
  obtain ⟨-, inside, outside⟩ := get_forEach_own (get := listOf) (f := fun z t => listWritten z (g z (listOf t z)) t)
    (I := fun _ => True) (s := s) (fun y u _ same => ⟨trivial, by
      simp only [listOf_listWritten, if_pos, same], fun x ne => by simp only [listOf_listWritten, if_neg ne]⟩)
    once (t := s) trivial (fun _ _ => rfl)
  split
  · next here => rw [listsWritten, inside z here, listOf_listWritten, if_pos rfl]
  · next there => exact outside z there

end

theorem nodup_zonesWhere (s : State) (c : ClaimId) (p : ListEntry → Bool) : (zonesWhere s c p).Nodup :=
  (List.nodup_finRange 24).filter _

theorem mem_zonesWhere_iff {s : State} {c : ClaimId} {p : ListEntry → Bool} {z : ZoneId} :
    z ∈ zonesWhere s c p ↔ ∃ e, entryIn (listOf s z) c = some e ∧ p e = true := by
  unfold zonesWhere
  rw [List.mem_filter]
  cases entryIn (listOf s z) c <;> simp [everyFin]

/-! ### The commit of a claim (R88, R89, R107, R109) -/

/-- A claim's entries in a list are LIVE (R88). -/
def lifted (c : ClaimId) (l : List ListEntry) : List ListEntry :=
  l.map fun e => if e.claim = c then { e with live := true } else e

/-- A claim's entries are no longer in a list. -/
def without (c : ClaimId) (l : List ListEntry) : List ListEntry := l.filter fun e => e.claim != c

theorem commitZones_eq (c : ClaimId) (zs : List ZoneId) (s : State) :
    forEach zs (commitZone c) s = listsWritten (fun _ => lifted c) zs s := rfl

theorem removeEntries_eq (c : ClaimId) (zs : List ZoneId) (s : State) :
    forEach zs (removeEntry false c) s = listsWritten (fun _ => without c) zs s := rfl

theorem lifted_of_entryIn_none {c : ClaimId} {l : List ListEntry} (h : entryIn l c = none) : lifted c l = l := by
  rw [entryIn_eq_none] at h
  exact (List.map_congr_left fun e he => if_neg (h e he)).trans (List.map_id' l)

/-- COMMIT goes to each peer of a claim that is RESERVED (R109). -/
theorem commitPeers_facts (c : ClaimId) (s : State) :
    (∀ t, entryAt (commitPeers c s) t = (entryAt s t).map fun e =>
      if e.claim = c ∧ e.state = .reserved then sentEntry s .commitSent e else e) ∧
    (commitPeers c s).peer = { s.peer with file := (commitPeers c s).peer.file } ∧
    (commitPeers c s).ring = (forEach (entriesOf s c (· == .reserved)) (entryFrame 2 s) s).ring ∧
    keepsBut [.ring, .peer, .counters] s (commitPeers c s) := by
  refine ⟨fun t => ?_, renewAll_peer 2 .commitSent _ s, ?_, renewAll_keeps 2 .commitSent _ s⟩
  · rw [commitPeers_eq, entryAt_renewEntries]
    have same : ∀ e : OutEntry, (e.claim = c ∧ e.state ≠ .releaseSent ∧ (e.state == .reserved) = true) ↔
        (e.claim = c ∧ e.state = .reserved) := fun e => by
      refine and_congr_right fun _ => ⟨fun h => beq_iff_eq.mp h.2, fun h => ⟨by rw [h]; decide, beq_iff_eq.mpr h⟩⟩
    simp only [same]
  · exact renewAll_ring 2 .commitSent (nodup_entriesOf s c _) (fun _ _ => rfl) rfl rfl

theorem commitPeers_period (c : ClaimId) (s : State) : (commitPeers c s).ring.period = s.ring.period :=
  forEach_induct (fun u => u.ring.period = s.ring.period) (renewOne 2 .commitSent) (entriesOf s c (· == .reserved))
    (fun t _ u h => (renewOne_period 2 .commitSent t u).trans h) s rfl

/-- A claim has committed in a state, its lists as given: it is LIVE, and its peers hear of it. Of the counters those of the
commit alone may change, and the others listed. -/
structure Committed (also : List Counter) (c : ClaimId) (cl : Claim) (l : ZoneId → List ListEntry) (s u : State) :
    Prop where
  claims : u.claims = { s.claims with
    table := tset s.claims.table c (some { cl with state := .live })
    lists := u.claims.lists
    reported := u.claims.reported }
  lists : ∀ z, listOf u z = l z
  peer : u.peer = (commitPeers c s).peer
  ring : u.ring = (commitPeers c s).ring
  done : counterOf u .commitsDone = saturatingSucc (counterOf s .commitsDone)
  counts : countsBut (also ++ .commitsDone :: (reportCounts ++ sendCounts)) s u
  keeps : keepsBut [.ring, .claims, .peer, .reports, .counters] s u
  alone : entriesOf s c (fun _ => true) = [] →
    countsBut (also ++ .commitsDone :: reportCounts) s u ∧ keepsBut [.claims, .reports, .counters] s u

section
variable {c : ClaimId} {cl : Claim} {l : ZoneId → List ListEntry} {s u : State} {also : List Counter}
  (h : Committed also c cl l s u)
include h

theorem Committed.claimAt (d : ClaimId) :
    claimAt u d = if c = d then some { cl with state := .live } else claimAt s d := by
  rw [Machine.claimAt, h.claims]
  exact tget_tset _ _ _ _

theorem Committed.own : Machine.claimAt u c = some { cl with state := .live } := by rw [h.claimAt, if_pos rfl]

theorem Committed.others (d : ClaimId) (ne : d ≠ c) : Machine.claimAt u d = Machine.claimAt s d := by
  rw [h.claimAt, if_neg ne.symm]

end

/-- A claim without a player commits from a state whose lists alone have changed. -/
theorem committed_commitDone {c : ClaimId} {cl : Claim} {s t : State} (held : claimAt s c = some cl)
    (player : playerOfSlot cl.slot = none)
    (claims : t.claims = { s.claims with lists := t.claims.lists, reported := t.claims.reported })
    (keeps : keepsBut [.claims, .reports, .counters] s t) (counts : countsBut reportCounts s t) :
    Committed [] c cl (listOf t) s (commitDone c cl t) := by
  generalize marked : modClaim c (fun x => { x with state := .live }) (count .commitsDone t) = m
  have done : commitDone c cl t = commitPeers c m := by rw [commitDone, startPlayback, player, marked]
  have marks : keepsBut [.claims, .counters] t m := by
    rw [← marked]
    exact keepsBut_trans (keepsBut_mono (by simp) (count_keeps _ t)) (keepsBut_mono (by simp) (keepsBut_modClaims _ _))
  have at_t : claimAt (count .commitsDone t) c = some cl := by
    rw [claimAt, count_keeps _ _ .claims (by decide), claims]
    exact held
  have table : m.claims = { s.claims with
      table := tset s.claims.table c (some { cl with state := .live })
      lists := t.claims.lists
      reported := t.claims.reported } := by
    rw [← marked, modClaim_of_held _ at_t, count_keeps _ _ .claims (by decide), claims]
  have both : keepsBut [.claims, .reports, .counters] s m := keepsBut_trans keeps (keepsBut_mono (by simp) marks)
  have agree : PeersAgree s m := peersAgree_of_keeps both (by decide) (by decide) (by decide)
  have same : (commitPeers c m).claims = m.claims := commitPeers_keeps c m .claims (by decide)
  have one : counterOf m .commitsDone = saturatingSucc (counterOf s .commitsDone) := by
    rw [← marked]
    exact (counterOf_count _ t).trans (congrArg _ (counterOf_of_countsBut counts (by decide)))
  have counted : countsBut (.commitsDone :: reportCounts) s m := by
    rw [← marked]
    exact countsBut_trans (countsBut_mono (by decide) counts) (count_countsBut (by simp) t)
  rw [done]
  refine ⟨by rw [same, table], fun z => by rw [listOf, same, table]; rfl, (agree.commitPeers c).peer,
    (agree.commitPeers c).ring, (counterOf_of_countsBut (commitPeers_countsBut c m) (by decide)).trans one,
    countsBut_trans (countsBut_mono (by decide) counted) (countsBut_mono (by decide) (commitPeers_countsBut c m)),
    keepsBut_trans (keepsBut_mono (by decide) both) (keepsBut_mono (by decide) (commitPeers_keeps c m)), fun alone => ?_⟩
  rw [commitPeers_none ((agree.entriesOf c _).trans alone)]
  exact ⟨counted, both⟩

/-- A policy ALL claim with an intact entry in every target zone and all its peers RESERVED commits (R88, R107). -/
theorem committed_all {c : ClaimId} {cl : Claim} {s : State} (held : claimAt s c = some cl)
    (player : playerOfSlot cl.slot = none) (intact : allIntact s c cl = true)
    (peers : (entriesOf s c (· == .reserved)).length = cl.handed) :
    Committed [] c cl (fun z => lifted c (listOf s z)) s (commitAll c cl s) := by
  have commits : commitAll c cl s = commitDone c cl (listsWritten (fun _ => lifted c) (zonesWhere s c fun _ => true) s) := by
    rw [commitAll, intact, peersReserved, peers, beq_self_eq_true, ← commitZones_eq]
    rfl
  have lists : listOf (listsWritten (fun _ => lifted c) (zonesWhere s c fun _ => true) s) =
      fun z => lifted c (listOf s z) := funext fun z => by
    rw [listOf_listsWritten _ _ _ (nodup_zonesWhere s c _)]
    split
    · rfl
    · next absent => rw [lifted_of_entryIn_none (not_not.mp (fun h => absent (mem_zonesWhere.mpr h)))]
  rw [commits, ← lists]
  exact committed_commitDone held player (listsWritten_claims _ _ s) (listsWritten_keeps _ _ s)
    (listsWritten_countsBut _ _ s)

/-- What a BEST commit leaves of a zone's list: the claim's entry LIVE where it is intact, and gone where it is not (R89). -/
def keptIntact (c : ClaimId) (l : List ListEntry) : List ListEntry :=
  match entryIn l c with
  | some e => if e.intact then lifted c l else without c l
  | none => l

/-- The state in which a BEST commit has written the lists (R89). -/
def bestLists (c : ClaimId) (s : State) : State :=
  listsWritten (fun _ => without c) (zonesWhere s c fun e => !e.intact)
    (listsWritten (fun _ => lifted c) (zonesWhere s c fun e => e.intact) s)

theorem listOf_bestLists (c : ClaimId) (s : State) (z : ZoneId) :
    listOf (bestLists c s) z = keptIntact c (listOf s z) := by
  rw [bestLists, listOf_listsWritten _ _ _ (nodup_zonesWhere s c _), listOf_listsWritten _ _ _ (nodup_zonesWhere s c _)]
  simp only [mem_zonesWhere_iff, keptIntact]
  cases entry : entryIn (listOf s z) c with
  | none => simp
  | some e => cases intact : e.intact <;> simp [intact]

/-- A policy BEST claim with an intact entry commits with its intact entries (R89). -/
theorem committed_best {c : ClaimId} {cl : Claim} {s : State} (held : claimAt s c = some cl)
    (player : playerOfSlot cl.slot = none) :
    Committed [] c cl (fun z => keptIntact c (listOf s z)) s (commitDone c cl (bestLists c s)) := by
  rw [← funext (listOf_bestLists c s)]
  have first := listsWritten_claims (fun _ => lifted c) (zonesWhere s c fun e => e.intact) s
  refine committed_commitDone held player ?_ (keepsBut_trans (listsWritten_keeps _ _ s) (listsWritten_keeps _ _ _))
    (countsBut_trans (listsWritten_countsBut _ _ s) (listsWritten_countsBut _ _ _))
  rw [bestLists, listsWritten_claims, first]

end Sys2Proof.Machine
end

section
namespace Sys2Proof.Machine

-- Declarations are elaborated one at a time: each thread's stack counts against the check's memory limit.
set_option Elab.async false

/-! ### The end of a chime (R87 to R90) -/

theorem act_chimeExpiry {c : ClaimId} {cl : Claim} {s : State} (held : claimAt s c = some cl)
    (chimes : chimesNow cl = true) (ended : cl.timer = 0) : expireChime c s = commitDue c s := by
  rw [expireChime, held]
  exact if_pos (by rw [chimes, ended]; rfl)

theorem commitDue_waits {c : ClaimId} {cl : Claim} {s : State} (held : claimAt s c = some cl) (policy : cl.policy = .all)
    (peers : entriesOf s c (· == .reserveSent) ≠ []) :
    commitDue c s = modClaim c (fun x => { x with waiting := true }) s := by
  rw [commitDue, held]
  exact if_pos ⟨policy, by simpa [List.isEmpty_eq_false_iff] using peers⟩

theorem commitDue_all {c : ClaimId} {cl : Claim} {s : State} (held : claimAt s c = some cl) (policy : cl.policy = .all)
    (peers : entriesOf s c (· == .reserveSent) = []) : commitDue c s = commitAll c cl s := by
  have tests : commitDue c s = commitTest c s := by
    rw [commitDue, held]
    exact if_neg fun h => by rw [peers] at h; exact absurd h.2 (by simp)
  rw [tests, commitTest, held]
  dsimp only
  rw [policy]

theorem commitDue_best {c : ClaimId} {cl : Claim} {s : State} (held : claimAt s c = some cl) (policy : cl.policy = .best) :
    commitDue c s = commitBest c cl s := by
  have tests : commitDue c s = commitTest c s := by
    rw [commitDue, held]
    exact if_neg fun h => by rw [policy] at h; exact absurd h.1 (by decide)
  rw [tests, commitTest, held]
  dsimp only
  rw [policy]

theorem commitAll_refused {c : ClaimId} {cl : Claim} {s : State}
    (fails : allIntact s c cl = false ∨ (entriesOf s c (· == .reserved)).length ≠ cl.handed) :
    commitAll c cl s = commitRefused c s := by
  refine if_neg ?_
  rw [Bool.and_eq_true, peersReserved, beq_iff_eq]
  rintro ⟨intact, peers⟩
  exact fails.elim (fun h => by rw [h] at intact; cases intact) (fun h => h peers)

theorem commitBest_refused {c : ClaimId} {cl : Claim} {s : State} (none : zonesWhere s c (fun e => e.intact) = []) :
    commitBest c cl s = commitRefused c s := if_pos (by rw [none]; rfl)

/-- A BEST commit that is not partial, and one that is (R89). -/
theorem commitBest_whole {c : ClaimId} {cl : Claim} {s : State} (some_intact : zonesWhere s c (fun e => e.intact) ≠ [])
    (whole : isPartial s c cl = false) : commitBest c cl s = commitDone c cl (bestLists c s) := by
  rw [commitBest, if_neg (by simpa [List.isEmpty_iff] using some_intact), whole, bestLists, ← commitZones_eq, ← removeEntries_eq]
  rfl

theorem commitBest_partial {c : ClaimId} {cl : Claim} {s : State} (some_intact : zonesWhere s c (fun e => e.intact) ≠ [])
    (owner : cl.owner = .management) (part : isPartial s c cl = true) :
    commitBest c cl s = count .commitsPartial (reportPartial c (commitDone c cl (bestLists c s))) := by
  rw [commitBest, if_neg (by simpa [List.isEmpty_iff] using some_intact), part]
  dsimp only
  rw [if_pos rfl, tellPartial, owner]
  rfl

/-- The end of a management claim of no player leaves the slots and the stations as they are. -/
theorem endClaim_management_keeps {c : ClaimId} {cl : Claim} {s : State} (reason : EndReason)
    (held : claimAt s c = some cl) (owner : cl.owner = .management) (player : playerOfSlot cl.slot = none) :
    keepsBut [.ring, .claims, .peer, .reports, .counters] s (endClaim reason c s) := by
  have slot : releaseSlot c cl reason (unlistedBy (reason == .reset) c s) = unlistedBy (reason == .reset) c s := by
    rw [releaseSlot, owner]
    dsimp only
    rw [player]
  have vacates : keepsBut [.claims, .reports, .counters] s (vacated reason c cl s) := by
    rw [vacated, slot]
    exact keepsBut_trans (unlistedBy_keeps _ c s) (keepsBut_mono (by simp) (keepsBut_modClaims _ _))
  rw [endClaim_of_held reason held, tellOwner, owner]
  exact keepsBut_trans (keepsBut_mono (by simp) vacates) (keepsBut_trans
    (keepsBut_mono (by simp) (releasePeers_keeps c _)) (keepsBut_mono (by simp) (reportUnless_keeps _ _ _ _ _)))

/-- A management claim without entries sends nothing at its end. -/
theorem endClaim_management_alone {c : ClaimId} {cl : Claim} {s : State} (reason : EndReason)
    (held : claimAt s c = some cl) (owner : cl.owner = .management) (alone : entriesOf s c (fun _ => true) = []) :
    countsBut reportCounts s (endClaim reason c s) ∧ (endClaim reason c s).ring = s.ring := by
  have agree := peersAgree_vacated reason c cl s
  have quiet : releasePeers c (vacated reason c cl s) = clearHold c (vacated reason c cl s) :=
    releasePeers_none ((agree.entriesOf c _).trans alone)
  rw [endClaim_of_held reason held, tellOwner, owner]
  dsimp only
  rw [quiet]
  exact ⟨countsBut_trans (vacated_countsBut reason c cl s) (reportUnless_countsBut _ _ _ _ (clearHold c _)),
    (reportUnless_keeps _ _ _ _ _ .ring (by decide)).trans agree.ring⟩

/-- A management claim's commit test has failed: the claim has ended REFUSED (R88, R89). -/
theorem commitRefused_facts {c : ClaimId} {cl : Claim} {s : State} (held : claimAt s c = some cl)
    (owner : cl.owner = .management) (player : playerOfSlot cl.slot = none) :
    claimGone c s (commitRefused c s) ∧
      (s.control.mode ≠ .unaddressed → recorded .claimEnd c.val 3 s (commitRefused c s)) ∧
      (commitRefused c s).peer = (releasePeers c s).peer ∧ (commitRefused c s).ring = (releasePeers c s).ring ∧
      counterOf (commitRefused c s) .commitsRefused = saturatingSucc (counterOf s .commitsRefused) ∧
      keepsBut [.ring, .claims, .peer, .reports, .counters] s (commitRefused c s) := by
  obtain ⟨peer, ring⟩ := endClaim_releases (reason := .refused) held (by rw [owner]; rfl)
  exact ⟨claimGone_endClaim (reason := .refused) held, recorded_endClaim (reason := .refused) held (by decide), peer, ring,
    (counterOf_count _ _).trans (congrArg _ (counterOf_of_countsBut (endClaim_countsBut .refused c s) (by decide))),
    keepsBut_trans (endClaim_management_keeps .refused held owner player) (keepsBut_mono (by simp) (count_keeps _ _))⟩

theorem commitRefused_alone {c : ClaimId} {cl : Claim} {s : State} (held : claimAt s c = some cl)
    (owner : cl.owner = .management) (player : playerOfSlot cl.slot = none)
    (alone : entriesOf s c (fun _ => true) = []) :
    countsBut [.commitsRefused, .reportsCoalesced, .reportsDropped] s (commitRefused c s) ∧
      keepsBut [.claims, .peer, .reports, .counters] s (commitRefused c s) := by
  obtain ⟨counts, ring⟩ := endClaim_management_alone .refused held owner alone
  obtain ⟨-, -, -, -, -, keeps⟩ := commitRefused_facts held owner player
  exact ⟨countsBut_trans (countsBut_mono (by decide) counts) (count_countsBut (by simp) (endClaim .refused c s)),
    keepsBut_of_agree keeps ring⟩

theorem liveEntries_congr {s t : State} (h : t.claims = s.claims) (c : ClaimId) : liveEntries t c = liveEntries s c := by
  simp only [liveEntries, zonesWhere, listOf, h]

theorem Committed.period {also : List Counter} {c : ClaimId} {cl : Claim} {l : ZoneId → List ListEntry} {s u : State}
    (h : Committed also c cl l s u) : u.ring.period = s.ring.period := by rw [h.ring, commitPeers_period]

/-- A commit told partial is a commit, with a report and a count besides (R89). -/
theorem Committed.partly {c : ClaimId} {cl : Claim} {l : ZoneId → List ListEntry} {s u : State}
    (h : Committed [] c cl l s u) : Committed [.commitsPartial] c cl l s (count .commitsPartial (reportPartial c u)) := by
  have tells : keepsBut [.reports, .counters] u (count .commitsPartial (reportPartial c u)) :=
    keepsBut_trans (report_keeps _ _ _ u) (keepsBut_mono (by simp) (count_keeps _ _))
  have counts : countsBut (.commitsPartial :: reportCounts) u (count .commitsPartial (reportPartial c u)) :=
    countsBut_trans (countsBut_mono (by decide) (report_countsBut _ _ _ u)) (count_countsBut (by simp) (reportPartial c u))
  have claims : (count .commitsPartial (reportPartial c u)).claims = u.claims := tells .claims (by decide)
  refine ⟨by rw [claims]; exact h.claims, fun z => by rw [listOf, claims]; exact h.lists z,
    (tells .peer (by decide)).trans h.peer, (tells .ring (by decide)).trans h.ring,
    (counterOf_of_countsBut counts (by decide)).trans h.done,
    countsBut_trans (countsBut_mono (by decide) h.counts) (countsBut_mono (by decide) counts),
    keepsBut_trans h.keeps (keepsBut_mono (by decide) tells), fun alone => ?_⟩
  obtain ⟨only, kept⟩ := h.alone alone
  exact ⟨countsBut_trans (countsBut_mono (by decide) only) (countsBut_mono (by decide) counts),
    keepsBut_trans kept (keepsBut_mono (by decide) tells)⟩

theorem Committed.reported {c : ClaimId} {cl : Claim} {l : ZoneId → List ListEntry} {s u : State}
    (h : Committed [] c cl l s u) :
    counterOf (count .commitsPartial (reportPartial c u)) .commitsPartial = saturatingSucc (counterOf s .commitsPartial) ∧
      (s.control.mode ≠ .unaddressed → recorded .claimPartial c.val
        (liveEntries (count .commitsPartial (reportPartial c u)) c) s (count .commitsPartial (reportPartial c u))) := by
  have told := report_keeps .claimPartial c.val (liveEntries u c) u
  refine ⟨(counterOf_count _ _).trans (congrArg _ ((counterOf_of_countsBut (report_countsBut _ _ _ u) (by decide)).trans
    (counterOf_of_countsBut h.counts (by decide)))), fun addressed => ?_⟩
  have claims : (count .commitsPartial (reportPartial c u)).claims = u.claims := told .claims (by decide)
  have made := recorded_report .claimPartial c.val (liveEntries u c) (s := u)
    (by rw [h.keeps .control (by decide)]; exact addressed)
  rw [recorded, h.period] at made
  rw [liveEntries_congr claims]
  exact made

/-- When a BEST commit is partial (R89). -/
theorem isPartial_iff {s : State} {c : ClaimId} {cl : Claim} : isPartial s c cl = true ↔
    (∃ z e, entryIn (listOf s z) c = some e ∧ e.intact = false) ∨ 0 < cl.lost ∨ cl.noPeers = true ∨
      (entriesOf s c (fun _ => true)).length < cl.handed := by
  have gone : ((zonesWhere s c fun e => !e.intact).isEmpty = false) ↔
      ∃ z e, entryIn (listOf s z) c = some e ∧ e.intact = false := by
    rw [List.isEmpty_eq_false_iff_exists_mem]
    exact exists_congr fun z => by rw [mem_zonesWhere_iff]; simp
  rw [← gone, isPartial]
  simp [peerFailed, or_assoc]

/-- The commit of a policy BEST claim of management with an intact entry (R89). -/
theorem commitBest_facts {c : ClaimId} {cl : Claim} {s : State} (held : claimAt s c = some cl)
    (owner : cl.owner = .management) (player : playerOfSlot cl.slot = none)
    (intact : ∃ z e, entryIn (listOf s z) c = some e ∧ e.intact = true) :
    Committed [.commitsPartial] c cl (fun z => keptIntact c (listOf s z)) s (commitBest c cl s) ∧
      (isPartial s c cl = true →
        counterOf (commitBest c cl s) .commitsPartial = saturatingSucc (counterOf s .commitsPartial) ∧
        (s.control.mode ≠ .unaddressed →
          recorded .claimPartial c.val (liveEntries (commitBest c cl s) c) s (commitBest c cl s))) ∧
      (isPartial s c cl = false → Committed [] c cl (fun z => keptIntact c (listOf s z)) s (commitBest c cl s)) := by
  have some_intact : zonesWhere s c (fun e => e.intact) ≠ [] := by
    obtain ⟨z, e, entry, yes⟩ := intact
    exact List.ne_nil_of_mem (mem_zonesWhere_iff.mpr ⟨e, entry, yes⟩)
  have commits := committed_best (cl := cl) held player
  cases part : isPartial s c cl with
  | true =>
    rw [commitBest_partial some_intact owner part]
    exact ⟨commits.partly, fun _ => commits.reported, fun no => absurd no (by decide)⟩
  | false =>
    rw [commitBest_whole some_intact part]
    refine ⟨⟨commits.claims, commits.lists, commits.peer, commits.ring, commits.done,
      countsBut_mono (by decide) commits.counts, commits.keeps, fun alone => ?_⟩, fun no => absurd no (by decide),
      fun _ => commits⟩
    exact ⟨countsBut_mono (by decide) (commits.alone alone).1, (commits.alone alone).2⟩

/-- The chime of a claim ends at a boundary: its commit falls due. -/
theorem carriesOut_chimeExpiry {c : ClaimId} {cl : Claim} {s u : State} (due : isDue (.chimeExpiry c) s)
    (held : claimAt s c = some cl) (chimes : chimesNow cl = true) (ended : cl.timer = 0)
    (does : commitDue c (dropDue (.chimeExpiry c) s) = u) (kept : u.boundary = (dropDue (.chimeExpiry c) s).boundary) :
    carriesOut (.chimeExpiry c) (.chimeExpiry c) s u :=
  carriesOut_of_takeDue rfl due
    ((act_chimeExpiry (s := dropDue (.chimeExpiry c) s) held chimes ended).trans does) kept

theorem keptIntact_of_none {c : ClaimId} {l : List ListEntry} (h : entryIn l c = none) : keptIntact c l = l := by
  rw [keptIntact, h]

theorem keptIntact_of_intact {c : ClaimId} {l : List ListEntry} {e : ListEntry} (h : entryIn l c = some e)
    (intact : e.intact = true) : keptIntact c l = lifted c l := by
  rw [keptIntact, h]
  exact if_pos intact

theorem keptIntact_of_lost {c : ClaimId} {l : List ListEntry} {e : ListEntry} (h : entryIn l c = some e)
    (lost : e.intact = false) : keptIntact c l = l.filter fun x => x.claim ≠ c := by
  rw [keptIntact, h]
  exact (if_neg (by simp [lost])).trans (List.filter_congr fun e _ => Bool.eq_iff_iff.mpr (by simp))

section
variable {c : ClaimId} {cl : Claim} {s : State} (due : isDue (.chimeExpiry c) s) (held : claimAt s c = some cl)
  (chimes : chimesNow cl = true) (ended : cl.timer = 0) (owner : cl.owner = .management)
  (player : playerOfSlot cl.slot = none)
include due held chimes ended owner player

omit owner in
/-- A policy ALL claim commits at its chime's end. -/
theorem chimeExpiry_all (policy : cl.policy = .all) (peers : entriesOf s c (· == .reserveSent) = [])
    (intact : allIntact s c cl = true) (reserved : (entriesOf s c (· == .reserved)).length = cl.handed) :
    ∃ u, carriesOut (.chimeExpiry c) (.chimeExpiry c) s u ∧
      Committed [] c cl (fun z => lifted c (listOf s z)) (dropDue (.chimeExpiry c) s) u :=
  have commits := committed_all (s := dropDue (.chimeExpiry c) s) held player intact reserved
  ⟨_, carriesOut_chimeExpiry due held chimes ended (commitDue_all (s := dropDue (.chimeExpiry c) s) held policy peers)
    (commits.keeps .boundary (by decide)), commits⟩

/-- A policy BEST claim with an intact entry commits at its chime's end. -/
theorem chimeExpiry_best (policy : cl.policy = .best) (intact : ∃ z e, entryIn (listOf s z) c = some e ∧ e.intact = true) :
    ∃ u, carriesOut (.chimeExpiry c) (.chimeExpiry c) s u ∧
      Committed [.commitsPartial] c cl (fun z => keptIntact c (listOf s z)) (dropDue (.chimeExpiry c) s) u ∧
      (isPartial s c cl = true → counterOf u .commitsPartial = saturatingSucc (counterOf s .commitsPartial) ∧
        (s.control.mode ≠ .unaddressed → recorded .claimPartial c.val (liveEntries u c) s u)) ∧
      (isPartial s c cl = false →
        Committed [] c cl (fun z => keptIntact c (listOf s z)) (dropDue (.chimeExpiry c) s) u) :=
  have facts := commitBest_facts (s := dropDue (.chimeExpiry c) s) held owner player intact
  ⟨_, carriesOut_chimeExpiry due held chimes ended (commitDue_best (s := dropDue (.chimeExpiry c) s) held policy)
    (facts.1.keeps .boundary (by decide)), facts⟩

/-- A commit test that fails ends the claim at its chime's end. -/
theorem chimeExpiry_refused
    (fails : commitDue c (dropDue (.chimeExpiry c) s) = commitRefused c (dropDue (.chimeExpiry c) s)) :
    ∃ u, carriesOut (.chimeExpiry c) (.chimeExpiry c) s u ∧ claimGone c s u ∧
      (s.control.mode ≠ .unaddressed → recorded .claimEnd c.val 3 s u) ∧
      u.peer = (releasePeers c s).peer ∧ u.ring = (releasePeers c s).ring ∧
      counterOf u .commitsRefused = saturatingSucc (counterOf s .commitsRefused) ∧
      keepsBut [.ring, .claims, .peer, .reports, .counters, .boundary] s u ∧
      (entriesOf s c (fun _ => true) = [] → countsBut [.commitsRefused, .reportsCoalesced, .reportsDropped] s u ∧
        keepsBut [.claims, .peer, .reports, .counters, .boundary] s u) := by
  have agree := (peersAgree_dropDue (.chimeExpiry c) s).releasePeers c
  have dropped := dropDue_keeps (.chimeExpiry c) s
  obtain ⟨gone, made, peer, ring, counted, keeps⟩ :=
    commitRefused_facts (s := dropDue (.chimeExpiry c) s) held owner player
  refine ⟨_, carriesOut_chimeExpiry due held chimes ended fails (keeps .boundary (by decide)), gone, made,
    peer.trans agree.peer, ring.trans agree.ring, counted,
    keepsBut_trans (keepsBut_mono (by decide) dropped) (keepsBut_mono (by decide) keeps), fun alone => ?_⟩
  obtain ⟨counts, kept⟩ := commitRefused_alone (s := dropDue (.chimeExpiry c) s) held owner player alone
  exact ⟨counts, keepsBut_trans (keepsBut_mono (by decide) dropped) (keepsBut_mono (by decide) kept)⟩

end

/-- What a commit at a boundary leaves, seen from the state before it. -/
theorem Committed.before {also : List Counter} {d : Due} {c : ClaimId} {cl : Claim} {l : ZoneId → List ListEntry}
    {s u : State} (h : Committed also c cl l (dropDue d s) u) :
    u.peer = (commitPeers c s).peer ∧ u.ring = (commitPeers c s).ring ∧
      keepsBut [.ring, .claims, .peer, .reports, .counters, .boundary] s u ∧
      (entriesOf s c (fun _ => true) = [] → countsBut (also ++ .commitsDone :: reportCounts) s u ∧
        keepsBut [.claims, .reports, .counters, .boundary] s u) := by
  have agree := (peersAgree_dropDue d s).commitPeers c
  have dropped := dropDue_keeps d s
  refine ⟨h.peer.trans agree.peer, h.ring.trans agree.ring,
    keepsBut_trans (keepsBut_mono (by decide) dropped) (keepsBut_mono (by decide) h.keeps), fun alone => ?_⟩
  obtain ⟨counts, kept⟩ := h.alone alone
  exact ⟨counts, keepsBut_trans (keepsBut_mono (by decide) dropped) (keepsBut_mono (by decide) kept)⟩

theorem isPartial_eq_false {s : State} {c : ClaimId} {cl : Claim}
    (h : ¬((∃ z e, entryIn (listOf s z) c = some e ∧ e.intact = false) ∨ 0 < cl.lost ∨ cl.noPeers = true ∨
      (entriesOf s c (fun _ => true)).length < cl.handed)) : isPartial s c cl = false :=
  Bool.eq_false_iff.mpr fun part => h (isPartial_iff.mp part)

theorem entriesOf_of_alone {s : State} {c : ClaimId} (alone : entriesOf s c (fun _ => true) = []) (p : OutState → Bool) :
    entriesOf s c p = [] := List.eq_nil_iff_forall_not_mem.mpr fun t ht => by
  obtain ⟨e, at_t, own, other, -⟩ := mem_entriesOf.mp ht
  have : t ∈ entriesOf s c fun _ => true := mem_entriesOf.mpr ⟨e, at_t, own, other, rfl⟩
  simp [alone] at this

/-- Settles O30: the COMMIT frames, the commit test of a claim with peers, and that of one without. -/
theorem chimeExpires : Obligations.ChimeExpires := by
  refine ⟨fun c s => commitPeers_facts c s, fun c cl s due held chimes ended owner player =>
    ⟨fun policy peers => ⟨fun intact reserved => ?_, fun failed => ?_⟩, fun policy intact => ?_⟩,
    fun c cl s due held chimes ended owner player => ⟨fun policy peers => ?_, fun policy alone handed =>
      ⟨fun intact => ?_, fun lost => ?_⟩, fun policy alone => ⟨fun intact => ?_, fun lost => ?_⟩⟩⟩
  · obtain ⟨u, carried, h⟩ := chimeExpiry_all due held chimes ended player policy peers intact reserved
    obtain ⟨peer, ring, keeps, -⟩ := h.before
    exact ⟨u, carried, h.own, h.others, h.lists, peer, ring, h.done, keeps⟩
  · obtain ⟨u, carried, gone, made, peer, ring, counted, keeps, -⟩ := chimeExpiry_refused due held chimes ended owner player
      ((commitDue_all (s := dropDue (.chimeExpiry c) s) held policy peers).trans (commitAll_refused (.inr failed)))
    exact ⟨u, carried, gone, made, peer, ring, counted, keeps⟩
  · obtain ⟨u, carried, h, part, whole⟩ := chimeExpiry_best due held chimes ended owner player policy intact
    obtain ⟨peer, ring, keeps, -⟩ := h.before
    refine ⟨u, carried, h.own, h.others, fun z none => (h.lists z).trans (keptIntact_of_none none),
      fun z e entry yes => (h.lists z).trans (keptIntact_of_intact entry yes),
      fun z e entry no => (h.lists z).trans (keptIntact_of_lost entry no), peer, ring, h.done,
      fun partly => part (isPartial_iff.mpr partly), fun all none_lost no_peers all_left => ?_, keeps⟩
    have not_part : isPartial s c cl = false := isPartial_eq_false fun partly => by
      rcases partly with ⟨z, e, entry, no⟩ | lost | left | failed
      · rw [all z e entry] at no; cases no
      · omega
      · rw [no_peers] at left; cases left
      · omega
    exact counterOf_of_countsBut (whole not_part).counts (by decide)
  · have waits := commitDue_waits (s := dropDue (.chimeExpiry c) s) held policy peers
    have written := modClaim_of_held (s := dropDue (.chimeExpiry c) s) (fun x => { x with waiting := true }) held
    refine ⟨_, carriesOut_chimeExpiry due held chimes ended waits rfl, ?_, fun d ne => ?_, ?_, ?_⟩
    · rw [claimAt, written]; exact tget_tset_self _ _ _
    · rw [claimAt, written]; exact tget_tset_ne _ _ ne.symm
    · rw [written]; rfl
    · exact keepsBut_trans (keepsBut_mono (by decide) (dropDue_keeps _ s)) (keepsBut_mono (by decide) (keepsBut_modClaims _ _))
  · obtain ⟨u, carried, h⟩ := chimeExpiry_all due held chimes ended player policy (entriesOf_of_alone alone _) intact
      (by rw [entriesOf_of_alone alone, handed]; rfl)
    obtain ⟨-, -, -, quiet⟩ := h.before
    exact ⟨u, carried, h.own, h.others, h.lists, h.done, quiet alone⟩
  · obtain ⟨u, carried, gone, made, -, -, counted, -, quiet⟩ := chimeExpiry_refused due held chimes ended owner player
      ((commitDue_all (s := dropDue (.chimeExpiry c) s) held policy (entriesOf_of_alone alone (· == .reserveSent))).trans
        (commitAll_refused (.inl lost)))
    exact ⟨u, carried, gone, made, counted, quiet alone⟩
  · obtain ⟨u, carried, h, part, whole⟩ := chimeExpiry_best due held chimes ended owner player policy intact
    obtain ⟨-, -, -, quiet⟩ := h.before
    have failed : (entriesOf s c (fun _ => true)).length < cl.handed ↔ 0 < cl.handed := by rw [alone]; rfl
    refine ⟨u, carried, h.own, h.others, fun z none => (h.lists z).trans (keptIntact_of_none none),
      fun z e entry yes => (h.lists z).trans (keptIntact_of_intact entry yes),
      fun z e entry no => (h.lists z).trans (keptIntact_of_lost entry no), h.done,
      fun partly => part (isPartial_iff.mpr (by rwa [failed])), fun not_partly => ?_,
      countsBut_mono (by decide) (quiet alone).1, (quiet alone).2⟩
    obtain ⟨-, -, -, only⟩ := (whole (isPartial_eq_false (by rwa [failed]))).before
    exact (only alone).1
  · have none_intact : zonesWhere s c (fun e => e.intact) = [] := List.eq_nil_iff_forall_not_mem.mpr fun z hz => by
      obtain ⟨e, entry, yes⟩ := mem_zonesWhere_iff.mp hz
      rw [lost z e entry] at yes
      cases yes
    obtain ⟨u, carried, gone, made, -, -, counted, -, quiet⟩ := chimeExpiry_refused due held chimes ended owner player
      ((commitDue_best (s := dropDue (.chimeExpiry c) s) held policy).trans (commitBest_refused none_intact))
    exact ⟨u, carried, gone, made, counted, quiet alone⟩

end Sys2Proof.Machine
end

section
namespace Sys2Proof.Machine

-- Declarations are elaborated one at a time: each thread's stack counts against the check's memory limit.
set_option Elab.async false

/-! ### The creation of a claim and its entries (R80 to R84, R90) -/

theorem mem_zonesOf_iff {zs : ZoneSet} {z : ZoneId} : z ∈ zonesOf zs ↔ tget zs z = true := by
  rw [zonesOf, List.mem_filter]
  exact and_iff_right (List.mem_finRange z)

theorem isNoZones_iff {zs : ZoneSet} : isNoZones zs = true ↔ ∀ z, tget zs z = false := by
  rw [isNoZones, List.isEmpty_iff, List.eq_nil_iff_forall_not_mem]
  exact forall_congr' fun z => by rw [mem_zonesOf_iff, Bool.not_eq_true]

/-- An insertion looks at the claims of the list and the rank of its own alone. -/
theorem inserted_congr {T U : Vector (Option Claim) 48} {c : ClaimId} {cl cm : Claim} {live : Bool} {l : List ListEntry}
    (rank : ∀ x, outranks cl x = outranks cm x) (same : ∀ e ∈ l, tget T e.claim = tget U e.claim) :
    inserted T c cl live l = inserted U c cm live l := by
  have put : ∀ m : List ListEntry, (∀ e ∈ m, tget T e.claim = tget U e.claim) →
      insertIn T cl ⟨c, live, false⟩ m = insertIn U cm ⟨c, live, false⟩ m := fun m => by
    induction m with
    | nil => exact fun _ => rfl
    | cons e es ih =>
      intro agree
      obtain ⟨first, rest⟩ := List.forall_mem_cons.mp agree
      simp only [insertIn, first, ih rest, rank]
  have first : takesFirst T cl l = takesFirst U cm l := by
    cases l with
    | nil => rfl
    | cons e es => simp only [takesFirst, onAirIn, same e List.mem_cons_self, rank]
  rw [inserted, inserted, first, put l same]

/-- A claim enters lists that have room, one after another. -/
theorem insertEntries_eq {c : ClaimId} {cl : Claim} (live : Bool) {zs : List ZoneId} {s : State} (once : zs.Nodup)
    (own : claimAt s c = some cl) (room : ∀ z ∈ zs, (listOf s z).length < 4) :
    forEach zs (insertEntry c live) s = listsWritten (fun _ => inserted s.claims.table c cl live) zs s := by
  unfold listsWritten
  suffices walk : ∀ t : State, t.claims.table = s.claims.table → (∀ z ∈ zs, (listOf t z).length < 4) →
      forEach zs (insertEntry c live) t =
        forEach zs (fun z t => listWritten z (inserted s.claims.table c cl live (listOf t z)) t) t from walk s rfl room
  clear room
  induction zs with
  | nil => exact fun _ _ _ => rfl
  | cons z zs ih =>
    intro t table room
    obtain ⟨new, once⟩ := List.nodup_cons.mp once
    obtain ⟨here, rest⟩ := List.forall_mem_cons.mp room
    have at_t : claimAt t c = some cl := by rw [claimAt, table]; exact own
    rw [forEach_cons, forEach_cons, insertEntry_room live at_t here, table]
    refine ih once _ (by rw [listWritten_claims]; exact table) fun y hy => ?_
    have other : z ≠ y := fun same => new (same ▸ hy)
    rw [listOf_listWritten, if_neg other]
    exact rest y hy

/-- The owner's part of a creation neither reads nor writes the claims and the counters. -/
theorem tellCreated_update (c : ClaimId) (cl : Claim) (s : State) (x : Claims) (y : Vector Word32 551) :
    tellCreated c cl { s with claims := x, counters := y } =
      { tellCreated c cl s with claims := x, counters := y } := by
  cases owner : cl.owner with
  | management =>
    simp only [tellCreated, owner]
    cases playerOfSlot cl.slot <;> rfl
  | station st => simp only [tellCreated, owner]; rfl
  | alarm ch => simp only [tellCreated, owner]; rfl
  | peer node tag => simp only [tellCreated, owner]

theorem keepsBut_update (s : State) (x : Claims) (y : Vector Word32 551) :
    keepsBut [.claims, .counters] s { s with claims := x, counters := y } := fun p other => by
  cases p with
  | claims => simp at other
  | counters => simp at other
  | _ => rfl

/-- Of a created claim the owner's part and the claim unit's are written apart. -/
theorem createClaim_keeps (c : ClaimId) (cl : Claim) (s : State) :
    keepsBut [.claims, .counters] (tellCreated c cl s) (createClaim c cl s) := by
  have told : keepsBut [.claims, .counters] (tellCreated c cl s)
      (tellCreated c cl (count .claimsStarted (modClaims (fun x => { x with table := tset x.table c (some cl) }) s))) := by
    obtain ⟨x, y, made⟩ : ∃ x y, count .claimsStarted (modClaims (fun x => { x with table := tset x.table c (some cl) }) s) =
        { s with claims := x, counters := y } := ⟨_, _, rfl⟩
    rw [made, tellCreated_update c cl s x y]
    exact keepsBut_update _ x y
  unfold createClaim
  exact keepsBut_ite (keepsBut_trans told (keepsBut_mono (l := [.claims]) (by simp) (keepsBut_modClaims _ _))) told

theorem createClaim_counters (c : ClaimId) (cl : Claim) (s : State) :
    (createClaim c cl s).counters = (count .claimsStarted s).counters := by
  have told : (tellCreated c cl (count .claimsStarted
      (modClaims (fun x => { x with table := tset x.table c (some cl) }) s))).counters = (count .claimsStarted s).counters :=
    tellCreated_keeps c cl _ .counters (by decide)
  unfold createClaim
  dsimp only
  split
  · exact told
  · exact told

/-- A claim has been created and has entered the lists of its target. -/
structure Entered (c : ClaimId) (cl : Claim) (live : Bool) (s t : State) : Prop where
  claims : t.claims = { s.claims with
    table := tset s.claims.table c (some cl)
    lists := t.claims.lists
    chimeGen := if cl.chime ∧ 0 < cl.timer then ⟨if isNote s.claims.chimeTable 0 then some (0, 0) else none, 0⟩
      else s.claims.chimeGen
    reported := t.claims.reported }
  lists : ∀ z, listOf t z =
    if tget cl.target z = true then inserted s.claims.table c cl live (listOf s z) else listOf s z
  started : counterOf t .claimsStarted = saturatingSucc (counterOf s .claimsStarted)
  counts : countsBut (.claimsStarted :: reportCounts) s t
  keeps : keepsBut [.claims, .reports, .counters] (tellCreated c cl s) t

theorem claimAt_createClaim (c d : ClaimId) (cl : Claim) (s : State) :
    claimAt (createClaim c cl s) d = if c = d then some cl else claimAt s d := by
  rw [claimAt, createClaim_claims]
  exact tget_tset _ _ _ _

theorem listOf_createClaim (c : ClaimId) (cl : Claim) (s : State) (z : ZoneId) :
    listOf (createClaim c cl s) z = listOf s z := by
  rw [listOf, createClaim_claims]
  rfl

/-- A claim created in a free place enters lists that have room. -/
theorem entered_of_room {c : ClaimId} {cl : Claim} (live : Bool) {s : State} (held : entriesHeld s)
    (free : claimAt s c = none) (room : ∀ z, tget cl.target z = true → (listOf s z).length < 4) :
    Entered c cl live s (forEach (zonesOf cl.target) (insertEntry c live) (createClaim c cl s)) := by
  have own : claimAt (createClaim c cl s) c = some cl := by rw [claimAt_createClaim, if_pos rfl]
  rw [insertEntries_eq live (zonesOf_nodup _) own
    fun z hz => by rw [listOf_createClaim]; exact room z (mem_zonesOf_iff.mp hz)]
  have made := createClaim_claims c cl s
  have written := listsWritten_countsBut (fun _ => inserted (createClaim c cl s).claims.table c cl live)
    (zonesOf cl.target) (createClaim c cl s)
  have counts : countsBut [.claimsStarted] s (createClaim c cl s) := fun r other => by
    rw [createClaim_counters]
    exact count_countsBut (by simp) s r other
  refine ⟨by rw [listsWritten_claims, made], fun z => ?_, ?_, countsBut_trans (countsBut_mono (by decide) counts)
    (countsBut_mono (by decide) written), keepsBut_trans (keepsBut_mono (by simp) (createClaim_keeps c cl s))
      (listsWritten_keeps _ _ _)⟩
  · rw [listOf_listsWritten _ _ _ (zonesOf_nodup _), listOf_createClaim]
    simp only [mem_zonesOf_iff]
    split
    · refine inserted_congr (fun _ => rfl) fun e he => ?_
      have other : c ≠ e.claim := fun same => by
        have := held z e he
        rw [← same, free] at this
        cases this
      rw [made]
      exact tget_tset_ne _ _ other
    · rfl
  · refine (counterOf_of_countsBut written (by decide)).trans ?_
    rw [counterOf, createClaim_counters]
    exact counterOf_count .claimsStarted s

section
variable {c : ClaimId} {cl : Claim} {live : Bool} {s t : State} (h : Entered c cl live s t)
include h

theorem Entered.claimAt (d : ClaimId) : claimAt t d = if c = d then some cl else claimAt s d := by
  rw [Machine.claimAt, h.claims]
  exact tget_tset _ _ _ _

theorem Entered.own : Machine.claimAt t c = some cl := by rw [h.claimAt, if_pos rfl]

theorem Entered.others (d : ClaimId) (ne : d ≠ c) : Machine.claimAt t d = Machine.claimAt s d := by
  rw [h.claimAt, if_neg ne.symm]

theorem Entered.queue : t.claims.queue = s.claims.queue := by rw [h.claims]

/-- Into an empty list the claim enters alone, intact. -/
theorem Entered.lists_of_empty (empty : ∀ z, tget cl.target z = true → listOf s z = []) (z : ZoneId) :
    listOf t z = if tget cl.target z = true then [⟨c, live, true⟩] else listOf s z := by
  rw [h.lists]
  split
  · next target => rw [empty z target]; rfl
  · rfl

/-- The claim has an entry in each zone of its target. -/
theorem Entered.holdsAny (zones : isNoZones cl.target = false) : holdsAnyZone t c = true := by
  obtain ⟨z, target⟩ : ∃ z, tget cl.target z = true := by
    by_contra none
    rw [Bool.eq_false_iff] at zones
    exact zones (isNoZones_iff.mpr fun z => Bool.eq_false_iff.mpr fun yes => none ⟨z, yes⟩)
  refine holdsAnyZone_iff.mpr ⟨z, fun none => ?_⟩
  rw [h.lists, if_pos target, entryIn_eq_none] at none
  have listed := (claims_inserted_perm s.claims.table c cl live (listOf s z)).mem_iff.mpr List.mem_cons_self
  obtain ⟨e, at_z, own⟩ := List.mem_map.mp listed
  exact none e at_z own

end

end Sys2Proof.Machine
end

section
namespace Sys2Proof.Machine

-- Declarations are elaborated one at a time: each thread's stack counts against the check's memory limit.
set_option Elab.async false

/-! ### What the start of a claim comes to (R80, R81, R90) -/

theorem carryOut_noZones {c : ClaimId} {cl : Claim} (peers : List PeerRef) (s : State) (none : isNoZones cl.target = true) :
    carryOut c cl peers s = (.ended c .refused 0, endClaim .refused c (createClaim c cl s)) := if_pos none

/-- A claim that has entered lists and still stands after its hand-on has started. -/
theorem carryOut_created {c : ClaimId} {cl : Claim} {peers : List PeerRef} {s : State}
    (zones : isNoZones cl.target = false) (held : entriesHeld s) (free : claimAt s c = none)
    (room : ∀ z, tget cl.target z = true → (listOf s z).length < 4) {u : State}
    (handed : handOnClaim c cl peers
      (forEach (zonesOf cl.target) (insertEntry c !cl.chime) (createClaim c cl s)) = u)
    (stands : (claimAt u c).isSome = true) : carryOut c cl peers s = (.created c, u) := by
  have holds := (entered_of_room (!cl.chime) held free room).holdsAny zones
  rw [carryOut, if_neg (by rw [zones]; decide)]
  dsimp only
  rw [if_pos holds, handed, if_pos stands]

/-- A claim of this part that no peer is handed, and its commit without a chime (R90). -/
theorem handOnClaim_alone {c : ClaimId} {cl : Claim} {peers : List PeerRef} (s : State) (here : isLocal cl.owner = true)
    (alone : (peers.isEmpty || cl.noPeers) = true) :
    handOnClaim c cl peers s = if cl.timer = 0 then commitDue c s else s := by
  rw [handOnClaim, alone]
  cases owner : cl.owner with
  | alarm ch => rw [owner] at here; cases here
  | peer node tag => rw [owner] at here; cases here
  | station st => rfl
  | management => rfl

section
variable {c : ClaimId} {cl : Claim} {s : State} (held : claimAt s c = some cl) (player : playerOfSlot cl.slot = none)
  (alone : entriesOf s c (fun _ => true) = []) (handed : cl.handed = 0) (lost : cl.lost = 0) (peers : cl.noPeers = false)
  (intact : ∀ z e, entryIn (listOf s z) c = some e → e.intact = true)
  (target : ∀ z, tget cl.target z = true → entryIn (listOf s z) c ≠ none) (zones : isNoZones cl.target = false)
include held player alone handed lost peers intact target zones

/-- A claim without peers, alone and intact in every zone of its target, commits whatever its policy (R88, R89). -/
theorem commitDue_intact : Committed [] c cl (fun z => lifted c (listOf s z)) s (commitDue c s) := by
  cases policy : cl.policy with
  | all =>
    rw [commitDue_all held policy (entriesOf_of_alone alone _)]
    refine committed_all held player ?_ (by rw [entriesOf_of_alone alone, handed]; rfl)
    rw [allIntact, List.all_eq_true]
    intro z hz
    obtain ⟨e, entry⟩ := Option.ne_none_iff_exists'.mp (target z (mem_zonesOf_iff.mp hz))
    rw [entry]
    exact intact z e entry
  | best =>
    have kept : (fun z => keptIntact c (listOf s z)) = fun z => lifted c (listOf s z) := funext fun z => by
      cases entry : entryIn (listOf s z) c with
      | none => rw [keptIntact_of_none entry, lifted_of_entryIn_none entry]
      | some e => exact keptIntact_of_intact entry (intact z e entry)
    have some_intact : zonesWhere s c (fun e => e.intact) ≠ [] := by
      obtain ⟨z, in_target⟩ : ∃ z, tget cl.target z = true := by
        by_contra none
        exact Bool.eq_false_iff.mp zones (isNoZones_iff.mpr fun z => Bool.eq_false_iff.mpr fun yes => none ⟨z, yes⟩)
      obtain ⟨e, entry⟩ := Option.ne_none_iff_exists'.mp (target z in_target)
      exact List.ne_nil_of_mem (mem_zonesWhere_iff.mpr ⟨e, entry, intact z e entry⟩)
    have whole : isPartial s c cl = false := isPartial_eq_false fun partly => by
      rcases partly with ⟨z, e, entry, no⟩ | lost' | left | failed
      · rw [intact z e entry] at no; cases no
      · omega
      · rw [peers] at left; cases left
      · omega
    rw [commitDue_best held policy, commitBest_whole some_intact whole, ← kept]
    exact committed_best held player

end

/-- A claim has started and stands: its place of the table, its entries alone in its target's lists, the chime generator, the
owner's part. Of the counters those of a start alone have changed, and the others listed. -/
structure Begun (also : List Counter) (c : ClaimId) (cl now : Claim) (live : Bool) (gen : ChimeGen) (s u : State) :
    Prop where
  own : claimAt u c = some now
  others : ∀ d, d ≠ c → claimAt u d = claimAt s d
  lists : ∀ z, listOf u z = if tget cl.target z = true then [⟨c, live, true⟩] else listOf s z
  queue : u.claims.queue = s.claims.queue
  gen : u.claims.chimeGen = gen
  started : counterOf u .claimsStarted = saturatingSucc (counterOf s .claimsStarted)
  counts : countsBut (also ++ .claimsStarted :: reportCounts) s u
  keeps : keepsBut [.claims, .reports, .counters] (tellCreated c cl s) u

section
variable {c : ClaimId} {cl : Claim} {live : Bool} {s t : State} (h : Entered c cl live s t)
  (empty : ∀ z, tget cl.target z = true → listOf s z = [])
include h empty

theorem Entered.begun (chimes : cl.chime = true ∧ 0 < cl.timer) :
    Begun [] c cl cl live ⟨if isNote s.claims.chimeTable 0 then some (0, 0) else none, 0⟩ s t :=
  ⟨h.own, h.others, h.lists_of_empty empty, h.queue, by rw [h.claims]; exact if_pos chimes, h.started, h.counts, h.keeps⟩

/-- A claim that commits at its start (R90). -/
theorem Entered.begun_live {u : State} (nowhere : ∀ z, entryIn (listOf s z) c = none) (timer : cl.timer = 0)
    (k : Committed [] c cl (fun z => lifted c (listOf t z)) t u) (alone : entriesOf t c (fun _ => true) = []) :
    Begun [.commitsDone] c cl { cl with state := .live } true s.claims.chimeGen s u ∧
      counterOf u .commitsDone = saturatingSucc (counterOf s .commitsDone) := by
  obtain ⟨counts, keeps⟩ := k.alone alone
  refine ⟨⟨k.own, fun d ne => (k.others d ne).trans (h.others d ne), fun z => ?_, ?_, ?_, ?_, ?_, ?_⟩,
    k.done.trans (congrArg _ (counterOf_of_countsBut h.counts (by decide)))⟩
  · rw [k.lists, h.lists_of_empty empty]
    split
    · simp [lifted]
    · exact lifted_of_entryIn_none (nowhere z)
  · rw [k.claims]; exact h.queue
  · rw [k.claims, h.claims]
    exact if_neg (by omega)
  · exact (counterOf_of_countsBut counts (by decide)).trans h.started
  · exact countsBut_trans (countsBut_mono (by decide) h.counts) (countsBut_mono (by decide) counts)
  · exact keepsBut_trans h.keeps keeps

/-- The entries of a claim in the lists it has entered alone. -/
theorem Entered.entryIn_of_empty (nowhere : ∀ z, entryIn (listOf s z) c = none) (z : ZoneId) :
    entryIn (listOf t z) c = if tget cl.target z = true then some ⟨c, live, true⟩ else none := by
  rw [h.lists_of_empty empty]
  split
  · simp [entryIn]
  · exact nowhere z

end

theorem entryIn_of_free {c : ClaimId} {s : State} (held : entriesHeld s) (free : claimAt s c = none) (z : ZoneId) :
    entryIn (listOf s z) c = none := entryIn_isNone_iff.mpr (not_mem_claimsIn_of_free held free z)

/-- The creation of a claim leaves the peer unit, the ring and the interpreter as they are. -/
theorem peersAgree_entered {c : ClaimId} {cl : Claim} {live : Bool} {s t : State} (h : Entered c cl live s t) :
    PeersAgree s t :=
  peersAgree_of_keeps (l := [.claims, .reports, .counters, .slots, .intercom, .clips, .alarm])
    (keepsBut_trans (keepsBut_mono (by simp) (tellCreated_keeps c cl s)) (keepsBut_mono (by simp) h.keeps))
    (by decide) (by decide) (by decide)

theorem room_of_empty {zs : ZoneSet} {s : State} (empty : ∀ z, tget zs z = true → listOf s z = []) (z : ZoneId)
    (target : tget zs z = true) : (listOf s z).length < 4 := by
  rw [empty z target]
  decide

section
variable {c : ClaimId} {cl : Claim} {peers : List PeerRef} {s : State} (zones : isNoZones cl.target = false)
  (held : entriesHeld s) (free : claimAt s c = none) (empty : ∀ z, tget cl.target z = true → listOf s z = [])
include zones held free empty

/-- A claim of this part with no peer to hand to waits for its chime (R87). -/
theorem carryOut_waits (here : isLocal cl.owner = true) (alone : (peers.isEmpty || cl.noPeers) = true)
    (chimes : cl.chime = true ∧ 0 < cl.timer) : ∃ u, carryOut c cl peers s = (.created c, u) ∧
      Begun [] c cl cl (!cl.chime) ⟨if isNote s.claims.chimeTable 0 then some (0, 0) else none, 0⟩ s u := by
  have entered := entered_of_room (!cl.chime) held free (room_of_empty empty)
  have stays := handOnClaim_alone (c := c) (forEach (zonesOf cl.target) (insertEntry c !cl.chime) (createClaim c cl s))
    here alone
  rw [if_neg (by omega)] at stays
  exact ⟨_, carryOut_created zones held free (room_of_empty empty) stays (by rw [entered.own]; rfl),
    entered.begun empty chimes⟩

/-- A claim without peers and without a chime is LIVE at once (R90). -/
theorem carryOut_live (handed : cl.handed = 0) (lost : cl.lost = 0) (noPeers : cl.noPeers = false)
    (player : playerOfSlot cl.slot = none) (alone : entriesOf s c (fun _ => true) = []) (timer : cl.timer = 0)
    (commits : ∀ t, handOnClaim c cl peers t = commitDue c t) : ∃ u, carryOut c cl peers s = (.created c, u) ∧
      Begun [.commitsDone] c cl { cl with state := .live } true s.claims.chimeGen s u ∧
      counterOf u .commitsDone = saturatingSucc (counterOf s .commitsDone) := by
  have entered := entered_of_room (!cl.chime) held free (room_of_empty empty)
  generalize at_t : forEach (zonesOf cl.target) (insertEntry c !cl.chime) (createClaim c cl s) = t at entered
  have nowhere := entryIn_of_free held free
  have none := ((peersAgree_entered entered).entriesOf c fun _ => true).trans alone
  have entries := entered.entryIn_of_empty empty nowhere
  have committed := commitDue_intact entered.own player none handed lost noPeers
    (fun z e entry => by
      rw [entries] at entry
      split at entry
      · rw [← Option.some.inj entry]
      · cases entry)
    (fun z target => by rw [entries, if_pos target]; simp) zones
  exact ⟨_, carryOut_created zones held free (room_of_empty empty) (by rw [at_t]; exact commits t)
    (by rw [committed.own]; rfl), entered.begun_live empty nowhere timer committed none⟩

end

end Sys2Proof.Machine
end

section
namespace Sys2Proof.Machine

-- Declarations are elaborated one at a time: each thread's stack counts against the check's memory limit.
set_option Elab.async false

/-! ### The head of the claim request queue, and the answer to it (R79, R80) -/

/-- The claim request queue once its head has been taken. -/
def headTaken (rest : List Request) (s : State) : State := modClaims (fun x => { x with queue := rest }) s

theorem headTaken_keeps (rest : List Request) (s : State) : keepsBut [.claims] s (headTaken rest s) :=
  keepsBut_modClaims _ s

theorem exec_takeStart {s : State} {r : StartRequest} {rest : List Request} (quiets : quiet s) (run : running s = true)
    (queue : s.claims.queue = .start r :: rest) : exec .claimRequestTake s =
      .next (answerStart r (startClaim r (headTaken rest s)).1 (startClaim r (headTaken rest s)).2) := by
  rw [exec, execClaimRequestTake, settle_of_quiet quiets]
  dsimp only
  rw [if_pos run, takeRequest, queue]
  rfl

theorem exec_takeNone {s : State} (quiets : quiet s) (queue : s.claims.queue = []) :
    exec .claimRequestTake s = .next s := by
  rw [exec, execClaimRequestTake, settle_of_quiet quiets]
  dsimp only
  rw [takeRequest, queue]
  exact congrArg _ (ite_self s)

theorem startClaim_noPlace {s : State} (r : StartRequest) (none : freeClaim s = none) : startClaim r s = startBusy s := by
  rw [startClaim, none]

theorem startClaim_noSlot {s : State} {r : StartRequest} (none : requestSlot s r = none) : startClaim r s = startBusy s := by
  rw [startClaim]
  cases freeClaim s with
  | none => rfl
  | some c => dsimp only; rw [none]

section
variable {s : State} {r : StartRequest} {c : ClaimId} {i : SlotId} (free : freeClaim s = some c)
  (slot : requestSlot s r = some i)
include free slot

theorem startClaim_carries (enough : peerShort s r = false) :
    startClaim r s = carryOut c (createdClaim s r i) (requestPeers s r) s := by
  rw [startClaim, free]
  dsimp only
  rw [slot, enough]
  exact if_neg (by simp)

theorem startClaim_short_all (short : peerShort s r = true) (policy : r.policy = .all) :
    startClaim r s = startBusy (count .peerShortage s) := by
  rw [startClaim, free]
  dsimp only
  rw [slot, short]
  exact if_pos ⟨rfl, policy⟩

theorem startClaim_short_best (short : peerShort s r = true) (policy : r.policy = .best) :
    startClaim r s = carryOut c (createdClaim s r i) (requestPeers s r) (count .peerShortage s) := by
  rw [startClaim, free]
  dsimp only
  rw [slot, short]
  exact if_neg (by simp [policy])

end

theorem peerShort_of_noPeers {s : State} {r : StartRequest} (none : requestPeers s r = []) : peerShort s r = false := by
  rw [peerShort, none]
  rfl

theorem peerShort_headTaken (rest : List Request) (s : State) (r : StartRequest) :
    peerShort (headTaken rest s) r = peerShort s r := rfl

theorem createdClaim_headTaken (rest : List Request) (s : State) (r : StartRequest) (i : SlotId) :
    createdClaim (headTaken rest s) r i = createdClaim s r i := rfl

/-- The head of the queue is judged and carried out by the state as it stood before (R80). -/
theorem startClaim_head {s : State} {r : StartRequest} {c : ClaimId} {i : SlotId} (rest : List Request)
    (free : freeClaim s = some c) (slot : requestSlot s r = some i) (enough : peerShort s r = false) :
    startClaim r (headTaken rest s) = carryOut c (createdClaim s r i) (requestPeers s r) (headTaken rest s) := by
  have carries := startClaim_carries (s := headTaken rest s) (c := c) (i := i) free slot
    ((peerShort_headTaken rest s r).trans enough)
  rwa [createdClaim_headTaken] at carries

theorem requestSlot_of_some {s : State} {r : StartRequest} {i : SlotId} (h : r.slot = some i) :
    requestSlot s r = some i := by rw [requestSlot, h]

/-! #### The answer to a management start request (R190, R196) -/

theorem claimAnswer_of_unframed (code : ResultCode) (data : ResultData) (s : State) : claimAnswer false code data s =
    if isRefusal code then count .operationsRefused (modControl (fun c => { c with answer := ⟨0, code, data⟩ }) s)
    else modControl (fun c => { c with answer := ⟨0, code, data⟩ }) s := rfl

theorem claimAnswer_keeps (framed : Bool) (code : ResultCode) (data : ResultData) (s : State) :
    keepsBut answerParts s (claimAnswer framed code data s) := by
  cases framed with
  | true => exact finishOperation_keeps true code data s
  | false =>
    have put : keepsBut [.control] s (modControl (fun c => { c with answer := ⟨0, code, data⟩ }) s) := keepsBut_modControl _ s
    rw [claimAnswer_of_unframed]
    exact keepsBut_ite (keepsBut_trans (keepsBut_mono (by simp) put) (keepsBut_mono (by simp) (count_keeps _ _)))
      (keepsBut_mono (by simp) put)

theorem claimAnswer_countsBut (framed : Bool) (code : ResultCode) (data : ResultData) (s : State) :
    countsBut answerCounts s (claimAnswer framed code data s) := by
  cases framed with
  | true => exact (finishOperation_answers true code data s).counts
  | false =>
    rw [claimAnswer_of_unframed]
    split
    · exact count_countsBut (by decide) (modControl _ s)
    · exact countsBut_refl _ s

/-- Outside a frame the answer counts a refusal alone (R201). -/
theorem claimAnswer_counters_unframed {code : ResultCode} (plain : isRefusal code = false) (data : ResultData) (s : State) :
    (claimAnswer false code data s).counters = s.counters := by
  rw [claimAnswer_of_unframed, plain]
  rfl

/-- The answer depends on the ring and the interpreter alone. -/
theorem claimAnswer_congr (framed : Bool) (code : ResultCode) (data : ResultData) {s u : State} (ring : u.ring = s.ring)
    (control : u.control = s.control) :
    (claimAnswer framed code data u).ring = (claimAnswer framed code data s).ring ∧
      (claimAnswer framed code data u).control = (claimAnswer framed code data s).control := by
  cases framed with
  | true => exact finishOperation_congr true code data ring control
  | false =>
    rw [claimAnswer_of_unframed, claimAnswer_of_unframed]
    cases isRefusal code with
    | true => exact ⟨ring, congrArg (fun x => { x with answer := ⟨0, code, data⟩ }) control⟩
    | false => exact ⟨ring, congrArg (fun x => { x with answer := ⟨0, code, data⟩ }) control⟩

theorem claimAnswered_of (r : StartRequest) (code : ResultCode) (data : ResultData) {s u : State} (ring : u.ring = s.ring)
    (control : u.control = s.control) : claimAnswered r code data s (claimAnswer r.framed code data u) := by
  obtain ⟨sameRing, sameControl⟩ := claimAnswer_congr r.framed code data ring control
  refine ⟨sameControl, sameRing, ?_, fun plain => ?_⟩
  · have index : operationIndex u = operationIndex s := by rw [operationIndex, control, operationIndex]
    cases framed : r.framed with
    | true =>
      have answered := (finishOperation_answers true code data u).control
      change (finishOperation true code data u).control.answer = _
      rw [answered, index]
      rfl
    | false =>
      rw [claimAnswer_of_unframed]
      split <;> rfl
  · rw [sameControl, sameRing, plain, claimAnswer_of_unframed]
    split <;> exact ⟨rfl, rfl⟩

/-! #### A claim that ends within its own start (R81) -/

section
variable {c : ClaimId} {cl : Claim} {s : State} (held : entriesHeld s) (free : claimAt s c = none)
include held free

/-- A claim created without a zone leaves neither the table nor a list changed. -/
theorem endCreated_claims (reason : EndReason) : (∀ d, claimAt (endClaim reason c (createClaim c cl s)) d = claimAt s d) ∧
    (∀ z, listOf (endClaim reason c (createClaim c cl s)) z = listOf s z) ∧
    (endClaim reason c (createClaim c cl s)).claims.queue = s.claims.queue := by
  have own : claimAt (createClaim c cl s) c = some cl := by rw [claimAt_createClaim, if_pos rfl]
  obtain ⟨gone, others, lists⟩ := claimGone_endClaim (reason := reason) own
  refine ⟨fun d => ?_, fun z => ?_, ?_⟩
  · by_cases same : d = c
    · rw [same, gone, free]
    · rw [others d same, claimAt_createClaim, if_neg (Ne.symm same)]
  · rw [lists, listOf_createClaim]
    exact filter_of_entryIn_none (entryIn_of_free held free z)
  · rw [endClaim_claims_frame (reason := reason) own, createClaim_claims]

omit held free in
theorem endCreated_recorded (addressed : s.control.mode ≠ .unaddressed) :
    recorded .claimEnd c.val 3 s (endClaim .refused c (createClaim c cl s)) := by
  have own : claimAt (createClaim c cl s) c = some cl := by rw [claimAt_createClaim, if_pos rfl]
  have kept : keepsBut [.claims, .counters, .slots, .intercom, .clips, .alarm] s (createClaim c cl s) :=
    keepsBut_trans (keepsBut_mono (by simp) (tellCreated_keeps c cl s)) (keepsBut_mono (by simp) (createClaim_keeps c cl s))
  have made := recorded_endClaim (reason := .refused) own (by decide) (by rw [kept .control (by decide)]; exact addressed)
  rw [recorded, kept .ring (by decide)] at made
  exact made

end

end Sys2Proof.Machine
end

section
namespace Sys2Proof.Machine

-- Declarations are elaborated one at a time: each thread's stack counts against the check's memory limit.
set_option Elab.async false

/-! ### A management start without peers (R77, R80, R81, R87, R90) -/

/-- A chime with a length has a first note (R85). -/
theorem isNote_first {t : Vector ChimeEntry 4} (length : 0 < chimeLength t) : isNote t 0 = true := by
  by_contra silent
  have first : (tget t 0).duration = 0 := by
    rw [isNote, List.all_eq_true] at silent
    by_contra sounds
    refine silent fun j _ => ?_
    rcases Fin.eq_zero_or_eq_succ j with rfl | ⟨k, rfl⟩
    · simp [Nat.pos_of_ne_zero sounds]
    · simp
  have none : ∀ i : Fin 4, isNote t i = false := fun i => by
    rw [isNote, List.all_eq_false]
    exact ⟨0, List.mem_finRange 0, by simp [first]⟩
  have zero : chimeLength t = 0 := by
    rw [chimeLength, List.sum_eq_zero]
    intro n hn
    obtain ⟨i, -, rfl⟩ := List.mem_map.mp hn
    rw [none i]
    rfl
  omega

/-- The claim of a start of no alarm, as it is created (R80, R81). -/
structure PlainClaim (s : State) (r : StartRequest) (i : SlotId) : Prop where
  owner : (createdClaim s r i).owner = r.owner
  slot : (createdClaim s r i).slot = i
  target : (createdClaim s r i).target = enabledZones s (requestZones s r)
  chime : (createdClaim s r i).chime = r.chime
  timer : (createdClaim s r i).timer = if r.chime = true then chimeLength s.claims.chimeTable else 0
  state : (createdClaim s r i).state = .reserving
  policy : (createdClaim s r i).policy = r.policy
  noPeers : (createdClaim s r i).noPeers = peerShort s r
  lost : (createdClaim s r i).lost = 0
  handed : (createdClaim s r i).handed = 0
  waiting : (createdClaim s r i).waiting = false

theorem plainClaim {r : StartRequest} (s : State) (i : SlotId) (plain : ∀ ch, r.owner ≠ .alarm ch) : PlainClaim s r i := by
  cases owner : r.owner with
  | alarm ch => exact absurd owner (plain ch)
  | station st => constructor <;> simp [createdClaim, owner]
  | management => constructor <;> simp [createdClaim, owner]
  | peer node tag => constructor <;> simp [createdClaim, owner]

theorem tellCreated_management {c : ClaimId} {cl : Claim} (s : State) (owner : cl.owner = .management)
    (player : playerOfSlot cl.slot = none) : tellCreated c cl s = s := by
  rw [tellCreated, owner]
  dsimp only
  rw [player]

/-- A management claim that ends within its own start touches no more than its own unit and the peers' (R81). -/
theorem endCreated_management {c : ClaimId} {cl : Claim} {b : State} (owner : cl.owner = .management)
    (player : playerOfSlot cl.slot = none) (alone : entriesOf b c (fun _ => true) = []) :
    keepsBut [.claims, .peer, .reports, .counters] b (endClaim .refused c (createClaim c cl b)) := by
  have created : keepsBut [.claims, .counters] b (createClaim c cl b) := by
    have := createClaim_keeps c cl b
    rwa [tellCreated_management _ owner player] at this
  have agree := peersAgree_of_keeps created (by decide) (by decide) (by decide)
  have own : claimAt (createClaim c cl b) c = some cl := by rw [claimAt_createClaim, if_pos rfl]
  have ring := (endClaim_management_alone .refused own owner ((agree.entriesOf c _).trans alone)).2
  exact keepsBut_trans (keepsBut_mono (by simp) created)
    (keepsBut_of_agree (endClaim_management_keeps .refused own owner player) ring)

/-- A management start has been answered with the id of its claim, which stands. -/
structure ManagementStarted (c : ClaimId) (now : Claim) (zs : ZoneSet) (live : Bool) (gen : ChimeGen) (rest : List Request)
    (r : StartRequest) (s t : State) : Prop where
  own : claimAt t c = some now
  others : ∀ d, d ≠ c → claimAt t d = claimAt s d
  lists : ∀ z, listOf t z = if tget zs z = true then [⟨c, live, true⟩] else listOf s z
  queue : t.claims.queue = rest
  gen : t.claims.chimeGen = gen
  answered : claimAnswered r .ok (.claim (some c) none) s t
  keeps : keepsBut [.ring, .claims, .control, .reports, .counters] s t

/-- The answer to a claim that has begun in a state that differs from the one before in its queue and its counters. -/
theorem Begun.answered {also : List Counter} {c : ClaimId} {cl now : Claim} {live : Bool} {gen : ChimeGen}
    {s b u : State} {rest : List Request} {r : StartRequest} (h : Begun also c cl now live gen b u)
    (claims : b.claims = { s.claims with queue := rest }) (base : keepsBut [.claims, .counters] s b)
    (owner : cl.owner = .management) (player : playerOfSlot cl.slot = none) :
    ManagementStarted c now cl.target live gen rest r s (claimAnswer r.framed .ok (.claim (some c) none) u) := by
  have kept : keepsBut [.claims, .reports, .counters] b u := by
    have := h.keeps
    rwa [tellCreated_management b owner player] at this
  have answer := claimAnswer_keeps r.framed .ok (.claim (some c) none) u
  have same : (claimAnswer r.framed .ok (.claim (some c) none) u).claims = u.claims := answer .claims (by simp)
  have table : ∀ d, claimAt b d = claimAt s d := fun d => by rw [claimAt, claims]; rfl
  have lists : ∀ z, listOf b z = listOf s z := fun z => by rw [listOf, claims]; rfl
  refine ⟨by rw [claimAt, same]; exact h.own, fun d ne => by rw [claimAt, same, ← table]; exact h.others d ne,
    fun z => by rw [listOf, same, ← lists]; exact h.lists z, by rw [same, h.queue, claims], by rw [same]; exact h.gen,
    claimAnswered_of r .ok _ ((kept .ring (by decide)).trans (base .ring (by decide)))
      ((kept .control (by decide)).trans (base .control (by decide))), ?_⟩
  exact keepsBut_trans (keepsBut_mono (by simp) base) (keepsBut_trans (keepsBut_mono (by simp) kept)
    (keepsBut_mono (by simp) answer))

section
variable {r : StartRequest} {rest : List Request} {i : SlotId} {s : State} (quiets : quiet s) (run : running s = true)
  (held : entriesHeld s) (queue : s.claims.queue = .start r :: rest) (owner : r.owner = .management)
  (slot : r.slot = some i) (player : playerOfSlot i = none)
include quiets run queue owner

theorem exec_management {o : Started} {u : State} (starts : startClaim r (headTaken rest s) = (o, u)) :
    exec .claimRequestTake s = .next (answerManagement r o u) := by
  rw [exec_takeStart quiets run queue, starts, answerStart, owner]

include slot player

/-- A management start refused BUSY, with what has been counted before (R99, R101). -/
theorem management_busy {b : State} (starts : startClaim r (headTaken rest s) = startBusy b)
    (claims : b.claims = { s.claims with queue := rest }) (base : keepsBut [.claims, .counters] s b) :
    ∃ t, exec .claimRequestTake s = .next t ∧ t.claims = { s.claims with queue := rest } ∧
      claimAnswered r .busy .none s t ∧
      counterOf t .requestsBusy = saturatingSucc (counterOf b .requestsBusy) ∧
      countsBut (.requestsBusy :: answerCounts) b t ∧
      (r.framed = false → countsBut [.requestsBusy, .operationsRefused] b t) ∧
      keepsBut [.ring, .claims, .control, .counters] s t := by
  have does := exec_management quiets run queue owner starts
  rw [answerManagement_busy _ slot player] at does
  have kept : keepsBut [.claims, .counters] s (count .requestsBusy b) :=
    keepsBut_trans base (keepsBut_mono (by simp) (count_keeps _ b))
  have answer := claimAnswer_keeps r.framed .busy .none (count .requestsBusy b)
  have counts := claimAnswer_countsBut r.framed .busy .none (count .requestsBusy b)
  have busy := count_countsBut (c := .requestsBusy) (l := [.requestsBusy]) (by simp) b
  refine ⟨_, does, (answer .claims (by simp)).trans claims,
    claimAnswered_of r .busy .none (kept .ring (by decide)) (kept .control (by decide)),
    (counterOf_of_countsBut counts (by decide)).trans (counterOf_count _ b),
    countsBut_trans (countsBut_mono (by simp) busy) (countsBut_mono (by decide) counts), fun plain => ?_,
    keepsBut_trans (keepsBut_mono (by simp) kept) (keepsBut_mono (by simp) answer)⟩
  rw [plain, claimAnswer_of_unframed]
  exact countsBut_trans (countsBut_mono (by simp) busy) (count_countsBut (by simp) (modControl _ (count .requestsBusy b)))

include held

omit slot in
/-- A management start none of whose zones is enabled ends REFUSED (R81). -/
theorem management_noZones {c : ClaimId} (free : freeClaim s = some c)
    (starts : startClaim r (headTaken rest s) =
      carryOut c (createdClaim s r i) (requestPeers s r) (headTaken rest s))
    (nothing : isNoZones (enabledZones s (requestZones s r)) = true) (alone : entriesOf s c (fun _ => true) = []) :
    ∃ t, exec .claimRequestTake s = .next t ∧ claimAt t c = none ∧ (∀ d, claimAt t d = claimAt s d) ∧
      (∀ z, listOf t z = listOf s z) ∧ t.claims.queue = rest ∧
      claimAnswered r .ok (.claim (some c) (some .refused)) s t ∧ recorded .claimEnd c.val 3 s t ∧
      keepsBut [.ring, .claims, .peer, .control, .reports, .counters] s t := by
  have plain := plainClaim s i (r := r) fun ch => by rw [owner]; simp
  have place : claimAt s c = none := claimAt_freeClaim free
  rw [carryOut_noZones _ _ (by rw [plain.target]; exact nothing)] at starts
  obtain ⟨table, lists, taken⟩ := endCreated_claims (s := headTaken rest s) (cl := createdClaim s r i) held place .refused
  have made := endCreated_recorded (s := headTaken rest s) (c := c) (cl := createdClaim s r i) (addressed_of_running run)
  have kept := endCreated_management (plain.owner.trans owner) (by rw [plain.slot]; exact player)
    (b := headTaken rest s) alone
  generalize endClaim .refused c (createClaim c (createdClaim s r i) (headTaken rest s)) = u at starts table lists taken made kept
  have does : exec .claimRequestTake s = .next (claimAnswer r.framed .ok (.claim (some c) (some .refused)) u) :=
    exec_management quiets run queue owner starts
  have answer := claimAnswer_keeps r.framed .ok (.claim (some c) (some .refused)) u
  have same : (claimAnswer r.framed .ok (.claim (some c) (some .refused)) u).claims = u.claims := answer .claims (by simp)
  have at_d : ∀ d, claimAt (claimAnswer r.framed .ok (.claim (some c) (some .refused)) u) d = claimAt s d := fun d => by
    rw [claimAt, same]
    exact table d
  refine ⟨_, does, (at_d c).trans place, at_d, fun z => by rw [listOf, same]; exact lists z, by rw [same, taken]; rfl,
    claimAnswered_of r .ok _ (kept .ring (by decide)) (kept .control (by decide)), ?_, ?_⟩
  · rw [recorded, answer .reports (by simp)]
    exact made
  · exact keepsBut_trans (keepsBut_mono (by simp) (headTaken_keeps rest s)) (keepsBut_trans (keepsBut_mono (by simp) kept)
      (keepsBut_mono (by simp) answer))

variable {c : ClaimId} (free : freeClaim s = some c) (zones : isNoZones (enabledZones s (requestZones s r)) = false)
  (empty : ∀ z, tget (enabledZones s (requestZones s r)) z = true → listOf s z = [])
include free zones empty

omit slot in
/-- A management start with a chime and no peer to hand to waits for its chime (R87). -/
theorem management_waits {b : State}
    (starts : startClaim r (headTaken rest s) = carryOut c (createdClaim s r i) (requestPeers s r) b)
    (claims : b.claims = { s.claims with queue := rest }) (base : keepsBut [.claims, .counters] s b)
    (alone : ((requestPeers s r).isEmpty || (createdClaim s r i).noPeers) = true) (chime : r.chime = true)
    (length : 0 < chimeLength s.claims.chimeTable) : ∃ u, exec .claimRequestTake s =
        .next (claimAnswer r.framed .ok (.claim (some c) none) u) ∧
      Begun [] c (createdClaim s r i) (createdClaim s r i) false ⟨some (0, 0), 0⟩ b u ∧
      ManagementStarted c (createdClaim s r i) (enabledZones s (requestZones s r)) false ⟨some (0, 0), 0⟩ rest r s
        (claimAnswer r.framed .ok (.claim (some c) none) u) := by
  have plain := plainClaim s i (r := r) fun ch => by rw [owner]; simp
  have table : ∀ d, claimAt b d = claimAt s d := fun d => by rw [claimAt, claims]; rfl
  have lists : ∀ z, listOf b z = listOf s z := fun z => by rw [listOf, claims]; rfl
  have chimes : (createdClaim s r i).chime = true ∧ 0 < (createdClaim s r i).timer := by
    rw [plain.chime, plain.timer, if_pos chime]
    exact ⟨chime, length⟩
  obtain ⟨u, carries, begun⟩ := carryOut_waits (c := c) (peers := requestPeers s r) (s := b)
    (by rw [plain.target]; exact zones) (fun z e he => by rw [table]; exact held z e (lists z ▸ he))
    ((table c).trans (claimAt_freeClaim free)) (fun z target => (lists z).trans (empty z (plain.target ▸ target)))
    (by rw [plain.owner, owner]; rfl) alone chimes
  have first : isNote b.claims.chimeTable 0 = true := by rw [claims]; exact isNote_first length
  rw [first, if_pos rfl, plain.chime, chime] at begun
  refine ⟨u, exec_management quiets run queue owner (starts.trans carries), begun, ?_⟩
  have answered := begun.answered (r := r) claims base (plain.owner.trans owner) (by rw [plain.slot]; exact player)
  rwa [plain.target] at answered

/-- A management start without a chime and without peers is LIVE at once (R90). -/
theorem management_live (noPeers : requestPeers s r = []) (chime : r.chime = false)
    (alone : entriesOf s c (fun _ => true) = []) : ∃ u, exec .claimRequestTake s =
        .next (claimAnswer r.framed .ok (.claim (some c) none) u) ∧
      Begun [.commitsDone] c (createdClaim s r i) { createdClaim s r i with state := .live } true s.claims.chimeGen
        (headTaken rest s) u ∧
      counterOf u .commitsDone = saturatingSucc (counterOf s .commitsDone) ∧
      ManagementStarted c { createdClaim s r i with state := .live } (enabledZones s (requestZones s r)) true
        s.claims.chimeGen rest r s (claimAnswer r.framed .ok (.claim (some c) none) u) := by
  have plain := plainClaim s i (r := r) fun ch => by rw [owner]; simp
  have timer : (createdClaim s r i).timer = 0 := by rw [plain.timer, chime]; rfl
  have here : isLocal (createdClaim s r i).owner = true := by rw [plain.owner, owner]; rfl
  obtain ⟨u, carries, begun, done⟩ := carryOut_live (c := c) (peers := []) (s := headTaken rest s)
    (by rw [plain.target]; exact zones) held (claimAt_freeClaim (s := s) free)
    (fun z target => empty z (plain.target ▸ target)) plain.handed plain.lost
    (plain.noPeers.trans (peerShort_of_noPeers noPeers)) (by rw [plain.slot]; exact player) alone timer
    (fun t => (handOnClaim_alone t here rfl).trans (if_pos timer))
  have starts : startClaim r (headTaken rest s) = _ :=
    startClaim_carries (s := headTaken rest s) free (requestSlot_of_some slot) (peerShort_of_noPeers noPeers)
  rw [show requestPeers (headTaken rest s) r = [] from noPeers] at starts
  refine ⟨u, exec_management quiets run queue owner (starts.trans carries), begun, done, ?_⟩
  have answered := begun.answered (r := r) rfl (keepsBut_mono (by simp) (headTaken_keeps rest s)) (plain.owner.trans owner)
    (by rw [plain.slot]; exact player)
  rwa [plain.target] at answered

end

end Sys2Proof.Machine
end

section
namespace Sys2Proof.Machine

-- Declarations are elaborated one at a time: each thread's stack counts against the check's memory limit.
set_option Elab.async false

/-! ### The hand-on of a claim to its peers (R101, R102, R103) -/

/-- The lowest number for which p holds. -/
theorem find?_everyFin {n : Nat} {p : Fin n → Bool} {k : Fin n} (here : p k = true)
    (lower : ∀ j : Fin n, j.val < k.val → p j = false) : (everyFin n).find? p = some k := by
  rw [List.find?_eq_some_iff_getElem]
  refine ⟨here, k.val, by simp, by simp, fun j hj => ?_⟩
  rw [List.getElem_finRange, Bool.not_eq_true']
  exact lower _ hj

/-- The FREE entries, in ascending order. -/
def freeList (s : State) : List TagId := (everyFin 8).filter fun t => (entryAt s t).isNone

theorem freeTag_eq (s : State) : freeTag s = (freeList s).head? := (List.head?_filter ..).symm

theorem nodup_freeList (s : State) : (freeList s).Nodup := (List.nodup_finRange 8).filter _

theorem ringBound_iff {s : State} {i : SlotId} :
    ringBound s i = true ↔ ∃ o b q, (tget s.slots i).binding = .ring o b q := by
  unfold ringBound
  split
  · next o b q bound => exact ⟨fun _ => ⟨o, b, q, bound⟩, fun _ => rfl⟩
  · next other => exact ⟨fun h => absurd h (by decide), fun ⟨o, b, q, bound⟩ => absurd bound (other o b q)⟩

theorem freeTx_isSome {s : State} : (freeTx s).isSome = true ↔ ∃ k, tget s.peer.tx k = none := by
  rw [freeTx, List.find?_isSome]
  simp [everyFin]

/-- When the peer unit has room for a claim's peers (R101). -/
theorem enoughPeers_iff (i : SlotId) (n : Nat) (s : State) : enoughPeers s n (some i) = true ↔
    n ≤ (freeList s).length ∧ ((∃ o b q, (tget s.slots i).binding = .ring o b q) ∨ ∃ k, tget s.peer.tx k = none) := by
  rw [← ringBound_iff, ← freeTx_isSome, enoughPeers, Bool.and_eq_true, Bool.or_eq_true, decide_eq_true_iff]
  rfl

/-- The audio of a hand-on, from the ring or over the lowest free transmit channel (R102). -/
theorem handOn_ring {s : State} {i : SlotId} {o b q : Nat} (bound : (tget s.slots i).binding = .ring o b q) :
    audioReference s i = (o, b, q) ∧ handOnChannel s i = none :=
  ⟨by rw [audioReference, bound], if_pos (ringBound_iff.mpr ⟨o, b, q, bound⟩)⟩

theorem handOn_channel {s : State} {i : SlotId} (other : ∀ o b q, (tget s.slots i).binding ≠ .ring o b q) {k : TxId}
    (free : tget s.peer.tx k = none) (lowest : ∀ j : TxId, j.val < k.val → tget s.peer.tx j ≠ none) :
    audioReference s i = (s.ring.nodeId, 0, k.val) ∧ handOnChannel s i = some k := by
  have channel : freeTx s = some k := find?_everyFin (by rw [free]; rfl)
    fun j hj => Option.isNone_eq_false_iff.mpr (Option.isSome_iff_ne_none.mpr (lowest j hj))
  refine ⟨?_, ?_⟩
  · unfold audioReference
    split
    · next o b q bound => exact absurd bound (other o b q)
    · rw [channel]
  · refine (if_neg fun bound => ?_).trans channel
    obtain ⟨o, b, q, bound⟩ := ringBound_iff.mp bound
    exact other o b q bound

/-! #### The entries -/

/-- The entry that a peer takes (R102). -/
def handedEntry (s : State) (c : ClaimId) (k : Option TxId) (p : PeerRef) : OutEntry :=
  ⟨.reserveSent, c, p.node, p.group, k, s.ring.period + BitVec.ofNat 32 s.control.node.answerTimeout⟩

/-- An entry taken is FREE no longer. -/
theorem freeList_setEntry {s : State} {t : TagId} {rest : List TagId} (e : OutEntry) (first : freeList s = t :: rest) :
    freeList (setEntry t (some e) s) = rest := by
  have once := nodup_freeList s
  rw [first, List.nodup_cons] at once
  have entries : ∀ x, (entryAt (setEntry t (some e) s) x).isNone = (decide (x ≠ t) && (entryAt s x).isNone) := fun x => by
    rw [entryAt, setEntry, modPeer_peer]
    dsimp only
    rw [tget_tset]
    split
    · next same => simp [same]
    · next other => simp [Ne.symm other, entryAt]
  have taken : freeList (setEntry t (some e) s) = (freeList s).filter fun x => x ≠ t := by
    rw [freeList, freeList, List.filter_filter]
    exact List.filter_congr fun x _ => entries x
  rw [taken, first, List.filter_cons_of_neg (by simp), List.filter_eq_self]
  exact fun x hx => decide_eq_true fun same => once.1 (same ▸ hx)

/-- The peers take the FREE entries one after another, in the order of both lists (R102, 2). -/
theorem takeEntries_facts (c : ClaimId) (k : Option TxId) {peers : List PeerRef} {s : State}
    (room : peers.length ≤ (freeList s).length) :
    (∀ (j : Nat) (p : PeerRef) (x : TagId), peers[j]? = some p → (freeList s)[j]? = some x →
      entryAt (forEach peers (takeEntry c k) s) x = some (handedEntry s c k p)) ∧
    (∀ x, x ∉ (freeList s).take peers.length → entryAt (forEach peers (takeEntry c k) s) x = entryAt s x) ∧
    (forEach peers (takeEntry c k) s).peer =
      { s.peer with file := (forEach peers (takeEntry c k) s).peer.file } ∧
    keepsBut [.peer] s (forEach peers (takeEntry c k) s) := by
  induction peers generalizing s with
  | nil => exact ⟨by simp, fun _ _ => rfl, rfl, keepsBut_refl _ s⟩
  | cons p peers ih =>
    obtain ⟨t, rest, free⟩ : ∃ t rest, freeList s = t :: rest := by
      cases list : freeList s with
      | nil => rw [list] at room; simp at room
      | cons t rest => exact ⟨t, rest, rfl⟩
    have takes : takeEntry c k p s = setEntry t (some (handedEntry s c k p)) s := by
      rw [takeEntry, freeTag_eq, free]
      rfl
    have left := freeList_setEntry (handedEntry s c k p) free
    rw [free] at room ⊢
    rw [forEach_cons, takes]
    obtain ⟨entries, others, peer, keeps⟩ := ih (s := setEntry t (some (handedEntry s c k p)) s)
      (by rw [left]; exact Nat.le_of_succ_le_succ room)
    rw [left] at entries others
    have once : t ∉ rest := by
      have := nodup_freeList s
      rw [free, List.nodup_cons] at this
      exact this.1
    refine ⟨fun j q x at_j free_j => ?_, fun x other => ?_, by rw [peer]; rfl,
      keepsBut_trans (keepsBut_modPeer _ s) keeps⟩
    · cases j with
      | zero =>
        obtain rfl := Option.some.inj at_j
        obtain rfl := Option.some.inj free_j
        rw [others t fun h => once (List.mem_of_mem_take h)]
        exact tget_tset_self _ _ _
      | succ j => exact entries j q x at_j free_j
    · rw [List.length_cons, List.take_succ_cons, List.mem_cons, not_or] at other
      rw [others x other.2]
      exact tget_tset_ne _ _ (Ne.symm other.1)

/-! #### The RESERVE frames -/

/-- The RESERVE frame of a peer (R102, 3). -/
def reserveFrame (cl : Claim) (ref : Nat × Nat × Nat) (x : TagId × PeerRef) (s : State) : State :=
  sendClaim x.2.node (reservePayload x.1 x.2.group cl ref.1 ref.2.1 ref.2.2) s

/-- The RESERVE frames go out one after another to the peers that hold the entries, each counted. -/
theorem sendReserves_facts (cl : Claim) (ref : Nat × Nat × Nat) {l : List (TagId × PeerRef)} {s w : State}
    (entries : ∀ x ∈ l, ∃ e, entryAt s x.1 = some e ∧ e.peer = x.2.node ∧ e.group = x.2.group)
    (ring : s.ring = w.ring) (control : s.control = w.control) :
    (forEach (l.map (·.1)) (sendReserve cl ref) s).ring = (forEach l (reserveFrame cl ref) w).ring ∧
      counterOf (forEach (l.map (·.1)) (sendReserve cl ref) s) .reservesSent =
        iterate saturatingSucc l.length (counterOf s .reservesSent) ∧
      keepsBut [.ring, .counters] s (forEach (l.map (·.1)) (sendReserve cl ref) s) := by
  induction l generalizing s w with
  | nil => exact ⟨ring, rfl, keepsBut_refl _ s⟩
  | cons x l ih =>
    obtain ⟨⟨e, at_x, peer, group⟩, rest⟩ := List.forall_mem_cons.mp entries
    have sends : sendReserve cl ref x.1 s = count .reservesSent (reserveFrame cl ref x s) := by
      rw [sendReserve, at_x, reserveFrame, ← peer, ← group]
    have kept : keepsBut [.ring, .counters] s (sendReserve cl ref x.1 s) := by
      rw [sends]
      exact keepsBut_trans (sendClaim_keeps _ _ s) (keepsBut_mono (by simp) (count_keeps _ _))
    have same : ∀ t, entryAt (sendReserve cl ref x.1 s) t = entryAt s t := fun t => by
      rw [entryAt, kept .peer (by decide), entryAt]
    have ringed : (sendReserve cl ref x.1 s).ring = (reserveFrame cl ref x w).ring := by
      rw [sends]
      exact sendClaim_ring_congr _ _ ring control
    have controlled : (sendReserve cl ref x.1 s).control = (reserveFrame cl ref x w).control :=
      (kept .control (by decide)).trans (control.trans (sendClaim_keeps _ _ w .control (by decide)).symm)
    obtain ⟨rings, counts, keeps⟩ := ih (s := sendReserve cl ref x.1 s) (w := reserveFrame cl ref x w)
      (fun y hy => by simpa only [same] using rest y hy) ringed controlled
    refine ⟨rings, counts.trans ?_, keepsBut_trans kept keeps⟩
    rw [sends, counterOf_count]
    exact congrArg (fun n => iterate saturatingSucc l.length (saturatingSucc n))
      (counterOf_of_countsBut (sendClaim_countsBut _ _ s) (by decide))

/-! #### The hand-on as a whole -/

theorem filter_mem_sublist {α : Type} [DecidableEq α] {l m : List α} (part : m.Sublist l) (once : l.Nodup) :
    l.filter (fun x => x ∈ m) = m := by
  induction part with
  | slnil => rfl
  | cons a part ih =>
    obtain ⟨new, once⟩ := List.nodup_cons.mp once
    rw [List.filter_cons_of_neg (by simpa using fun listed => new (part.subset listed)), ih once]
  | cons_cons a part ih =>
    obtain ⟨new, once⟩ := List.nodup_cons.mp once
    rw [List.filter_cons_of_pos (by simp)]
    refine congrArg _ ((List.filter_congr fun x hx => ?_).trans (ih once))
    have other : x ≠ a := fun same => new (same ▸ hx)
    simp [other]

/-- Parts of one list in its order with the same members are the same. -/
theorem sublist_ext {α : Type} [DecidableEq α] {l m n : List α} (once : l.Nodup) (first : m.Sublist l)
    (second : n.Sublist l) (same : ∀ x, x ∈ m ↔ x ∈ n) : m = n := by
  rw [← filter_mem_sublist first once, ← filter_mem_sublist second once]
  exact List.filter_congr fun x _ => by simp [same]

/-- The entries that the peers have taken are the claim's, in ascending order, where it had none before. -/
theorem entriesOf_taken {c : ClaimId} {k : Option TxId} {peers : List PeerRef} {s : State}
    (room : peers.length ≤ (freeList s).length) (alone : entriesOf s c (fun _ => true) = []) :
    entriesOf (forEach peers (takeEntry c k) s) c (· == .reserveSent) = (freeList s).take peers.length := by
  obtain ⟨entries, others, -, -⟩ := takeEntries_facts c k room
  have taken : ∀ x, x ∈ entriesOf (forEach peers (takeEntry c k) s) c (· == .reserveSent) ↔
      x ∈ (freeList s).take peers.length := fun x => by
    rw [mem_entriesOf]
    refine ⟨fun ⟨e, at_x, own, live, _⟩ => by_contra fun other => ?_, fun listed => ?_⟩
    · have : x ∈ entriesOf s c fun _ => true := mem_entriesOf.mpr ⟨e, (others x other).symm.trans at_x, own, live, rfl⟩
      simp [alone] at this
    · obtain ⟨j, bound, at_j⟩ := List.mem_take_iff_getElem.mp listed
      have few : j < peers.length := by omega
      exact ⟨_, entries j peers[j] x (List.getElem?_eq_getElem few) (by rw [← at_j]; exact List.getElem?_eq_getElem _),
        rfl, by simp [handedEntry], rfl⟩
  exact sublist_ext (List.nodup_finRange 8) List.filter_sublist ((List.take_sublist _ _).trans List.filter_sublist) taken

theorem map_fst_zip {α β : Type} (l : List α) (m : List β) : (l.zip m).map (·.1) = l.take m.length := by
  induction l generalizing m with
  | nil => simp
  | cons a l ih =>
    cases m with
    | nil => rfl
    | cons b m => simp [ih]

theorem mem_zip {α β : Type} {l : List α} {m : List β} {x : α × β} (h : x ∈ l.zip m) :
    ∃ j : Nat, l[j]? = some x.1 ∧ m[j]? = some x.2 := by
  obtain ⟨j, at_j⟩ := List.mem_iff_getElem?.mp h
  exact ⟨j, List.getElem?_zip_eq_some.mp at_j⟩

/-- The transmit channels once a claim has taken one for its peers, or none (R103). -/
def channelTaken (c : ClaimId) (i : SlotId) (n : Nat) (s : State) : Vector (Option TxRecord) 4 :=
  match handOnChannel s i with
  | some k => tset s.peer.tx k (some ⟨c, i, true, n⟩)
  | none => s.peer.tx

/-- A claim has been handed to its peers, and stands as given. -/
structure HandedOn (c : ClaimId) (cl now : Claim) (peers : List PeerRef) (s u : State) : Prop where
  claims : u.claims = { s.claims with table := tset s.claims.table c (some now) }
  entries : ∀ (j : Nat) (p : PeerRef) (x : TagId), peers[j]? = some p → (freeList s)[j]? = some x →
    entryAt u x = some (handedEntry s c (handOnChannel s cl.slot) p)
  others : ∀ x, x ∉ (freeList s).take peers.length → entryAt u x = entryAt s x
  peer : u.peer = { s.peer with file := u.peer.file, tx := channelTaken c cl.slot peers.length s }
  ring : u.ring = (forEach ((freeList s).zip peers) (reserveFrame cl (audioReference s cl.slot)) s).ring
  sent : counterOf u .reservesSent = iterate saturatingSucc peers.length (counterOf s .reservesSent)
  keeps : keepsBut [.ring, .claims, .peer, .counters] s u
  reserving : peers ≠ [] → entriesOf u c (· == .reserveSent) ≠ []

/-- The state of a claim with its entries and its channel, before the frames go out. -/
def entriesTaken (c : ClaimId) (cl : Claim) (peers : List PeerRef) (s : State) : State :=
  modClaim c (fun y => { y with handed := peers.length }) (forEach peers (takeEntry c (handOnChannel s cl.slot))
    (modPeer (fun p => { p with tx := channelTaken c cl.slot peers.length s }) s))

theorem handOnPeers_eq (c : ClaimId) (cl : Claim) (peers : List PeerRef) (s : State) : handOnPeers c cl peers s =
    forEach (entriesOf (entriesTaken c cl peers s) c (· == .reserveSent)) (sendReserve cl (audioReference s cl.slot))
      (entriesTaken c cl peers s) := by
  rw [handOnPeers, entriesTaken, channelTaken]
  cases handOnChannel s cl.slot <;> rfl

/-- The claim, the entries and the channel before the frames go out. -/
structure Taken (c : ClaimId) (cl : Claim) (peers : List PeerRef) (s x : State) : Prop where
  claims : x.claims = { s.claims with table := tset s.claims.table c (some { cl with handed := peers.length }) }
  entries : ∀ (j : Nat) (p : PeerRef) (t : TagId), peers[j]? = some p → (freeList s)[j]? = some t →
    entryAt x t = some (handedEntry s c (handOnChannel s cl.slot) p)
  others : ∀ t, t ∉ (freeList s).take peers.length → entryAt x t = entryAt s t
  peer : x.peer = { s.peer with file := x.peer.file, tx := channelTaken c cl.slot peers.length s }
  tags : entriesOf x c (· == .reserveSent) = (freeList s).take peers.length
  keeps : keepsBut [.claims, .peer] s x

theorem taken_entriesTaken {c : ClaimId} {cl : Claim} {peers : List PeerRef} {s : State} (own : claimAt s c = some cl)
    (room : peers.length ≤ (freeList s).length) (alone : entriesOf s c (fun _ => true) = []) :
    Taken c cl peers s (entriesTaken c cl peers s) := by
  generalize channelled : modPeer (fun p => { p with tx := channelTaken c cl.slot peers.length s }) s = v
  have free : freeList v = freeList s := by rw [← channelled]; rfl
  have none : entriesOf v c (fun _ => true) = [] := by rw [← channelled]; exact alone
  have before : keepsBut [.peer] s v := by rw [← channelled]; exact keepsBut_modPeer _ s
  have files : v.peer = { s.peer with tx := channelTaken c cl.slot peers.length s } := by rw [← channelled]; rfl
  obtain ⟨entries, others, peer, keeps⟩ := takeEntries_facts c (handOnChannel s cl.slot) (peers := peers) (s := v)
    (by rw [free]; exact room)
  have tags := entriesOf_taken (k := handOnChannel s cl.slot) (peers := peers) (s := v) (by rw [free]; exact room) none
  have start : entriesTaken c cl peers s = modClaim c (fun y => { y with handed := peers.length })
      (forEach peers (takeEntry c (handOnChannel s cl.slot)) v) := by rw [entriesTaken, channelled]
  rw [free] at entries others tags
  rw [start]
  generalize forEach peers (takeEntry c (handOnChannel s cl.slot)) v = w at entries others peer keeps tags
  have same : w.claims = s.claims := (keeps .claims (by decide)).trans (before .claims (by decide))
  have at_w : claimAt w c = some cl := by rw [claimAt, same]; exact own
  have handed : ∀ p, handedEntry v c (handOnChannel s cl.slot) p = handedEntry s c (handOnChannel s cl.slot) p := fun p => by
    rw [handedEntry, handedEntry, before .ring (by decide), before .control (by decide)]
  refine ⟨?_, fun j p t at_j free_j => (entries j p t at_j free_j).trans (congrArg some (handed p)),
    fun t other => (others t other).trans (by rw [entryAt, files, entryAt]), ?_, tags, ?_⟩
  · rw [modClaim_of_held _ at_w, same]
  · exact peer.trans (by rw [files]; rfl)
  · exact keepsBut_trans (keepsBut_mono (by simp) before) (keepsBut_trans (keepsBut_mono (by simp) keeps)
      (keepsBut_mono (by simp) (keepsBut_modClaims _ w)))

/-- A claim with room for its peers is handed on to them (R102). -/
theorem handedOn {c : ClaimId} {cl : Claim} {peers : List PeerRef} {s : State} (own : claimAt s c = some cl)
    (room : peers.length ≤ (freeList s).length) (alone : entriesOf s c (fun _ => true) = []) :
    HandedOn c cl { cl with handed := peers.length } peers s (handOnPeers c cl peers s) := by
  obtain ⟨claims, entries, others, peer, tags, keeps⟩ := taken_entriesTaken own room alone
  have zipped : (freeList s).take peers.length = ((freeList s).zip peers).map (·.1) := (map_fst_zip _ _).symm
  have length : ((freeList s).zip peers).length = peers.length := by rw [List.length_zip]; omega
  obtain ⟨ring, sent, kept⟩ := sendReserves_facts cl (audioReference s cl.slot) (l := (freeList s).zip peers)
    (s := entriesTaken c cl peers s) (w := s)
    (fun x hx => by
      obtain ⟨j, free_j, at_j⟩ := mem_zip hx
      exact ⟨_, entries j x.2 x.1 at_j free_j, rfl, rfl⟩)
    (keeps .ring (by decide)) (keeps .control (by decide))
  have eq := handOnPeers_eq c cl peers s
  rw [tags, zipped] at eq
  rw [← eq, length] at sent
  rw [← eq] at ring kept
  have same : (handOnPeers c cl peers s).peer = (entriesTaken c cl peers s).peer := kept .peer (by decide)
  have entry : ∀ t, entryAt (handOnPeers c cl peers s) t = entryAt (entriesTaken c cl peers s) t := fun t => by
    rw [entryAt, same, entryAt]
  refine ⟨(kept .claims (by decide)).trans claims, fun j p t at_j free_j => (entry t).trans (entries j p t at_j free_j),
    fun t other => (entry t).trans (others t other), by rw [same]; exact peer, ring,
    sent.trans (congrArg _ (by rw [counterOf, keeps .counters (by decide), counterOf])),
    keepsBut_trans (keepsBut_mono (by simp) keeps) (keepsBut_mono (by simp) kept), fun some_peer => ?_⟩
  have tags_now : entriesOf (handOnPeers c cl peers s) c (· == .reserveSent) = (freeList s).take peers.length := by
    rw [← tags]
    simp only [entriesOf, entry]
  rw [tags_now]
  intro empty
  have zero := congrArg List.length empty
  rw [List.length_take, List.length_nil] at zero
  have := List.length_pos_of_ne_nil some_peer
  omega

end Sys2Proof.Machine
end

section
namespace Sys2Proof.Machine

-- Declarations are elaborated one at a time: each thread's stack counts against the check's memory limit.
set_option Elab.async false

/-! ### A management start with peers (R90, R101, R102) -/

section
variable {c : ClaimId} {cl now : Claim} {peers : List PeerRef} {s u : State} (h : HandedOn c cl now peers s u)
include h

theorem HandedOn.own : claimAt u c = some now := by
  rw [claimAt, h.claims]
  exact tget_tset_self _ _ _

theorem HandedOn.others_claims (d : ClaimId) (ne : d ≠ c) : claimAt u d = claimAt s d := by
  rw [claimAt, h.claims]
  exact tget_tset_ne _ _ ne.symm

/-- A claim that waits for its peers is one handed on, marked so. -/
theorem HandedOn.waits :
    HandedOn c cl { now with waiting := true } peers s (modClaim c (fun x => { x with waiting := true }) u) := by
  have again : ∀ x : Option Claim, tset (tset s.claims.table c (some now)) c x = tset s.claims.table c x := fun x =>
    table_ext fun d => by
      rw [tget_tset, tget_tset, tget_tset]
      split <;> rfl
  refine ⟨?_, h.entries, h.others, h.peer, h.ring, h.sent,
    keepsBut_trans h.keeps (keepsBut_mono (by simp) (keepsBut_modClaims _ u)), h.reserving⟩
  rw [modClaim_of_held _ h.own, h.claims]
  dsimp only
  rw [again]

/-- The hand-on seen from a state that differs in the claims, the reports and the counters alone. -/
theorem HandedOn.before {b : State} (keeps : keepsBut [.claims, .reports, .counters] b s) :
    (∀ (j : Nat) (p : PeerRef) (x : TagId), peers[j]? = some p → (freeList b)[j]? = some x →
      entryAt u x = some (handedEntry b c (handOnChannel b cl.slot) p)) ∧
    (∀ x, x ∉ (freeList b).take peers.length → entryAt u x = entryAt b x) ∧
    u.peer = { b.peer with file := u.peer.file, tx := channelTaken c cl.slot peers.length b } ∧
    u.ring = (forEach ((freeList b).zip peers) (reserveFrame cl (audioReference b cl.slot)) b).ring := by
  have peer : s.peer = b.peer := keeps .peer (by decide)
  have ring : s.ring = b.ring := keeps .ring (by decide)
  have control : s.control = b.control := keeps .control (by decide)
  have slots : s.slots = b.slots := keeps .slots (by decide)
  have entry : ∀ x, entryAt s x = entryAt b x := fun x => by rw [entryAt, peer, entryAt]
  have free : freeList s = freeList b := by simp only [freeList, entry]
  have tx : freeTx s = freeTx b := by rw [freeTx, freeTx, peer]
  have bound : ∀ i, ringBound s i = ringBound b i := fun i => by rw [ringBound, ringBound, slots]
  have channel : ∀ i, handOnChannel s i = handOnChannel b i := fun i => by rw [handOnChannel, handOnChannel, bound, tx]
  have reference : ∀ i, audioReference s i = audioReference b i := fun i => by
    rw [audioReference, audioReference, slots, ring, tx]
  have handed : ∀ k p, handedEntry s c k p = handedEntry b c k p := fun k p => by
    rw [handedEntry, handedEntry, ring, control]
  have taken : ∀ i n, channelTaken c i n s = channelTaken c i n b := fun i n => by
    rw [channelTaken, channelTaken, channel, peer]
  have frames : ∀ (l : List (TagId × PeerRef)) (v w : State), v.ring = w.ring → v.control = w.control →
      (forEach l (reserveFrame cl (audioReference b cl.slot)) v).ring =
        (forEach l (reserveFrame cl (audioReference b cl.slot)) w).ring := fun l => by
    induction l with
    | nil => exact fun _ _ same _ => same
    | cons x l ih =>
      exact fun v w same both => ih _ _ (sendClaim_ring_congr _ _ same both)
        ((sendClaim_keeps _ _ v .control (by decide)).trans (both.trans (sendClaim_keeps _ _ w .control (by decide)).symm))
  obtain ⟨-, entries, others, files, rings, -, -, -⟩ := h
  rw [free] at entries others rings
  rw [reference] at rings
  refine ⟨fun j p x at_j free_j => (entries j p x at_j free_j).trans (by rw [handed, channel]),
    fun x other => (others x other).trans (entry x), by rw [files, peer, taken], rings.trans (frames _ _ _ ring control)⟩

end

/-- A management claim with peers waits for its chime, or under policy ALL for its peers (R87, R90). -/
theorem handOnClaim_peers {c : ClaimId} {cl : Claim} {peers : List PeerRef} {s : State} (owner : cl.owner = .management)
    (own : claimAt s c = some cl) (some_peer : peers ≠ []) (enough : cl.noPeers = false) (waiting : cl.waiting = false)
    (room : peers.length ≤ (freeList s).length) (alone : entriesOf s c (fun _ => true) = [])
    {waits : Bool} (reason : 0 < cl.timer ∧ waits = false ∨ cl.timer = 0 ∧ waits = true ∧ cl.policy = .all) :
    HandedOn c cl { cl with handed := peers.length, waiting := waits } peers s (handOnClaim c cl peers s) := by
  have handed := handedOn own room alone
  have hands : handOnClaim c cl peers s =
      if cl.timer = 0 then commitDue c (handOnPeers c cl peers s) else handOnPeers c cl peers s := by
    have goes : ¬(peers.isEmpty || cl.noPeers) = true := by simp [enough, some_peer]
    rw [handOnClaim, owner]
    dsimp only
    rw [if_neg goes]
  rcases reason with ⟨timer, rfl⟩ | ⟨timer, rfl, policy⟩
  · rw [hands, if_neg (by omega), ← waiting]
    exact handed
  · rw [hands, if_pos timer, commitDue_waits handed.own policy (handed.reserving some_peer)]
    exact handed.waits

section
variable {r : StartRequest} {rest : List Request} {i : SlotId} {c : ClaimId} {s : State} (quiets : quiet s)
  (run : running s = true) (held : entriesHeld s) (queue : s.claims.queue = .start r :: rest)
  (owner : r.owner = .management) (slot : r.slot = some i) (player : playerOfSlot i = none)
  (free : freeClaim s = some c) (some_peer : requestPeers s r ≠ [])
include quiets run held queue owner slot player free some_peer

omit quiets run held queue owner player free in
theorem peerShort_iff : peerShort s r = !enoughPeers s (requestPeers s r).length (some i) := by
  rw [peerShort, slot]
  simp [some_peer]

/-- A management start whose peers find room is handed on, and waits (R101, R102). -/
theorem management_handed (zones : isNoZones (enabledZones s (requestZones s r)) = false)
    (empty : ∀ z, tget (enabledZones s (requestZones s r)) z = true → listOf s z = [])
    (alone : entriesOf s c (fun _ => true) = [])
    (enough : enoughPeers s (requestPeers s r).length (some i) = true)
    (waits : r.chime = true ∧ 0 < chimeLength s.claims.chimeTable ∨ r.chime = false ∧ r.policy = .all) :
    ∃ t u, exec .claimRequestTake s = .next (claimAnswer r.framed .ok (.claim (some c) none) u) ∧
      Entered c (createdClaim s r i) (!r.chime) (headTaken rest s) t ∧
      HandedOn c (createdClaim s r i)
        { createdClaim s r i with handed := (requestPeers s r).length, waiting := !r.chime } (requestPeers s r) t u ∧
      keepsBut [.claims, .reports, .counters] (headTaken rest s) t := by
  have plain := plainClaim s i (r := r) fun ch => by rw [owner]; simp
  have short : peerShort s r = false := by rw [peerShort_iff slot some_peer, enough]; rfl
  have starts : startClaim r (headTaken rest s) = carryOut c (createdClaim s r i) (requestPeers s r) (headTaken rest s) :=
    startClaim_head rest free (requestSlot_of_some slot) short
  have room : ∀ z, tget (createdClaim s r i).target z = true → (listOf (headTaken rest s) z).length < 4 :=
    room_of_empty fun z target => empty z (plain.target ▸ target)
  have place : claimAt (headTaken rest s) c = none := claimAt_freeClaim (s := s) free
  have entered := entered_of_room (s := headTaken rest s) (!(createdClaim s r i).chime) held place room
  have keeps := entered.keeps
  rw [tellCreated_management _ (plain.owner.trans owner) (by rw [plain.slot]; exact player)] at keeps
  have agree := peersAgree_entered entered
  have timed : 0 < (createdClaim s r i).timer ∧ (!r.chime) = false ∨
      (createdClaim s r i).timer = 0 ∧ (!r.chime) = true ∧ (createdClaim s r i).policy = .all := by
    rw [plain.timer, plain.policy]
    rcases waits with ⟨chime, length⟩ | ⟨chime, policy⟩
    · exact .inl ⟨by rwa [if_pos chime], by rw [chime]; rfl⟩
    · exact .inr ⟨by simp [chime], by rw [chime]; rfl, policy⟩
  have tags : ∀ x, (entryAt (forEach (zonesOf (createdClaim s r i).target) (insertEntry c !(createdClaim s r i).chime)
      (createClaim c (createdClaim s r i) (headTaken rest s))) x) = entryAt s x := fun x => agree.entryAt x
  have handed := handOnClaim_peers (plain.owner.trans owner) entered.own some_peer
    (plain.noPeers.trans short) plain.waiting
    (by simp only [freeList, tags]; exact ((enoughPeers_iff i _ s).mp enough).1)
    ((agree.entriesOf c _).trans alone) timed
  have zoned : isNoZones (createdClaim s r i).target = false := by rw [plain.target]; exact zones
  have carries := carryOut_created (s := headTaken rest s) (peers := requestPeers s r) zoned held place room rfl
    (by rw [handed.own]; rfl)
  have does := exec_management quiets run queue owner (starts.trans carries)
  generalize forEach (zonesOf (createdClaim s r i).target) (insertEntry c !(createdClaim s r i).chime)
    (createClaim c (createdClaim s r i) (headTaken rest s)) = t at entered handed keeps does
  have live : (!(createdClaim s r i).chime) = !r.chime := congrArg _ plain.chime
  rw [live] at entered
  exact ⟨t, _, does, entered, handed, keeps⟩

end

end Sys2Proof.Machine
end

section
namespace Sys2Proof.Machine

-- Declarations are elaborated one at a time: each thread's stack counts against the check's memory limit.
set_option Elab.async false

/-! ### The answers to management starts, case by case (R77, R80, R81, R87, R90, R101 to R103) -/

/-- The counters of a claim that has begun, once its requester has been answered. -/
theorem Begun.counted {also : List Counter} {c : ClaimId} {cl now : Claim} {live : Bool} {gen : ChimeGen} {b u : State}
    (h : Begun also c cl now live gen b u) (framed : Bool) (data : ResultData) :
    counterOf (claimAnswer framed .ok data u) .claimsStarted = saturatingSucc (counterOf b .claimsStarted) ∧
      (framed = false → countsBut (also ++ .claimsStarted :: reportCounts) b (claimAnswer framed .ok data u)) := by
  refine ⟨(counterOf_of_countsBut (claimAnswer_countsBut framed .ok data u) (by decide)).trans h.started, fun plain => ?_⟩
  subst plain
  exact countsBut_trans h.counts (countsBut_of_counters (claimAnswer_counters_unframed rfl data u))

section
variable {r : StartRequest} {rest : List Request} {i : SlotId} {s : State} (quiets : quiet s) (run : running s = true)
  (held : entriesHeld s) (queue : s.claims.queue = .start r :: rest) (owner : r.owner = .management)
  (slot : r.slot = some i) (player : playerOfSlot i = none)
include quiets run queue owner slot player

/-- No place of the table is free (R80). -/
theorem managementStart_busy (full : freeClaim s = none) : ∃ t, exec .claimRequestTake s = .next t ∧
    t.claims = { s.claims with queue := rest } ∧ claimAnswered r .busy .none s t ∧
    counterOf t .requestsBusy = saturatingSucc (counterOf s .requestsBusy) ∧
    (r.framed = false → countsBut [.requestsBusy, .operationsRefused] s t) ∧
    keepsBut [.ring, .claims, .control, .counters] s t := by
  obtain ⟨t, does, claims, answered, busy, -, plain, keeps⟩ := management_busy quiets run queue owner slot player
    (startClaim_noPlace (s := headTaken rest s) r full) rfl (keepsBut_mono (by simp) (headTaken_keeps rest s))
  exact ⟨t, does, claims, answered, busy, plain, keeps⟩

/-- The peers find no room, and the claim wants them all (R101). -/
theorem managementStart_short_all {c : ClaimId} (free : freeClaim s = some c) (short : peerShort s r = true)
    (policy : r.policy = .all) : ∃ t, exec .claimRequestTake s = .next t ∧ t.claims = { s.claims with queue := rest } ∧
      claimAnswered r .busy .none s t ∧
      counterOf t .peerShortage = saturatingSucc (counterOf s .peerShortage) ∧
      counterOf t .requestsBusy = saturatingSucc (counterOf s .requestsBusy) ∧
      keepsBut [.ring, .claims, .control, .counters] s t := by
  have base : keepsBut [.claims, .counters] s (count .peerShortage (headTaken rest s)) :=
    keepsBut_trans (keepsBut_mono (by simp) (headTaken_keeps rest s)) (keepsBut_mono (by simp) (count_keeps _ _))
  have starts := startClaim_short_all (s := headTaken rest s) (c := c) (i := i) free (requestSlot_of_some slot)
    ((peerShort_headTaken rest s r).trans short) policy
  obtain ⟨t, does, claims, answered, busy, counts, -, keeps⟩ :=
    management_busy quiets run queue owner slot player starts rfl base
  have once := count_countsBut (c := .peerShortage) (l := [.peerShortage]) (by simp) (headTaken rest s)
  refine ⟨t, does, claims, answered, (counterOf_of_countsBut counts (by decide)).trans (counterOf_count _ _),
    busy.trans (congrArg _ (counterOf_of_countsBut once (by decide))), keeps⟩

include held

section
variable {c : ClaimId} (free : freeClaim s = some c) (zones : isNoZones (enabledZones s (requestZones s r)) = false)
  (empty : ∀ z, tget (enabledZones s (requestZones s r)) z = true → listOf s z = [])
include free zones empty

/-- The peers find no room, and the claim goes on without them (R101). -/
theorem managementStart_short_best (short : peerShort s r = true) (policy : r.policy = .best) (chime : r.chime = true)
    (length : 0 < chimeLength s.claims.chimeTable) : ∃ t, exec .claimRequestTake s = .next t ∧
      ManagementStarted c (createdClaim s r i) (enabledZones s (requestZones s r)) false ⟨some (0, 0), 0⟩ rest r s t ∧
      counterOf t .peerShortage = saturatingSucc (counterOf s .peerShortage) := by
  have base : keepsBut [.claims, .counters] s (count .peerShortage (headTaken rest s)) :=
    keepsBut_trans (keepsBut_mono (by simp) (headTaken_keeps rest s)) (keepsBut_mono (by simp) (count_keeps _ _))
  have starts := startClaim_short_best (s := headTaken rest s) (c := c) (i := i) free (requestSlot_of_some slot)
    ((peerShort_headTaken rest s r).trans short) policy
  rw [createdClaim_headTaken] at starts
  have plain := plainClaim s i (r := r) fun ch => by rw [owner]; simp
  obtain ⟨u, does, begun, started⟩ := management_waits quiets run held queue owner player free zones empty starts rfl base
    (by rw [plain.noPeers, short, Bool.or_true]) chime length
  exact ⟨_, does, started, (counterOf_of_countsBut (claimAnswer_countsBut r.framed .ok _ u) (by decide)).trans
    ((counterOf_of_countsBut begun.counts (by decide)).trans (counterOf_count _ _))⟩

/-- A claim without peers waits for its chime (R87). -/
theorem managementStart_chimes (noPeers : requestPeers s r = []) (chime : r.chime = true)
    (length : 0 < chimeLength s.claims.chimeTable) : ∃ t, exec .claimRequestTake s = .next t ∧
      ManagementStarted c (createdClaim s r i) (enabledZones s (requestZones s r)) false ⟨some (0, 0), 0⟩ rest r s t ∧
      counterOf t .claimsStarted = saturatingSucc (counterOf s .claimsStarted) ∧
      (r.framed = false → countsBut [.claimsStarted, .reportsCoalesced, .reportsDropped] s t) := by
  obtain ⟨u, does, begun, started⟩ := management_waits quiets run held queue owner player free zones empty
    (startClaim_head rest free (requestSlot_of_some slot) (peerShort_of_noPeers noPeers)) rfl
    (keepsBut_mono (by simp) (headTaken_keeps rest s)) (by rw [noPeers]; rfl) chime length
  exact ⟨_, does, started, begun.counted r.framed _⟩

/-- A claim without peers and without a chime is LIVE at once (R90). -/
theorem managementStart_live (noPeers : requestPeers s r = []) (chime : r.chime = false)
    (alone : entriesOf s c (fun _ => true) = []) : ∃ t, exec .claimRequestTake s = .next t ∧
      ManagementStarted c { createdClaim s r i with state := .live } (enabledZones s (requestZones s r)) true
        s.claims.chimeGen rest r s t ∧
      counterOf t .commitsDone = saturatingSucc (counterOf s .commitsDone) ∧
      (r.framed = false →
        countsBut [.claimsStarted, .commitsDone, .reportsCoalesced, .reportsDropped] s t) := by
  obtain ⟨u, does, begun, done, started⟩ :=
    management_live quiets run held queue owner slot player free zones empty noPeers chime alone
  exact ⟨_, does, started, (counterOf_of_countsBut (claimAnswer_countsBut r.framed .ok _ u) (by decide)).trans done,
    fun plain => countsBut_mono (by decide) ((begun.counted r.framed _).2 plain)⟩

/-- A claim with peers that find room is handed on to them (R101, R102). -/
theorem managementStart_handed (some_peer : requestPeers s r ≠ []) (alone : entriesOf s c (fun _ => true) = [])
    (enough : enoughPeers s (requestPeers s r).length (some i) = true)
    (waits : r.chime = true ∧ 0 < chimeLength s.claims.chimeTable ∨ r.chime = false ∧ r.policy = .all) :
    ∃ t, exec .claimRequestTake s = .next t ∧
      claimAt t c = some { createdClaim s r i with handed := (requestPeers s r).length, waiting := !r.chime } ∧
      (createdClaim s r i).noPeers = false ∧ (∀ d, d ≠ c → claimAt t d = claimAt s d) ∧
      (∀ z, listOf t z = if tget (enabledZones s (requestZones s r)) z = true then [⟨c, !r.chime, true⟩]
        else listOf s z) ∧ t.claims.queue = rest ∧
      (∀ (j : Nat) (p : PeerRef) (x : TagId), (requestPeers s r)[j]? = some p → (freeList s)[j]? = some x →
        entryAt t x = some (handedEntry s c (handOnChannel s i) p)) ∧
      (∀ x : TagId, x ∉ (freeList s).take (requestPeers s r).length → entryAt t x = entryAt s x) ∧
      t.peer = { s.peer with file := t.peer.file, tx := channelTaken c i (requestPeers s r).length s } ∧
      (∃ u, u.control = s.control ∧
        u.ring = (forEach ((freeList s).zip (requestPeers s r))
          (reserveFrame (createdClaim s r i) (audioReference s i)) s).ring ∧
        t.ring = (claimAnswer r.framed .ok (.claim (some c) none) u).ring ∧
        t.control = (claimAnswer r.framed .ok (.claim (some c) none) u).control) ∧
      counterOf t .reservesSent = iterate saturatingSucc (requestPeers s r).length (counterOf s .reservesSent) ∧
      keepsBut [.ring, .claims, .peer, .control, .reports, .counters] s t := by
  have plain := plainClaim s i (r := r) fun ch => by rw [owner]; simp
  obtain ⟨t, u, does, entered, handed, kept⟩ :=
    management_handed quiets run held queue owner slot player free some_peer zones empty alone enough waits
  have base : keepsBut [.claims, .reports, .counters] s t :=
    keepsBut_trans (keepsBut_mono (by simp) (headTaken_keeps rest s)) kept
  obtain ⟨entries, others, peer, ring⟩ := handed.before base
  have answer := claimAnswer_keeps r.framed .ok (.claim (some c) none) u
  have claims : (claimAnswer r.framed .ok (.claim (some c) none) u).claims = u.claims := answer .claims (by simp)
  have files : (claimAnswer r.framed .ok (.claim (some c) none) u).peer = u.peer := answer .peer (by simp)
  have entry : ∀ x, entryAt (claimAnswer r.framed .ok (.claim (some c) none) u) x = entryAt u x := fun x => by
    rw [entryAt, files, entryAt]
  have lists := entered.lists_of_empty fun z target => empty z (plain.target ▸ target)
  refine ⟨_, does, by rw [claimAt, claims]; exact handed.own, ?_, fun d ne => ?_, fun z => ?_, ?_,
    fun j p x at_j free_j => (entry x).trans (entries j p x at_j free_j),
    fun x other => (entry x).trans (others x other), by rw [files]; exact peer,
    ⟨u, (handed.keeps .control (by decide)).trans (base .control (by decide)), ring, rfl, rfl⟩, ?_, ?_⟩
  · rw [plain.noPeers, peerShort_iff slot some_peer, enough]
    rfl
  · rw [claimAt, claims]
    exact (handed.others_claims d ne).trans (entered.others d ne)
  · rw [listOf, claims, handed.claims]
    exact (lists z).trans (by rw [plain.target]; rfl)
  · rw [claims, handed.claims]
    exact entered.queue
  · refine (counterOf_of_countsBut (claimAnswer_countsBut r.framed .ok _ u) (by decide)).trans (handed.sent.trans ?_)
    exact congrArg _ (counterOf_of_countsBut entered.counts (by decide))
  · exact keepsBut_trans (keepsBut_mono (by simp) base) (keepsBut_trans (keepsBut_mono (by simp) handed.keeps)
      (keepsBut_mono (by simp) answer))

end
end

end Sys2Proof.Machine
end

section
namespace Sys2Proof.Machine

-- Declarations are elaborated one at a time: each thread's stack counts against the check's memory limit.
set_option Elab.async false

/-! ### The start of a station page (R80, R135, R136) -/

theorem stationOf_modStation (st x : StationId) (f : Station → Station) (s : State) :
    stationOf (modStation st f s) x = if st = x then f (stationOf s x) else stationOf s x := tget_tmod _ _ _ _

theorem stationOf_congr {s t : State} (h : t.intercom.stations = s.intercom.stations) (x : StationId) :
    stationOf t x = stationOf s x := congrArg (tget · x) h

/-- A slot bound by a rebinding. -/
theorem tget_rebind (b : Binding) (i j : SlotId) (s : State) : tget (rebind b i s).slots j =
    if i = j then (if b = .unbound then unboundSlot (tget s.slots j) else boundSlot b (tget s.slots j))
    else tget s.slots j := tget_tmod _ _ _ _

/-- The page of a station once its claim is told of (R135). -/
def pageHeld (c : ClaimId) (x : Station) : Station := { x with page := x.page.map fun p => { p with claim := some c } }

/-- The owner's part of a station page's creation (R135, R136). -/
theorem tellCreated_station {c : ClaimId} {cl : Claim} {st : StationId} (s : State) (owner : cl.owner = .station st) :
    (∀ j, tget (tellCreated c cl s).slots j =
      if cl.slot = j then boundSlot (.station st) (tget s.slots j) else tget s.slots j) ∧
    (∀ x, stationOf (tellCreated c cl s) x = if st = x then pageHeld c (stationOf s x) else stationOf s x) ∧
    (∀ j, callAt (tellCreated c cl s) j = (callAt s j).map fun y => { y with
      members := y.members.map fun m => if m.1 = st ∧ m.2 = .within then (m.1, .held) else m }) ∧
    keepsBut [.slots, .intercom] s (tellCreated c cl s) := by
  have told : tellCreated c cl s = mapMember st (fun m => if m = .within then .held else m)
      (modStation st (pageHeld c) (rebind (.station st) cl.slot s)) := by
    rw [tellCreated, owner]
    rfl
  rw [told]
  refine ⟨fun j => tget_rebind _ _ _ s, fun x => stationOf_modStation st x (pageHeld c) s, fun j => ?_,
    keepsBut_trans (keepsBut_mono (by simp) (rebind_keeps _ _ s)) (keepsBut_trans
      (keepsBut_mono (by simp) (keepsBut_modIntercom _ _)) (keepsBut_mono (by simp) (keepsBut_modIntercom _ _)))⟩
  rw [callAt, mapMember, modIntercom_intercom]
  dsimp only
  rw [tget_tmap]
  refine congrArg (fun f => Option.map f (callAt s j)) (funext fun y => ?_)
  refine congrArg (fun l => { y with members := l }) (List.map_congr_left fun m _ => ?_)
  by_cases here : m.1 = st
  · by_cases inside : m.2 = .within
    · simp [here, inside]
    · rw [if_pos here, if_neg inside, if_neg fun h => inside h.2]
  · simp [here]

/-- A page refused before its claim is created (R127, R135). -/
theorem pageRefused_facts {st : StationId} {k : KeyId} {latch : Bool} {s : State}
    (page : (stationOf s st).page = some ⟨k, latch, none⟩) :
    stationOf (pageRefused st s) st = { stationOf s st with page := none, flash := tset (stationOf s st).flash k 250 } ∧
    (∀ x, x ≠ st → stationOf (pageRefused st s) x = stationOf s x) ∧
    (∀ j, callAt (pageRefused st s) j = callAt s j) ∧
    reportedOnce .keyRefused (st.val * 8 + k.val) 5 s (pageRefused st s) ∧
    counterOf (pageRefused st s) .keysRefused = saturatingSucc (counterOf s .keysRefused) ∧
    countsBut [.keysRefused, .reportsCoalesced, .reportsDropped] s (pageRefused st s) ∧
    keepsBut [.intercom, .reports, .counters] s (pageRefused st s) := by
  have refused : pageRefused st s = count .keysRefused (flashKey st k
      (report .keyRefused (st.val * 8 + k.val) 5 (setPage st none s))) := by
    rw [pageRefused, page]
    rfl
  have told := report_keeps .keyRefused (st.val * 8 + k.val) 5 (setPage st none s)
  have counts := report_countsBut .keyRefused (st.val * 8 + k.val) 5 (setPage st none s)
  have same := report_reports_congr .keyRefused (st.val * 8 + k.val) 5 (s := s) (t := setPage st none s) rfl rfl rfl
  generalize report .keyRefused (st.val * 8 + k.val) 5 (setPage st none s) = v at refused told counts same
  have intercom : v.intercom = (setPage st none s).intercom := told .intercom (by decide)
  have station : ∀ x, stationOf (pageRefused st s) x =
      if st = x then { stationOf (setPage st none s) x with
        flash := tset (stationOf (setPage st none s) x).flash k 250 } else stationOf (setPage st none s) x := fun x => by
    have plain : stationOf v x = stationOf (setPage st none s) x := stationOf_congr (by rw [intercom]) x
    rw [refused, ← plain]
    exact stationOf_modStation st x _ v
  refine ⟨?_, fun x ne => ?_, fun j => ?_, ?_, ?_, ?_, ?_⟩
  · rw [station, if_pos rfl, setPage, stationOf_modStation, if_pos rfl]
  · rw [station, if_neg ne.symm, setPage, stationOf_modStation, if_neg ne.symm]
  · have calls : (pageRefused st s).intercom.calls = v.intercom.calls := by rw [refused]; rfl
    rw [callAt, calls, intercom]
    rfl
  · rw [reportedOnce, refused]
    exact same
  · rw [refused]
    exact (counterOf_count .keysRefused (flashKey st k v)).trans
      (congrArg _ (counterOf_of_countsBut counts (by decide)))
  · rw [refused]
    exact countsBut_trans (countsBut_mono (by simp) counts) (count_countsBut (by simp) (flashKey st k v))
  · rw [refused]
    exact keepsBut_trans (keepsBut_mono (l := [.intercom]) (by simp) (keepsBut_modIntercom _ s)) (keepsBut_trans
      (keepsBut_mono (by simp) told) (keepsBut_trans (keepsBut_mono (l := [.intercom]) (by simp) (keepsBut_modIntercom _ v))
      (keepsBut_mono (by simp) (count_keeps _ _))))

/-- The station's part of the end of its page by a refusal (R136, R139). -/
theorem tellStation_refused {st : StationId} {c : ClaimId} {k : KeyId} {latch : Bool} {s : State}
    (page : (stationOf s st).page = some ⟨k, latch, some c⟩) (x : StationId) :
    stationOf (tellStation st c .refused s) x = if st = x then
      { stationOf s x with page := none, flash := tset (stationOf s x).flash k 250 } else stationOf s x := by
  have flashes : flashPage st c s = flashKey st k s := by
    rw [flashPage, page]
    exact if_pos rfl
  have told : (tellStation st c .refused s).intercom.stations = (modStation st (fun x =>
      { x with page := match x.page with
        | some p => if p.claim = some c then none else some p
        | none => none }) (flashKey st k s)).intercom.stations := by
    rw [← flashes]
    rfl
  rw [stationOf_congr told, stationOf_modStation]
  have flashed : ∀ y, stationOf (flashKey st k s) y =
      if st = y then { stationOf s y with flash := tset (stationOf s y).flash k 250 } else stationOf s y :=
    fun y => stationOf_modStation st y _ s
  rw [flashed]
  by_cases here : st = x
  · subst here
    simp [page]
  · simp [here]

/-- The end of a station's claim unbinds its slot, and tells the station and its peers (R91, R136). -/
theorem endClaim_station {c : ClaimId} {cl : Claim} {st : StationId} {s : State} (reason : EndReason)
    (held : claimAt s c = some cl) (owner : cl.owner = .station st) :
    (endClaim reason c s).slots = (rebind .unbound cl.slot s).slots ∧
      (∃ v : State, v.intercom = s.intercom ∧ (endClaim reason c s).intercom = (tellStation st c reason v).intercom) ∧
      keepsBut [.ring, .slots, .claims, .peer, .intercom, .reports, .counters] s (endClaim reason c s) := by
  have slot : releaseSlot c cl reason (unlistedBy (reason == .reset) c s) =
      rebind .unbound cl.slot (unlistedBy (reason == .reset) c s) := by rw [releaseSlot, owner]
  have told : tellOwner c cl reason (vacated reason c cl s) = releasePeers c (tellStation st c reason (vacated reason c cl s)) := by
    rw [tellOwner, owner]
  have vacates : keepsBut [.slots, .claims, .reports, .counters] s (vacated reason c cl s) := by
    rw [vacated, slot]
    exact keepsBut_trans (keepsBut_mono (by simp) (unlistedBy_keeps _ c s)) (keepsBut_trans
      (keepsBut_mono (by simp) (rebind_keeps _ _ _)) (keepsBut_mono (by simp) (keepsBut_modClaims _ _)))
  have slots : (vacated reason c cl s).slots = (rebind .unbound cl.slot s).slots := by
    rw [vacated, slot, freed, modClaims_slots, rebind, modSlot, modSlots_slots, unlistedBy_keeps _ _ _ .slots (by decide)]
    rfl
  have hears := tellStation_intercom st c reason (vacated reason c cl s)
  have released := releasePeers_keeps c (tellStation st c reason (vacated reason c cl s))
  rw [endClaim_of_held reason held, told]
  refine ⟨?_, ⟨vacated reason c cl s, vacates .intercom (by decide), ?_⟩, ?_⟩
  · rw [reportUnless_keeps _ _ _ _ _ .slots (by decide), released .slots (by decide), hears .slots (by decide), slots]
  · rw [reportUnless_keeps _ _ _ _ _ .intercom (by decide), released .intercom (by decide)]
  · exact keepsBut_trans (keepsBut_mono (by simp) vacates) (keepsBut_trans (keepsBut_mono (by simp) hears)
      (keepsBut_trans (keepsBut_mono (by simp) released) (keepsBut_mono (by simp) (reportUnless_keeps _ _ _ _ _))))

end Sys2Proof.Machine
end

section
namespace Sys2Proof.Machine

-- Declarations are elaborated one at a time: each thread's stack counts against the check's memory limit.
set_option Elab.async false

/-! ### The answers to station pages, case by case (R80, R127, R135, R136) -/

/-- A station slot is no player's. -/
theorem playerOfSlot_of_freeStationSlot {s : State} {i : SlotId} (h : freeStationSlot s = some i) :
    playerOfSlot i = none :=
  (by decide : ∀ j ∈ stationSlots, playerOfSlot j = none) i (List.mem_of_find?_eq_some h)

/-- What a station page's claim leaves of its station, its slot and its calls once it has begun (R135, R136). -/
structure PageBegun (st : StationId) (k : KeyId) (latch : Bool) (c : ClaimId) (i : SlotId) (rest : List Request)
    (s t : State) : Prop where
  others : ∀ d, d ≠ c → claimAt t d = claimAt s d
  queue : t.claims.queue = rest
  slot : tget t.slots i = boundSlot (.station st) (tget s.slots i)
  slots : ∀ j, j ≠ i → tget t.slots j = tget s.slots j
  page : stationOf t st = { stationOf s st with page := some ⟨k, latch, some c⟩ }
  stations : ∀ x, x ≠ st → stationOf t x = stationOf s x
  calls : ∀ j, callAt t j = (callAt s j).map fun x => { x with
    members := x.members.map fun m => if m.1 = st ∧ m.2 = .within then (m.1, .held) else m }
  started : counterOf t .claimsStarted = saturatingSucc (counterOf s .claimsStarted)
  keeps : keepsBut [.slots, .claims, .intercom, .reports, .counters] s t

theorem Begun.page {also : List Counter} {c : ClaimId} {cl now : Claim} {live : Bool} {gen : ChimeGen} {s u : State}
    {rest : List Request} {st : StationId} {k : KeyId} {latch : Bool}
    (h : Begun also c cl now live gen (headTaken rest s) u) (owner : cl.owner = .station st)
    (page : (stationOf s st).page = some ⟨k, latch, none⟩) : PageBegun st k latch c cl.slot rest s u := by
  obtain ⟨slots, stations, calls, told⟩ := tellCreated_station (c := c) (headTaken rest s) owner
  have sameSlots : u.slots = (tellCreated c cl (headTaken rest s)).slots := h.keeps .slots (by decide)
  have intercom : u.intercom = (tellCreated c cl (headTaken rest s)).intercom := h.keeps .intercom (by decide)
  have station : ∀ x, stationOf u x = if st = x then pageHeld c (stationOf s x) else stationOf s x := fun x =>
    (stationOf_congr (by rw [intercom]) x).trans (stations x)
  refine ⟨h.others, h.queue, ?_, fun j ne => ?_, ?_, fun x ne => by rw [station, if_neg ne.symm], fun j => ?_, h.started, ?_⟩
  · rw [sameSlots, slots, if_pos rfl]
    rfl
  · rw [sameSlots, slots, if_neg ne.symm]
    rfl
  · rw [station, if_pos rfl, pageHeld, page]
    rfl
  · rw [callAt, intercom]
    exact calls j
  · exact keepsBut_trans (keepsBut_mono (by simp) (headTaken_keeps rest s)) (keepsBut_trans (keepsBut_mono (by simp) told)
      (keepsBut_mono (by simp) h.keeps))

section
variable {r : StartRequest} {rest : List Request} {st : StationId} {k : KeyId} {latch : Bool} {s : State}
  (quiets : quiet s) (run : running s = true) (held : entriesHeld s) (queue : s.claims.queue = .start r :: rest)
  (owner : r.owner = .station st) (slot : r.slot = none) (page : (stationOf s st).page = some ⟨k, latch, none⟩)
include quiets run queue owner slot page

/-- A page that finds no place or no slot ends PAGE-BUSY (R80, R135). -/
theorem pageStart_busy (full : freeClaim s = none ∨ freeStationSlot s = none) : ∃ t, exec .claimRequestTake s = .next t ∧
    t.claims = { s.claims with queue := rest } ∧
    stationOf t st = { stationOf s st with page := none, flash := tset (stationOf s st).flash k 250 } ∧
    (∀ x, x ≠ st → stationOf t x = stationOf s x) ∧ (∀ j, callAt t j = callAt s j) ∧
    reportedOnce .keyRefused (st.val * 8 + k.val) 5 s t ∧
    counterOf t .requestsBusy = saturatingSucc (counterOf s .requestsBusy) ∧
    counterOf t .keysRefused = saturatingSucc (counterOf s .keysRefused) ∧
    countsBut [.requestsBusy, .keysRefused, .reportsCoalesced, .reportsDropped] s t ∧
    keepsBut [.claims, .intercom, .reports, .counters] s t := by
  have starts : startClaim r (headTaken rest s) = startBusy (headTaken rest s) := by
    rcases full with place | channel
    · exact startClaim_noPlace r place
    · exact startClaim_noSlot (by rw [requestSlot, slot]; exact channel)
  have does : exec .claimRequestTake s = .next (pageRefused st (count .requestsBusy (headTaken rest s))) := by
    rw [exec_takeStart quiets run queue, starts, answerStart, owner]
    rfl
  have busy := count_countsBut (c := .requestsBusy) (l := [.requestsBusy]) (by simp) (headTaken rest s)
  obtain ⟨own, others, calls, told, refused, counts, keeps⟩ :=
    pageRefused_facts (s := count .requestsBusy (headTaken rest s)) page
  refine ⟨_, does, (keeps .claims (by decide)).trans rfl, own, others, calls, ?_,
    (counterOf_of_countsBut counts (by decide)).trans (counterOf_count _ _),
    refused.trans (congrArg _ (counterOf_of_countsBut busy (by decide))),
    countsBut_trans (countsBut_mono (by simp) busy) (countsBut_mono (by simp) counts), ?_⟩
  · exact told.trans (report_reports_congr _ _ _ rfl rfl rfl)
  · exact keepsBut_trans (keepsBut_mono (by simp) (headTaken_keeps rest s)) (keepsBut_trans
      (keepsBut_mono (by simp) (count_keeps _ _)) (keepsBut_mono (by simp) keeps))

section
variable (noPeers : requestPeers s r = []) {c : ClaimId} {i : SlotId} (free : freeClaim s = some c)
  (channel : freeStationSlot s = some i)
include held noPeers free channel

omit quiets run held queue owner page in
theorem pageStart_starts : startClaim r (headTaken rest s) =
    carryOut c (createdClaim s r i) (requestPeers s r) (headTaken rest s) :=
  startClaim_head rest free (by rw [requestSlot, slot]; exact channel) (peerShort_of_noPeers noPeers)

omit held slot page noPeers free channel in
theorem exec_page {o : Started} {u : State} (starts : startClaim r (headTaken rest s) = (o, u)) (begun : o ≠ .busy) :
    exec .claimRequestTake s = .next u := by
  rw [exec_takeStart quiets run queue, starts, answerStart, owner]
  cases o with
  | busy => exact absurd rfl begun
  | created c => rfl
  | ended c reason n => rfl

/-- A page none of whose zones is enabled ends REFUSED (R81, R136, R139). -/
theorem pageStart_noZones (nothing : isNoZones (enabledZones s (requestZones s r)) = true) :
    ∃ t, exec .claimRequestTake s = .next t ∧
      (∀ d, claimAt t d = claimAt s d) ∧ (∀ z, listOf t z = listOf s z) ∧ t.claims.queue = rest ∧
      tget t.slots i = unboundSlot (tget s.slots i) ∧ (∀ j, j ≠ i → tget t.slots j = tget s.slots j) ∧
      stationOf t st = { stationOf s st with page := none, flash := tset (stationOf s st).flash k 250 } ∧
      (∀ x, x ≠ st → stationOf t x = stationOf s x) ∧ recorded .claimEnd c.val 3 s t ∧
      keepsBut [.ring, .slots, .claims, .peer, .intercom, .reports, .counters] s t := by
  have plain := plainClaim s i (r := r) fun ch => by rw [owner]; simp
  have starts := pageStart_starts (rest := rest) slot noPeers free channel
  rw [carryOut_noZones _ _ (by rw [plain.target]; exact nothing)] at starts
  have does := exec_page quiets run queue owner starts (by simp)
  obtain ⟨table, lists, taken⟩ := endCreated_claims (s := headTaken rest s) (cl := createdClaim s r i) held
    (claimAt_freeClaim (s := s) free) .refused
  have made := endCreated_recorded (s := headTaken rest s) (c := c) (cl := createdClaim s r i) (addressed_of_running run)
  obtain ⟨slots, stations, -, told⟩ :=
    tellCreated_station (c := c) (cl := createdClaim s r i) (headTaken rest s) (plain.owner.trans owner)
  have own : claimAt (createClaim c (createdClaim s r i) (headTaken rest s)) c = some (createdClaim s r i) := by
    rw [claimAt_createClaim, if_pos rfl]
  obtain ⟨freed, ⟨v, before, after⟩, ended⟩ := endClaim_station .refused own (plain.owner.trans owner)
  have created := createClaim_keeps c (createdClaim s r i) (headTaken rest s)
  generalize createClaim c (createdClaim s r i) (headTaken rest s) = b at *
  generalize endClaim .refused c b = u at *
  have station : ∀ x, stationOf v x = if st = x then pageHeld c (stationOf s x) else stationOf s x := fun x =>
    (stationOf_congr (by rw [before, created .intercom (by decide)]) x).trans (stations x)
  have paged : (stationOf v st).page = some ⟨k, latch, some c⟩ := by
    rw [station, if_pos rfl, pageHeld, page]
    rfl
  have finally_ : ∀ x, stationOf u x = if st = x then
      { stationOf v x with page := none, flash := tset (stationOf v x).flash k 250 } else stationOf v x := fun x =>
    (stationOf_congr (by rw [after]) x).trans (tellStation_refused paged x)
  have slotted : ∀ j, tget u.slots j = if i = j then unboundSlot (tget s.slots j) else tget s.slots j := fun j => by
    rw [freed, tget_rebind, created .slots (by decide), slots, plain.slot]
    split <;> rfl
  refine ⟨_, does, table, lists, taken, by rw [slotted, if_pos rfl], fun j ne => by rw [slotted, if_neg ne.symm],
    ?_, fun x ne => ?_, made, ?_⟩
  · rw [finally_, if_pos rfl, station, if_pos rfl]
    rfl
  · rw [finally_, if_neg ne.symm, station, if_neg ne.symm]
  · exact keepsBut_trans (keepsBut_mono (by simp) (headTaken_keeps rest s)) (keepsBut_trans (keepsBut_mono (by simp) told)
      (keepsBut_trans (keepsBut_mono (by simp) created) (keepsBut_mono (by simp) ended)))

section
variable (zones : isNoZones (enabledZones s (requestZones s r)) = false)
  (empty : ∀ z, tget (enabledZones s (requestZones s r)) z = true → listOf s z = [])
include zones empty

/-- A page with a chime waits for it (R87). -/
theorem pageStart_chimes (chime : r.chime = true) (length : 0 < chimeLength s.claims.chimeTable) :
    ∃ t, exec .claimRequestTake s = .next t ∧ PageBegun st k latch c i rest s t ∧
      claimAt t c = some (createdClaim s r i) ∧
      (∀ z, listOf t z = if tget (enabledZones s (requestZones s r)) z = true then [⟨c, false, true⟩] else listOf s z) ∧
      t.claims.chimeGen = ⟨some (0, 0), 0⟩ ∧ countsBut [.claimsStarted, .reportsCoalesced, .reportsDropped] s t := by
  have plain := plainClaim s i (r := r) fun ch => by rw [owner]; simp
  have chimes : (createdClaim s r i).chime = true ∧ 0 < (createdClaim s r i).timer := by
    rw [plain.chime, plain.timer, if_pos chime]
    exact ⟨chime, length⟩
  obtain ⟨u, carries, begun⟩ := carryOut_waits (c := c) (peers := requestPeers s r) (s := headTaken rest s)
    (by rw [plain.target]; exact zones) held (claimAt_freeClaim (s := s) free)
    (fun z target => empty z (plain.target ▸ target)) (by rw [plain.owner, owner]; rfl) (by rw [noPeers]; rfl) chimes
  have first : isNote (headTaken rest s).claims.chimeTable 0 = true := isNote_first length
  rw [first, if_pos rfl, plain.chime, chime] at begun
  have paged := begun.page (plain.owner.trans owner) page
  have lists := begun.lists
  rw [plain.slot] at paged
  rw [plain.target] at lists
  exact ⟨u, exec_page quiets run queue owner ((pageStart_starts slot noPeers free channel).trans carries) (by simp), paged,
    begun.own, lists, begun.gen, begun.counts⟩

/-- A page without a chime is LIVE at once (R90). -/
theorem pageStart_live (alone : entriesOf s c (fun _ => true) = [])
    (silent : r.chime = false ∨ chimeLength s.claims.chimeTable = 0) :
    ∃ t, exec .claimRequestTake s = .next t ∧ PageBegun st k latch c i rest s t ∧
      claimAt t c = some { createdClaim s r i with state := .live } ∧
      (∀ z, listOf t z = if tget (enabledZones s (requestZones s r)) z = true then [⟨c, true, true⟩] else listOf s z) ∧
      t.claims.chimeGen = s.claims.chimeGen ∧
      counterOf t .commitsDone = saturatingSucc (counterOf s .commitsDone) ∧
      countsBut [.claimsStarted, .commitsDone, .reportsCoalesced, .reportsDropped] s t := by
  have plain := plainClaim s i (r := r) fun ch => by rw [owner]; simp
  have timer : (createdClaim s r i).timer = 0 := by
    rw [plain.timer]
    rcases silent with chime | length
    · rw [chime]; rfl
    · rw [length, ite_self]
  obtain ⟨u, carries, begun, done⟩ := carryOut_live (c := c) (peers := requestPeers s r) (s := headTaken rest s)
    (by rw [plain.target]; exact zones) held (claimAt_freeClaim (s := s) free)
    (fun z target => empty z (plain.target ▸ target)) plain.handed plain.lost
    (plain.noPeers.trans (peerShort_of_noPeers noPeers))
    (by rw [plain.slot]; exact playerOfSlot_of_freeStationSlot channel) alone timer
    (fun t => (handOnClaim_alone t (by rw [plain.owner, owner]; rfl) (by rw [noPeers]; rfl)).trans (if_pos timer))
  have paged := begun.page (plain.owner.trans owner) page
  have lists := begun.lists
  rw [plain.slot] at paged
  rw [plain.target] at lists
  exact ⟨u, exec_page quiets run queue owner ((pageStart_starts slot noPeers free channel).trans carries) (by simp), paged,
    begun.own, lists, begun.gen, done, countsBut_mono (by decide) begun.counts⟩

end
end
end

end Sys2Proof.Machine
end

section
namespace Sys2Proof.Machine

-- Declarations are elaborated one at a time: each thread's stack counts against the check's memory limit.
set_option Elab.async false

/-! ### The START and the GAIN of an alarm channel (R94, R154, R155) -/

/-- The channel's request has been answered, with no zones owed to it. -/
def requestClosed (ch : ChanId) (s : State) : State :=
  modChannel ch (fun x => { x with request := .none, owed := noZones }) s

theorem requestAnswered_of_none {ch : ChanId} {s : State} (owed : (channelOf s ch).owed = noZones) :
    requestAnswered ch s = requestClosed ch s := by
  rw [requestAnswered, owed]
  exact if_pos (by decide)

theorem channelOf_requestClosed {ch : ChanId} {s : State} (owed : (channelOf s ch).owed = noZones) (k : ChanId) :
    channelOf (requestClosed ch s) k = if ch = k then { channelOf s k with request := .none } else channelOf s k := by
  rw [requestClosed, channelOf_modChannel]
  split
  · next same => rw [← same, ← owed]
  · rfl

theorem requestClosed_keeps (ch : ChanId) (s : State) : keepsBut [.alarm] s (requestClosed ch s) := keepsBut_modAlarm _ s

/-- A channel's slot depends on the alarm sequencer alone, and not on the channel's claim. -/
theorem channelSlot_congr {s t : State} {ch : ChanId} {claim : Option ClaimId}
    (own : channelOf t ch = { channelOf s ch with claim := claim }) (programs : t.alarm.programs = s.alarm.programs) :
    channelSlot t ch = channelSlot s ch := by
  have steps : ∀ k, stepAt t ch k = stepAt s ch k := fun k => by
    simp only [stepAt, own, programOf, programs]
  have clip : atClip t ch = atClip s ch := by rw [atClip, atClip, steps, own]
  rw [channelSlot, channelSlot, clip]

/-- The channels of an alarm START once its claim has been created (R154). -/
theorem tellCreated_alarm {c : ClaimId} {cl : Claim} {ch : ChanId} (s : State) (owner : cl.owner = .alarm ch) :
    tellCreated c cl s = modChannel ch (fun x => { x with claim := some c }) s := by rw [tellCreated, owner]

/-- The claim of an alarm START, as it is created (R154). -/
structure AlarmClaim (s : State) (r : StartRequest) (i : SlotId) : Prop where
  owner : (createdClaim s r i).owner = r.owner
  target : (createdClaim s r i).target = enabledZones s (requestZones s r)
  chime : (createdClaim s r i).chime = false
  timer : (createdClaim s r i).timer = 0
  state : (createdClaim s r i).state = .live
  priority : (createdClaim s r i).priority = 7

theorem alarmClaim {r : StartRequest} (s : State) (i : SlotId) {ch : ChanId} (owner : r.owner = .alarm ch) :
    AlarmClaim s r i := by
  constructor <;> simp [createdClaim, owner]

/-- The end of an alarm claim takes it from its channel, and leaves the slots and the ring (R91). -/
theorem endClaim_alarm_facts {c : ClaimId} {cl : Claim} {ch : ChanId} {s : State} (reason : EndReason)
    (held : claimAt s c = some cl) (owner : cl.owner = .alarm ch) :
    (endClaim reason c s).alarm = (modChannel ch (fun x =>
      { x with claim := if x.claim = some c then none else x.claim }) s).alarm ∧
    keepsBut [.claims, .alarm, .reports, .counters] s (endClaim reason c s) := by
  have slot : releaseSlot c cl reason (unlistedBy (reason == .reset) c s) = unlistedBy (reason == .reset) c s := by
    rw [releaseSlot, owner]
  have vacates : keepsBut [.claims, .reports, .counters] s (vacated reason c cl s) := by
    rw [vacated, slot]
    exact keepsBut_trans (unlistedBy_keeps _ c s) (keepsBut_mono (by simp) (keepsBut_modClaims _ _))
  rw [endClaim_of_held reason held, tellOwner, owner]
  refine ⟨?_, keepsBut_trans (keepsBut_mono (by simp) vacates) (keepsBut_trans
    (keepsBut_mono (l := [.alarm]) (by simp) (keepsBut_modAlarm _ _)) (keepsBut_mono (by simp) (reportUnless_keeps _ _ _ _ _)))⟩
  rw [reportUnless_keeps _ _ _ _ _ .alarm (by decide)]
  dsimp only
  rw [modChannel, modAlarm_alarm, vacates .alarm (by decide)]
  rfl

theorem channelOf_congr {s t : State} (h : t.alarm = s.alarm) (k : ChanId) : channelOf t k = channelOf s k := by
  rw [channelOf, h, channelOf]

section
variable {r : StartRequest} {rest : List Request} {ch : ChanId} {i : SlotId} {s : State} (quiets : quiet s)
  (run : running s = true) (held : entriesHeld s) (queue : s.claims.queue = .start r :: rest) (owner : r.owner = .alarm ch)
  (slot : r.slot = some i) (claimless : (channelOf s ch).claim = none) (owed : (channelOf s ch).owed = noZones)
include quiets run queue owner slot claimless owed

omit slot claimless owed in
theorem exec_alarm {o : Started} {u : State} (starts : startClaim r (headTaken rest s) = (o, u)) :
    exec .claimRequestTake s = .next (requestAnswered ch (rewriteSlot ch u)) := by
  rw [exec_takeStart quiets run queue, starts, answerStart, owner]

omit slot claimless owed in
/-- Where the channel is left without a claim its request is answered, and no more. -/
theorem exec_alarm_claimless {o : Started} {u : State} (starts : startClaim r (headTaken rest s) = (o, u))
    (none : (channelOf u ch).claim = none) (nothing : (channelOf u ch).owed = noZones) :
    exec .claimRequestTake s = .next (requestClosed ch u) := by
  rw [exec_alarm quiets run queue owner starts, rewriteSlot, none, requestAnswered_of_none nothing]

omit slot in
theorem alarmStart_busy (full : freeClaim s = none) : ∃ t, exec .claimRequestTake s = .next t ∧
    t.claims = { s.claims with queue := rest } ∧
    channelOf t ch = { channelOf s ch with request := .none } ∧ (∀ x, x ≠ ch → channelOf t x = channelOf s x) ∧
    countsOne .requestsBusy s t ∧ keepsBut [.claims, .alarm, .counters] s t := by
  have does := exec_alarm_claimless quiets run queue owner
    (startClaim_noPlace (s := headTaken rest s) r full) claimless owed
  have channels := channelOf_requestClosed (s := count .requestsBusy (headTaken rest s)) owed
  refine ⟨_, does, rfl, (channels ch).trans (if_pos rfl), fun x ne => (channels x).trans (if_neg ne.symm),
    ⟨counterOf_count .requestsBusy (headTaken rest s), count_countsBut (by simp) (headTaken rest s)⟩, ?_⟩
  exact keepsBut_trans (keepsBut_mono (by simp) (headTaken_keeps rest s)) (keepsBut_trans
    (keepsBut_mono (by simp) (count_keeps .requestsBusy _)) (keepsBut_mono (by simp) (requestClosed_keeps ch _)))

variable {c : ClaimId} (free : freeClaim s = some c)
include held free

omit quiets run held queue claimless owed in
theorem alarmStart_starts : startClaim r (headTaken rest s) =
    carryOut c (createdClaim s r i) (requestPeers s r) (headTaken rest s) :=
  startClaim_head rest free (requestSlot_of_some slot) (peerShort_of_noPeers (by rw [requestPeers, owner]; rfl))

/-- A START none of whose zones is enabled ends REFUSED (R81). -/
theorem alarmStart_noZones (nothing : isNoZones (enabledZones s (requestZones s r)) = true) :
    ∃ t, exec .claimRequestTake s = .next t ∧
      (∀ d, claimAt t d = claimAt s d) ∧ (∀ z, listOf t z = listOf s z) ∧ t.claims.queue = rest ∧
      channelOf t ch = { channelOf s ch with request := .none } ∧ (∀ x, x ≠ ch → channelOf t x = channelOf s x) ∧
      recorded .claimEnd c.val 3 s t ∧ keepsBut [.claims, .alarm, .reports, .counters] s t := by
  have alarm := alarmClaim s i owner
  have starts := alarmStart_starts (rest := rest) owner slot free
  rw [carryOut_noZones _ _ (by rw [alarm.target]; exact nothing)] at starts
  obtain ⟨table, lists, taken⟩ := endCreated_claims (s := headTaken rest s) (cl := createdClaim s r i) held
    (claimAt_freeClaim (s := s) free) .refused
  have made := endCreated_recorded (s := headTaken rest s) (c := c) (cl := createdClaim s r i) (addressed_of_running run)
  have own : claimAt (createClaim c (createdClaim s r i) (headTaken rest s)) c = some (createdClaim s r i) := by
    rw [claimAt_createClaim, if_pos rfl]
  obtain ⟨ended, kept⟩ := endClaim_alarm_facts .refused own (alarm.owner.trans owner)
  have created := createClaim_keeps c (createdClaim s r i) (headTaken rest s)
  rw [tellCreated_alarm (headTaken rest s) (alarm.owner.trans owner)] at created
  generalize createClaim c (createdClaim s r i) (headTaken rest s) = b at *
  generalize endClaim .refused c b = u at *
  have told : keepsBut [.alarm] (headTaken rest s) (modChannel ch (fun x => { x with claim := some c }) (headTaken rest s)) :=
    keepsBut_modAlarm _ _
  have channels : ∀ x, channelOf u x = channelOf s x := fun x => by
    rw [channelOf_congr ended, channelOf_modChannel, channelOf_congr (created .alarm (by decide)), channelOf_modChannel]
    split
    · next same =>
      subst same
      change { channelOf s ch with claim := if some c = some c then none else some c } = channelOf s ch
      rw [if_pos rfl, ← claimless]
    · rfl
  have does := exec_alarm_claimless quiets run queue owner starts (by rw [channels]; exact claimless)
    (by rw [channels]; exact owed)
  have closed := channelOf_requestClosed (s := u) (ch := ch) (by rw [channels]; exact owed)
  have plain := requestClosed_keeps ch u
  refine ⟨_, does, table, lists, taken, ?_, fun x ne => ?_, made, ?_⟩
  · rw [closed, if_pos rfl, channels]
  · rw [closed, if_neg ne.symm, channels]
  · exact keepsBut_trans (keepsBut_mono (by simp) (headTaken_keeps rest s)) (keepsBut_trans (keepsBut_mono (by simp) told)
      (keepsBut_trans (keepsBut_mono (by simp) created) (keepsBut_trans (keepsBut_mono (by simp) kept)
      (keepsBut_mono (by simp) plain))))

omit claimless in
/-- A START whose zones have room is LIVE at once, in its place of every list (R154, R155). -/
theorem alarmStart_live (zones : isNoZones (enabledZones s (requestZones s r)) = false)
    (room : ∀ z, tget (enabledZones s (requestZones s r)) z = true → (listOf s z).length < 4) :
    ∃ t, exec .claimRequestTake s = .next t ∧
      claimAt t c = some { createdClaim s r i with slot := channelSlot s ch } ∧
      (createdClaim s r i).state = .live ∧ (createdClaim s r i).priority = 7 ∧
      (∀ d, d ≠ c → claimAt t d = claimAt s d) ∧
      (∀ z, listOf t z = if tget (enabledZones s (requestZones s r)) z = true
        then inserted s.claims.table c (createdClaim s r i) true (listOf s z) else listOf s z) ∧
      t.claims.queue = rest ∧ channelOf t ch = { channelOf s ch with claim := some c, request := .none } ∧
      (∀ x, x ≠ ch → channelOf t x = channelOf s x) ∧
      counterOf t .claimsStarted = saturatingSucc (counterOf s .claimsStarted) ∧
      countsBut [.claimsStarted, .reportsCoalesced, .reportsDropped] s t ∧
      keepsBut [.claims, .alarm, .reports, .counters] s t := by
  have alarm := alarmClaim s i owner
  have roomy : ∀ z, tget (createdClaim s r i).target z = true → (listOf (headTaken rest s) z).length < 4 :=
    fun z target => room z (alarm.target ▸ target)
  have place : claimAt (headTaken rest s) c = none := claimAt_freeClaim (s := s) free
  have entered := entered_of_room (s := headTaken rest s) (!(createdClaim s r i).chime) held place roomy
  have stays : ∀ t, handOnClaim c (createdClaim s r i) (requestPeers s r) t = t := fun t => by
    rw [handOnClaim, alarm.owner, owner]
  have carries := carryOut_created (s := headTaken rest s) (peers := requestPeers s r)
    (by rw [alarm.target]; exact zones) held place roomy (stays _) (by rw [entered.own]; rfl)
  have does := exec_alarm quiets run queue owner ((alarmStart_starts owner slot free).trans carries)
  generalize forEach (zonesOf (createdClaim s r i).target) (insertEntry c !(createdClaim s r i).chime)
    (createClaim c (createdClaim s r i) (headTaken rest s)) = u at entered does
  have live : (!(createdClaim s r i).chime) = true := by rw [alarm.chime]; rfl
  rw [live] at entered
  have keeps := entered.keeps
  rw [tellCreated_alarm (headTaken rest s) (alarm.owner.trans owner)] at keeps
  have told : keepsBut [.alarm] (headTaken rest s) (modChannel ch (fun x => { x with claim := some c }) (headTaken rest s)) :=
    keepsBut_modAlarm _ _
  have channels : ∀ x, channelOf u x = if ch = x then { channelOf s x with claim := some c } else channelOf s x := fun x =>
    (channelOf_congr (keeps .alarm (by decide)) x).trans (channelOf_modChannel _ _ _ _)
  have own : channelOf u ch = { channelOf s ch with claim := some c } := (channels ch).trans (if_pos rfl)
  have slots : channelSlot u ch = channelSlot s ch := channelSlot_congr own (by rw [keeps .alarm (by decide)]; rfl)
  have rewrites : rewriteSlot ch u = modClaim c (fun x => { x with slot := channelSlot s ch }) u := by
    rw [rewriteSlot, own, slots]
  have owed_u : (channelOf u ch).owed = noZones := by rw [own]; exact owed
  rw [rewrites, requestAnswered_of_none (s := modClaim c (fun x => { x with slot := channelSlot s ch }) u) owed_u] at does
  have closed := channelOf_requestClosed (s := modClaim c (fun x => { x with slot := channelSlot s ch }) u) owed_u
  have written := modClaim_of_held (fun x => { x with slot := channelSlot s ch }) entered.own
  have claims : (requestClosed ch (modClaim c (fun x => { x with slot := channelSlot s ch }) u)).claims = _ := written
  refine ⟨_, does, ?_, alarm.state, alarm.priority, fun d ne => ?_, fun z => ?_, ?_, ?_, fun x ne => ?_, entered.started,
    entered.counts, ?_⟩
  · rw [claimAt, claims]
    exact tget_tset_self _ _ _
  · rw [claimAt, claims]
    exact (tget_tset_ne _ _ ne.symm).trans (entered.others d ne)
  · rw [listOf, claims]
    exact (entered.lists z).trans (by rw [alarm.target]; rfl)
  · rw [claims]
    exact entered.queue
  · rw [closed, if_pos rfl]
    exact congrArg (fun x => { x with request := .none }) own
  · rw [closed, if_neg ne.symm]
    exact (channels x).trans (if_neg ne.symm)
  · exact keepsBut_trans (keepsBut_mono (by simp) (headTaken_keeps rest s)) (keepsBut_trans (keepsBut_mono (by simp) told)
      (keepsBut_trans (keepsBut_mono (by simp) keeps) (keepsBut_trans
      (keepsBut_mono (l := [.claims]) (by simp) (keepsBut_modClaims _ _)) (keepsBut_mono (by simp) (requestClosed_keeps ch _)))))

end

end Sys2Proof.Machine
end

section
namespace Sys2Proof.Machine

-- Declarations are elaborated one at a time: each thread's stack counts against the check's memory limit.
set_option Elab.async false

/-! #### The zones that a running alarm gains (R94) -/

/-- A claim with another target outranks the same claims. -/
theorem outranks_target (cl x : Claim) (zs : ZoneSet) : outranks { cl with target := zs } x = outranks cl x := rfl

/-- One zone gained: it joins the claim's target, and an entry of the claim its list. -/
theorem gainZone_facts {c : ClaimId} {cl : Claim} {z : ZoneId} {t : State} (own : claimAt t c = some cl)
    (room : (listOf t z).length < 4) (absent : entryIn (listOf t z) c = none) :
    (∀ d, claimAt (gainZone c z t) d =
      if c = d then some { cl with target := tset cl.target z true } else claimAt t d) ∧
    (∀ y, listOf (gainZone c z t) y = if z = y then inserted t.claims.table c cl true (listOf t y) else listOf t y) ∧
    (gainZone c z t).claims.queue = t.claims.queue ∧ keepsBut [.claims, .reports, .counters] t (gainZone c z t) := by
  generalize joined : modClaim c (fun x => { x with target := tset x.target z true }) t = v
  have table : ∀ d, claimAt v d = if c = d then some { cl with target := tset cl.target z true } else claimAt t d :=
    fun d => by
      rw [← joined, claimAt_modClaim]
      split
      · next same => rw [← same, own]; rfl
      · rfl
  have lists : ∀ y, listOf v y = listOf t y := fun y => by rw [← joined]; rfl
  have own' : claimAt v c = some { cl with target := tset cl.target z true } := by rw [table, if_pos rfl]
  have same : inserted v.claims.table c { cl with target := tset cl.target z true } true (listOf v z) =
      inserted t.claims.table c cl true (listOf t z) := by
    rw [lists]
    refine inserted_congr (fun x => outranks_target cl x _) fun e he => ?_
    have other : c ≠ e.claim := fun equal => entryIn_eq_none.mp absent e he equal.symm
    exact (table e.claim).trans (if_neg other)
  have gained : gainZone c z t = listWritten z (inserted t.claims.table c cl true (listOf t z)) v := by
    rw [gainZone, joined, insertEntry_room true own' (by rw [lists]; exact room), same]
  have kept : keepsBut [.claims] t v := by rw [← joined]; exact keepsBut_modClaims _ t
  rw [gained]
  refine ⟨fun d => (claimAt_listWritten _ _ _ d).trans (table d), fun y => ?_, ?_,
    keepsBut_trans (keepsBut_mono (by simp) kept) (listWritten_keeps _ _ v)⟩
  · rw [listOf_listWritten, lists]
    split
    · next here => rw [here]
    · rfl
  · rw [listWritten_claims, ← joined]
    rfl

/-- A running alarm has gained zones, each once. -/
structure Gained (c : ClaimId) (cl : Claim) (zs : List ZoneId) (s u : State) : Prop where
  own : ∃ target : ZoneSet, claimAt u c = some { cl with target := target } ∧
    ∀ z, tget target z = (tget cl.target z || decide (z ∈ zs))
  others : ∀ d, d ≠ c → claimAt u d = claimAt s d
  lists : ∀ z, listOf u z = if z ∈ zs then inserted s.claims.table c cl true (listOf s z) else listOf s z
  queue : u.claims.queue = s.claims.queue
  keeps : keepsBut [.claims, .reports, .counters] s u

theorem gained {c : ClaimId} {cl : Claim} {zs : List ZoneId} {s : State} (once : zs.Nodup)
    (own : claimAt s c = some cl) (room : ∀ z ∈ zs, (listOf s z).length < 4)
    (absent : ∀ z ∈ zs, entryIn (listOf s z) c = none) : Gained c cl zs s (forEach zs (gainZone c) s) := by
  induction zs generalizing s cl with
  | nil => exact ⟨⟨cl.target, own, by simp⟩, fun _ _ => rfl, by simp, rfl, keepsBut_refl _ s⟩
  | cons z zs ih =>
    obtain ⟨new, once⟩ := List.nodup_cons.mp once
    obtain ⟨roomy, rooms⟩ := List.forall_mem_cons.mp room
    obtain ⟨missing, absents⟩ := List.forall_mem_cons.mp absent
    obtain ⟨table, lists, queue, keeps⟩ := gainZone_facts own roomy missing
    have still : ∀ y ∈ zs, listOf (gainZone c z s) y = listOf s y := fun y hy => by
      have other : z ≠ y := fun same => new (same ▸ hy)
      rw [lists, if_neg other]
    obtain ⟨⟨target, own', targets⟩, others, lists', queue', keeps'⟩ := ih (s := gainZone c z s)
      (cl := { cl with target := tset cl.target z true }) once (by rw [table, if_pos rfl])
      (fun y hy => by rw [still y hy]; exact rooms y hy) (fun y hy => by rw [still y hy]; exact absents y hy)
    refine ⟨⟨target, own', fun y => ?_⟩, fun d ne => by rw [forEach_cons, others d ne, table, if_neg ne.symm], fun y => ?_,
      queue'.trans queue, keepsBut_trans keeps keeps'⟩
    · rw [targets y, tget_tset]
      by_cases here : z = y
      · simp [here]
      · simp [here, Ne.symm here]
    · rw [forEach_cons, lists']
      by_cases inside : y ∈ zs
      · have behind : inserted (gainZone c z s).claims.table c { cl with target := tset cl.target z true } true (listOf s y) =
            inserted s.claims.table c cl true (listOf s y) :=
          inserted_congr (fun x => outranks_target cl x _) fun e he => by
            have other : c ≠ e.claim := fun equal => entryIn_eq_none.mp (absents y inside) e he equal.symm
            exact (table e.claim).trans (if_neg other)
        rw [if_pos inside, if_pos (List.mem_cons_of_mem _ inside), still y inside, behind]
      · rw [if_neg inside, lists]
        by_cases here : z = y
        · rw [if_pos here, if_pos (by simp [here])]
        · rw [if_neg here, if_neg (by simp [Ne.symm here, inside])]

section
variable {ch : ChanId} {c : ClaimId} {zs : ZoneSet} {rest : List Request} {s : State} (quiets : quiet s)
  (run : running s = true) (queue : s.claims.queue = .gain ch c zs :: rest) (owed : (channelOf s ch).owed = noZones)
include quiets run queue owed

omit owed in
theorem exec_gain {u : State} (gains : gainZones ch c zs (headTaken rest s) = u) (nothing : (channelOf u ch).owed = noZones) :
    exec .claimRequestTake s = .next (requestClosed ch u) := by
  rw [exec, execClaimRequestTake, settle_of_quiet quiets]
  dsimp only
  rw [if_pos run, takeRequest, queue, ← requestAnswered_of_none nothing, ← gains]
  rfl

/-- A GAIN of a claim that its channel no longer holds is discarded (R94). -/
theorem gain_discarded (gone : (channelOf s ch).claim ≠ some c ∨ claimAt s c = none) :
    ∃ t, exec .claimRequestTake s = .next t ∧
      t.claims = { s.claims with queue := rest } ∧ channelOf t ch = { channelOf s ch with request := .none } ∧
      keepsBut [.claims, .alarm] s t := by
  have nothing : gainZones ch c zs (headTaken rest s) = headTaken rest s := if_neg fun ⟨holds, stands⟩ => by
    rcases gone with other | free
    · exact other holds
    · rw [show claimAt (headTaken rest s) c = none from free] at stands
      cases stands
  exact ⟨_, exec_gain quiets run queue nothing owed, rfl,
    (channelOf_requestClosed (s := headTaken rest s) owed ch).trans (if_pos rfl),
    keepsBut_trans (keepsBut_mono (by simp) (headTaken_keeps rest s)) (keepsBut_mono (by simp) (requestClosed_keeps ch _))⟩

/-- A GAIN of the claim that its channel holds enters it in each zone that it lacks (R94). -/
theorem gain_taken {cl : Claim} (holds : (channelOf s ch).claim = some c) (own : claimAt s c = some cl)
    (room : ∀ z, tget (enabledZones s zs) z = true → entryIn (listOf s z) c = none → (listOf s z).length < 4) :
    ∃ t, exec .claimRequestTake s = .next t ∧ t.claims.queue = rest ∧
      claimAt t c = some { cl with target := (Vector.ofFn fun z : ZoneId =>
        tget cl.target z || (tget (enabledZones s zs) z && (entryIn (listOf s z) c).isNone)) } ∧
      (∀ d, d ≠ c → claimAt t d = claimAt s d) ∧
      (∀ z, listOf t z = if tget (enabledZones s zs) z = true ∧ entryIn (listOf s z) c = none
        then inserted s.claims.table c cl true (listOf s z) else listOf s z) ∧
      channelOf t ch = { channelOf s ch with request := .none } ∧
      keepsBut [.claims, .alarm, .reports, .counters] s t := by
  generalize lacking : (zonesOf (enabledZones s zs)).filter (fun z => (entryIn (listOf s z) c).isNone) = l
  have mem : ∀ z, z ∈ l ↔ tget (enabledZones s zs) z = true ∧ entryIn (listOf s z) c = none := fun z => by
    rw [← lacking, List.mem_filter, mem_zonesOf_iff, Option.isNone_iff_eq_none]
  have once : l.Nodup := by rw [← lacking]; exact (zonesOf_nodup _).filter _
  have gains := gained (s := headTaken rest s) once own (fun z hz => room z ((mem z).mp hz).1 ((mem z).mp hz).2)
    (fun z hz => ((mem z).mp hz).2)
  have walk : gainZones ch c zs (headTaken rest s) = forEach l (gainZone c) (headTaken rest s) := by
    have stands : (channelOf (headTaken rest s) ch).claim = some c ∧ (claimAt (headTaken rest s) c).isSome = true :=
      ⟨holds, by rw [show claimAt (headTaken rest s) c = some cl from own]; rfl⟩
    rw [gainZones, if_pos stands, ← lacking]
    rfl
  generalize forEach l (gainZone c) (headTaken rest s) = u at gains walk
  obtain ⟨⟨target, own', targets⟩, others, lists, taken, keeps⟩ := gains
  have channel : channelOf u ch = channelOf s ch := channelOf_congr (keeps .alarm (by decide)) ch
  have nothing : (channelOf u ch).owed = noZones := by rw [channel]; exact owed
  have whole : target = Vector.ofFn fun z : ZoneId =>
      tget cl.target z || (tget (enabledZones s zs) z && (entryIn (listOf s z) c).isNone) := table_ext fun z => by
    rw [targets, tget_ofFn]
    refine congrArg _ (Bool.eq_iff_iff.mpr ?_)
    rw [decide_eq_true_iff, mem, Bool.and_eq_true, Option.isNone_iff_eq_none]
  refine ⟨_, exec_gain quiets run queue walk nothing, taken, whole ▸ own', others, fun z => ?_, ?_, ?_⟩
  · refine (lists z).trans ?_
    simp only [mem]
    rfl
  · exact (channelOf_requestClosed nothing ch).trans (by rw [if_pos rfl, channel])
  · exact keepsBut_trans (keepsBut_mono (by simp) (headTaken_keeps rest s)) (keepsBut_trans (keepsBut_mono (by simp) keeps)
      (keepsBut_mono (by simp) (requestClosed_keeps ch u)))

end

end Sys2Proof.Machine
end

section
namespace Sys2Proof.Machine

-- Declarations are elaborated one at a time: each thread's stack counts against the check's memory limit.
set_option Elab.async false

/-! ### The start of the RESERVE in service (R103, R113) -/

/-- The entry of a claim that has entered a list without it. -/
theorem entryIn_inserted {T : Vector (Option Claim) 48} {c : ClaimId} {cl : Claim} (live : Bool) {l : List ListEntry}
    (absent : entryIn l c = none) : entryIn (inserted T c cl live l) c = some ⟨c, live, takesFirst T cl l⟩ := by
  have behind : ∀ m : List ListEntry, entryIn m c = none →
      entryIn (insertIn T cl ⟨c, live, false⟩ m) c = some ⟨c, live, false⟩ := fun m => by
    induction m with
    | nil => simp [insertIn, entryIn]
    | cons e es ih =>
      intro none
      have other : (e.claim == c) = false := beq_false_of_ne (entryIn_eq_none.mp none e List.mem_cons_self)
      have rest : entryIn es c = Option.none :=
        entryIn_eq_none.mpr fun f hf => entryIn_eq_none.mp none f (List.mem_cons_of_mem _ hf)
      have passed : entryIn (e :: insertIn T cl ⟨c, live, false⟩ es) c = some ⟨c, live, false⟩ := by
        rw [entryIn, List.find?_cons, other]
        exact ih rest
      rw [insertIn]
      split
      · split
        · simp [entryIn]
        · exact passed
      · exact passed
  cases takes : takesFirst T cl l with
  | true => rw [inserted, if_pos takes]; simp [entryIn]
  | false => rw [inserted, if_neg (by simp [takes])]; exact behind l absent

/-- A claim that leaves a list that it entered behind the first place leaves it as it was. -/
theorem filter_inserted {T : Vector (Option Claim) 48} {c : ClaimId} {cl : Claim} {live : Bool} {l : List ListEntry}
    (absent : entryIn l c = none) (takes : takesFirst T cl l = false) :
    (inserted T c cl live l).filter (fun e => e.claim ≠ c) = l := by
  have placed : inserted T c cl live l = insertIn T cl ⟨c, live, false⟩ l := if_neg (by simp [takes])
  rw [placed]
  clear placed takes
  induction l with
  | nil => simp [insertIn]
  | cons e es ih =>
    have other : e.claim ≠ c := entryIn_eq_none.mp absent e List.mem_cons_self
    have rest : entryIn es c = none :=
      entryIn_eq_none.mpr fun f hf => entryIn_eq_none.mp absent f (List.mem_cons_of_mem _ hf)
    have whole : (e :: es).filter (fun e => e.claim ≠ c) = e :: es := filter_of_entryIn_none absent
    rw [insertIn]
    split
    · split
      · rw [List.filter_cons_of_neg (by simp), whole]
      · rw [List.filter_cons_of_pos (by simpa using other), ih rest]
    · rw [List.filter_cons_of_pos (by simpa using other), ih rest]

/-- The zones in which a claim that has entered lists without it is intact. -/
theorem Entered.intactZones {c : ClaimId} {cl : Claim} {live : Bool} {s t : State} (h : Entered c cl live s t)
    (nowhere : ∀ z, entryIn (listOf s z) c = none) : zonesWhere t c (fun e => e.intact) =
      (zonesOf cl.target).filter fun z => takesFirst s.claims.table cl (listOf s z) := by
  refine sublist_ext (List.nodup_finRange 24) List.filter_sublist
    (List.filter_sublist.trans List.filter_sublist) fun z => ?_
  rw [mem_zonesWhere_iff, List.mem_filter, mem_zonesOf_iff, h.lists]
  by_cases target : tget cl.target z = true
  · rw [if_pos target, entryIn_inserted live (nowhere z)]
    simp [target]
  · rw [if_neg target, nowhere]
    simp [target]

/-- A claim is intact in all its zones when it is so in as many as it has. -/
theorem allIntact_iff {s : State} {c : ClaimId} {cl : Claim}
    (within : ∀ z ∈ zonesWhere s c (fun e => e.intact), z ∈ zonesOf cl.target) :
    allIntact s c cl = true ↔ (zonesWhere s c fun e => e.intact).length = (zonesOf cl.target).length := by
  have part : zonesWhere s c (fun e => e.intact) =
      (zonesOf cl.target).filter fun z => z ∈ zonesWhere s c fun e => e.intact := by
    refine sublist_ext (List.nodup_finRange 24) List.filter_sublist
      (List.filter_sublist.trans List.filter_sublist) fun z => ?_
    rw [List.mem_filter, decide_eq_true_iff]
    exact ⟨fun h => ⟨within z h, h⟩, fun h => h.2⟩
  rw [part, List.length_filter_eq_length_iff, allIntact, List.all_eq_true]
  refine forall_congr' fun z => imp_congr_right fun _ => ?_
  rw [decide_eq_true_iff, mem_zonesWhere_iff]
  cases entryIn (listOf s z) c <;> simp

theorem clearService_keeps (s : State) : keepsBut [.peer] s (clearService s) := keepsBut_modPeer _ s

section
variable {v : InService} {g : GroupId} {rest : List Request} {s : State} (quiets : quiet s) (run : running s = true)
  (held : entriesHeld s) (service : s.peer.service = some v)
  (queue : s.claims.queue = .start (inboundRequest v.reserve g v.slot) :: rest)
include quiets run service queue

theorem exec_inbound {o : Started} {u : State}
    (starts : startClaim (inboundRequest v.reserve g v.slot) (headTaken rest s) = (o, u)) (peer : u.peer = s.peer) :
    exec .claimRequestTake s = .next (answerReserve v o u) := by
  rw [exec_takeStart quiets run queue, starts]
  dsimp only
  rw [answerStart, inboundRequest]
  dsimp only
  rw [peer, service]

/-- A RESERVE that finds no place is answered BUSY (R113). -/
theorem inboundStart_busy (full : freeClaim s = none) : ∃ t, exec .claimRequestTake s = .next t ∧
    t.claims = { s.claims with queue := rest } ∧
    t.peer = { s.peer with service := none } ∧ tget t.slots v.slot = unboundSlot (tget s.slots v.slot) ∧
    (∀ j, j ≠ v.slot → tget t.slots j = tget s.slots j) ∧
    t.ring = (sendAnswer v.reserve.origin v.reserve.tag 1 .busy 0 0 s).ring ∧
    counterOf t .requestsBusy = saturatingSucc (counterOf s .requestsBusy) ∧
    keepsBut [.ring, .slots, .claims, .peer, .counters] s t := by
  have does := exec_inbound quiets run service queue
    (startClaim_noPlace (s := headTaken rest s) (inboundRequest v.reserve g v.slot) full) rfl
  have base : keepsBut [.slots, .claims, .counters] s (rebind .unbound v.slot (count .requestsBusy (headTaken rest s))) :=
    keepsBut_trans (keepsBut_mono (by simp) (headTaken_keeps rest s)) (keepsBut_trans
      (keepsBut_mono (by simp) (count_keeps _ _)) (keepsBut_mono (by simp) (rebind_keeps _ _ _)))
  have sent := sendAnswer_keeps v.reserve.origin v.reserve.tag 1 .busy 0 0
    (rebind .unbound v.slot (count .requestsBusy (headTaken rest s)))
  have counts := sendAnswer_countsBut v.reserve.origin v.reserve.tag 1 .busy 0 0
    (rebind .unbound v.slot (count .requestsBusy (headTaken rest s)))
  have ring := sendAnswer_ring_congr v.reserve.origin v.reserve.tag 1 .busy 0 0 (base .ring (by decide))
    (congrArg Control.mode (base .control (by decide)))
  have slots : ∀ j, tget (rebind .unbound v.slot (count .requestsBusy (headTaken rest s))).slots j =
      if v.slot = j then unboundSlot (tget s.slots j) else tget s.slots j := fun j => tget_rebind .unbound v.slot j _
  have busy : counterOf (rebind .unbound v.slot (count .requestsBusy (headTaken rest s))) .requestsBusy =
      saturatingSucc (counterOf s .requestsBusy) := counterOf_count .requestsBusy (headTaken rest s)
  have claims : (rebind .unbound v.slot (count .requestsBusy (headTaken rest s))).claims =
      { s.claims with queue := rest } := rfl
  change exec .claimRequestTake s = .next (clearService (sendAnswer v.reserve.origin v.reserve.tag 1 .busy 0 0
    (rebind .unbound v.slot (count .requestsBusy (headTaken rest s))))) at does
  generalize rebind .unbound v.slot (count .requestsBusy (headTaken rest s)) = b at *
  generalize sendAnswer v.reserve.origin v.reserve.tag 1 .busy 0 0 b = w at *
  have cleared := clearService_keeps w
  refine ⟨_, does, (sent .claims (by decide)).trans claims, ?_, ?_, fun j ne => ?_, ring,
    (counterOf_of_countsBut counts (by decide)).trans busy, ?_⟩
  · rw [clearService, modPeer_peer, sent .peer (by decide), base .peer (by decide)]
  · rw [cleared .slots (by decide), sent .slots (by decide), slots, if_pos rfl]
  · rw [cleared .slots (by decide), sent .slots (by decide), slots, if_neg ne.symm]
  · exact keepsBut_trans (keepsBut_mono (by simp) base) (keepsBut_trans (keepsBut_mono (by simp) sent)
      (keepsBut_mono (by simp) cleared))

end

end Sys2Proof.Machine
end

section
namespace Sys2Proof.Machine

-- Declarations are elaborated one at a time: each thread's stack counts against the check's memory limit.
set_option Elab.async false

/-! #### The answer to a RESERVE whose claim has been created (R103, R113) -/

/-- The service of a RESERVE ended with an answer, counted INBOUND-SERVED when its claim stands. -/
def reserveClosed (served : Bool) (r : InReserve) (code : AnswerCode) (g n : Nat) (s : State) : State :=
  clearService (if served then count .inboundServed (sendAnswer r.origin r.tag 1 code g n s)
    else sendAnswer r.origin r.tag 1 code g n s)

theorem reserveClosed_facts (served : Bool) (r : InReserve) (code : AnswerCode) (g n : Nat) {s b : State}
    (ring : b.ring = s.ring) (control : b.control = s.control) (peer : b.peer = s.peer) :
    (reserveClosed served r code g n b).peer = { s.peer with service := none } ∧
    (reserveClosed served r code g n b).ring = (sendAnswer r.origin r.tag 1 code g n s).ring ∧
    counterOf (reserveClosed served r code g n b) .inboundServed =
      (if served then saturatingSucc (counterOf b .inboundServed) else counterOf b .inboundServed) ∧
    countsBut (.inboundServed :: sendCounts) b (reserveClosed served r code g n b) ∧
    keepsBut [.ring, .peer, .counters] b (reserveClosed served r code g n b) := by
  have sent := sendAnswer_keeps r.origin r.tag 1 code g n b
  have counts := sendAnswer_countsBut r.origin r.tag 1 code g n b
  have answered := sendAnswer_ring_congr r.origin r.tag 1 code g n ring (congrArg Control.mode control)
  have none : counterOf (sendAnswer r.origin r.tag 1 code g n b) .inboundServed = counterOf b .inboundServed :=
    counterOf_of_countsBut counts (by decide)
  have same : (sendAnswer r.origin r.tag 1 code g n b).peer = s.peer := (sent .peer (by decide)).trans peer
  unfold reserveClosed
  generalize sendAnswer r.origin r.tag 1 code g n b = w at sent counts answered none same
  cases served with
  | false =>
    refine ⟨?_, answered, none, countsBut_mono (by decide) counts,
      keepsBut_trans (keepsBut_mono (by simp) sent) (keepsBut_mono (by simp) (clearService_keeps _))⟩
    rw [if_neg (by decide), clearService, modPeer_peer, same]
  | true =>
    refine ⟨?_, answered, (counterOf_count .inboundServed w).trans (congrArg _ none), ?_, ?_⟩
    · rw [if_pos rfl, clearService, modPeer_peer, count_keeps _ _ .peer (by decide), same]
    · exact countsBut_trans (countsBut_mono (by decide) counts) (count_countsBut (by simp) w)
    · exact keepsBut_trans (keepsBut_mono (by simp) sent) (keepsBut_trans (keepsBut_mono (by simp) (count_keeps _ w))
        (keepsBut_mono (by simp) (clearService_keeps _)))

section
variable {v : InService} {c : ClaimId} {cl : Claim} {s : State} (held : claimAt s c = some cl)
  (within : ∀ z ∈ zonesWhere s c (fun e => e.intact), z ∈ zonesOf cl.target)
include held within

/-- A RESERVE with an intact entry is granted, in whole or in part (R113). -/
theorem answerReserve_served (some_intact : 0 < (zonesWhere s c fun e => e.intact).length) :
    answerReserve v (.created c) s = reserveClosed true v.reserve
      (if (zonesWhere s c fun e => e.intact).length = (zonesOf cl.target).length then .granted else .partialGrant)
      (zonesWhere s c fun e => e.intact).length (zonesOf cl.target).length s := by
  have all := allIntact_iff within
  rw [answerReserve, answerCreated, held, reserveClosed]
  dsimp only
  by_cases whole : allIntact s c cl = true
  · rw [if_pos whole, if_pos (all.mp whole)]
    rfl
  · rw [if_neg whole, if_pos some_intact, if_neg fun h => whole (all.mpr h)]
    rfl

/-- A RESERVE without an intact entry is refused, and its claim ends (R113). -/
theorem answerReserve_refused (none : (zonesWhere s c fun e => e.intact).length = 0)
    (some_zone : (zonesOf cl.target).length ≠ 0) :
    answerReserve v (.created c) s =
      reserveClosed false v.reserve .refused 0 (zonesOf cl.target).length (endClaim .refused c s) := by
  have lost : ¬allIntact s c cl = true := fun h => some_zone ((allIntact_iff within).mp h ▸ none)
  rw [answerReserve, answerCreated, held, reserveClosed]
  dsimp only
  rw [if_neg lost, if_neg (by omega), if_neg (by decide)]

end

theorem tellCreated_peer {c : ClaimId} {cl : Claim} {node tag : Nat} (s : State) (owner : cl.owner = .peer node tag) :
    tellCreated c cl s = s := by rw [tellCreated, owner]

/-- An inbound claim that ends REFUSED sends nothing (R117). -/
theorem endClaim_refused_inbound {c : ClaimId} {cl : Claim} {node tag : Nat} {s : State} (held : claimAt s c = some cl)
    (owner : cl.owner = .peer node tag) :
    (∀ j, tget (endClaim .refused c s).slots j =
      if cl.slot = j then unboundSlot (tget s.slots j) else tget s.slots j) ∧
    keepsBut [.slots, .claims, .reports, .counters] s (endClaim .refused c s) ∧
    counterOf (endClaim .refused c s) .inboundServed = counterOf s .inboundServed := by
  obtain ⟨slots, keeps⟩ := endClaim_inbound_parts .refused held owner
  have ring : (endClaim .refused c s).ring = s.ring :=
    ((originTold_endClaim (reason := .refused) held node tag owner).2 (.inl rfl)).1
  exact ⟨fun j => by rw [slots, tget_rebind]; rfl, keepsBut_of_agree keeps ring,
    counterOf_of_countsBut (endClaim_countsBut .refused c s) (by decide)⟩

/-- The claim of an inbound RESERVE waits for its COMMIT when it has a chime, and commits at once without one (R113). -/
theorem handOnClaim_inbound {c : ClaimId} {cl : Claim} {node tag : Nat} (peers : List PeerRef) (s : State)
    (owner : cl.owner = .peer node tag) : handOnClaim c cl peers s =
      if cl.timer = 0 then commitDue c s else modClaim c (fun x => { x with waiting := true }) s := by
  rw [handOnClaim, owner]

section
variable {v : InService} {g : GroupId} {rest : List Request} {s : State} (quiets : quiet s) (run : running s = true)
  (held : entriesHeld s) (service : s.peer.service = some v)
  (queue : s.claims.queue = .start (inboundRequest v.reserve g v.slot) :: rest) {c : ClaimId}
  (free : freeClaim s = some c)
include quiets run held service queue free

omit quiets run held service queue in
theorem inboundStart_starts : startClaim (inboundRequest v.reserve g v.slot) (headTaken rest s) =
    carryOut c (createdClaim s (inboundRequest v.reserve g v.slot) v.slot)
      (requestPeers s (inboundRequest v.reserve g v.slot)) (headTaken rest s) :=
  startClaim_head rest free (requestSlot_of_some rfl) (peerShort_of_noPeers rfl)

/-- A RESERVE none of whose zones is enabled is refused (R81, R113). -/
theorem inboundStart_noZones
    (nothing : isNoZones (enabledZones s (requestZones s (inboundRequest v.reserve g v.slot))) = true) :
    ∃ t, exec .claimRequestTake s = .next t ∧
      (∀ d, claimAt t d = claimAt s d) ∧ (∀ z, listOf t z = listOf s z) ∧ t.claims.queue = rest ∧
      t.peer = { s.peer with service := none } ∧ tget t.slots v.slot = unboundSlot (tget s.slots v.slot) ∧
      (∀ j, j ≠ v.slot → tget t.slots j = tget s.slots j) ∧
      t.ring = (sendAnswer v.reserve.origin v.reserve.tag 1 .refused 0 0 s).ring ∧ recorded .claimEnd c.val 3 s t ∧
      keepsBut [.ring, .slots, .claims, .peer, .reports, .counters] s t := by
  have plain := plainClaim s v.slot (r := inboundRequest v.reserve g v.slot) fun ch => by simp [inboundRequest]
  generalize created_is : createdClaim s (inboundRequest v.reserve g v.slot) v.slot = cl at plain
  have owner : cl.owner = .peer v.reserve.origin v.reserve.tag := created_is ▸ rfl
  have slot : cl.slot = v.slot := created_is ▸ rfl
  have starts := inboundStart_starts (v := v) (g := g) (rest := rest) free
  rw [created_is, carryOut_noZones _ _ (created_is ▸ nothing)] at starts
  obtain ⟨table, lists, taken⟩ := endCreated_claims (s := headTaken rest s) (cl := cl) held
    (claimAt_freeClaim (s := s) free) .refused
  have made := endCreated_recorded (s := headTaken rest s) (c := c) (cl := cl) (addressed_of_running run)
  have own : claimAt (createClaim c cl (headTaken rest s)) c = some cl := by rw [claimAt_createClaim, if_pos rfl]
  obtain ⟨slots, ended, -⟩ := endClaim_refused_inbound own owner
  have created := createClaim_keeps c cl (headTaken rest s)
  rw [tellCreated_peer _ owner] at created
  have base := keepsBut_trans (keepsBut_mono (m := [.slots, .claims, .reports, .counters]) (by simp)
    (headTaken_keeps rest s)) (keepsBut_trans (keepsBut_mono (by simp) created) ended)
  have bslots : (createClaim c cl (headTaken rest s)).slots = s.slots := created .slots (by decide)
  generalize createClaim c cl (headTaken rest s) = b at *
  generalize endClaim .refused c b = u at *
  have does : exec .claimRequestTake s = .next (reserveClosed false v.reserve .refused 0 0 u) :=
    exec_inbound quiets run service queue starts (base .peer (by decide))
  obtain ⟨peer, ring, -, -, closed⟩ := reserveClosed_facts false v.reserve .refused 0 0
    (base .ring (by decide)) (base .control (by decide)) (base .peer (by decide))
  have claims : (reserveClosed false v.reserve .refused 0 0 u).claims = u.claims := closed .claims (by decide)
  have slotted : ∀ j, tget (reserveClosed false v.reserve .refused 0 0 u).slots j =
      if v.slot = j then unboundSlot (tget s.slots j) else tget s.slots j := fun j => by
    rw [closed .slots (by decide), slots, slot, bslots]
  refine ⟨_, does, fun d => by rw [claimAt, claims]; exact table d, fun z => by rw [listOf, claims]; exact lists z,
    by rw [claims]; exact taken, peer,
    (slotted v.slot).trans (if_pos rfl), fun j ne => (slotted j).trans (if_neg ne.symm), ring, ?_, ?_⟩
  · rw [recorded, closed .reports (by decide)]
    exact made
  · exact keepsBut_trans (keepsBut_mono (by simp) base) (keepsBut_mono (by simp) closed)

end

end Sys2Proof.Machine
end

section
namespace Sys2Proof.Machine

-- Declarations are elaborated one at a time: each thread's stack counts against the check's memory limit.
set_option Elab.async false

/-! #### The RESERVE whose claim waits for its COMMIT, or is LIVE at once (R90, R103, R113) -/

theorem modClaim_keeps (c : ClaimId) (f : Claim → Claim) (s : State) : keepsBut [.claims] s (modClaim c f s) :=
  keepsBut_modClaims _ s

/-- The claim of an inbound RESERVE has entered the lists of its target and waits for its COMMIT. -/
structure InboundWaits (c : ClaimId) (cl : Claim) (s u : State) : Prop where
  own : claimAt u c = some { cl with waiting := true }
  others : ∀ d, d ≠ c → claimAt u d = claimAt s d
  lists : ∀ z, listOf u z = if tget cl.target z = true then inserted s.claims.table c cl false (listOf s z) else listOf s z
  queue : u.claims.queue = s.claims.queue
  started : counterOf u .claimsStarted = saturatingSucc (counterOf s .claimsStarted)
  counts : countsBut (.claimsStarted :: reportCounts) s u
  keeps : keepsBut [.claims, .reports, .counters] s u
  intact : zonesWhere u c (fun e => e.intact) =
    (zonesOf cl.target).filter fun z => takesFirst s.claims.table cl (listOf s z)

theorem carryOut_inboundWaits {c : ClaimId} {cl : Claim} {peers : List PeerRef} {s : State} {node tag : Nat}
    (owner : cl.owner = .peer node tag) (chime : cl.chime = true) (length : 0 < cl.timer)
    (zones : isNoZones cl.target = false) (held : entriesHeld s) (free : claimAt s c = none)
    (room : ∀ z, tget cl.target z = true → (listOf s z).length < 4) :
    ∃ u, carryOut c cl peers s = (.created c, u) ∧ InboundWaits c cl s u := by
  have entered := entered_of_room (!cl.chime) held free room
  have intact := entered.intactZones (entryIn_of_free held free)
  have hands := handOnClaim_inbound (c := c) peers
    (forEach (zonesOf cl.target) (insertEntry c !cl.chime) (createClaim c cl s)) owner
  rw [if_neg (by omega)] at hands
  have keeps := entered.keeps
  rw [tellCreated_peer s owner] at keeps
  generalize at_t : forEach (zonesOf cl.target) (insertEntry c !cl.chime) (createClaim c cl s) = t at entered hands keeps intact
  have own : claimAt (modClaim c (fun x => { x with waiting := true }) t) c = some { cl with waiting := true } := by
    rw [claimAt_modClaim, if_pos rfl, entered.own]
    rfl
  have lists := entered.lists
  rw [chime] at lists
  refine ⟨_, carryOut_created zones held free room (by rw [at_t]; exact hands) (by rw [own]; rfl), own, fun d ne => ?_,
    lists, entered.queue, entered.started, entered.counts, keepsBut_trans keeps
      (keepsBut_mono (by simp) (modClaim_keeps c _ t)), intact⟩
  rw [claimAt_modClaim, if_neg ne.symm, entered.others d ne]

section
variable {c : ClaimId} {cl : Claim} {s u : State} (h : InboundWaits c cl s u) (held : entriesHeld s)
  (free : claimAt s c = none)
include h

theorem InboundWaits.within : ∀ z ∈ zonesWhere u c (fun e => e.intact), z ∈ zonesOf cl.target := fun z hz => by
  rw [h.intact] at hz
  exact List.mem_of_mem_filter hz

include held free

/-- A claim that is intact nowhere leaves nothing of its own behind when it ends. -/
theorem InboundWaits.ended (nowhere : zonesWhere u c (fun e => e.intact) = []) :
    (∀ d, claimAt (endClaim .refused c u) d = claimAt s d) ∧ (∀ z, listOf (endClaim .refused c u) z = listOf s z) ∧
      (endClaim .refused c u).claims.queue = s.claims.queue := by
  obtain ⟨gone, others, lists⟩ := claimGone_endClaim (reason := .refused) h.own
  refine ⟨fun d => ?_, fun z => ?_, ?_⟩
  · by_cases same : d = c
    · rw [same, gone, free]
    · rw [others d same, h.others d same]
  · have absent := entryIn_of_free held free z
    rw [lists, h.lists]
    split
    · next target =>
      rw [h.intact, List.filter_eq_nil_iff] at nowhere
      exact filter_inserted absent (Bool.eq_false_iff.mpr (nowhere z (mem_zonesOf_iff.mpr target)))
    · exact filter_of_entryIn_none absent
  · rw [endClaim_claims_frame (reason := .refused) h.own]
    exact h.queue

end

end Sys2Proof.Machine
end

section
namespace Sys2Proof.Machine

-- Declarations are elaborated one at a time: each thread's stack counts against the check's memory limit.
set_option Elab.async false

/-! #### The answers to a RESERVE whose claim has zones (R103, R113) -/

/-- A claim whose target is not empty has a zone. -/
theorem isNoZones_eq_false {zs : ZoneSet} (some_zone : zonesOf zs ≠ []) : isNoZones zs = false := by
  rw [isNoZones, List.isEmpty_eq_false_iff]
  exact some_zone

theorem length_pos_of_isNoZones {zs : ZoneSet} (zones : isNoZones zs = false) : 0 < (zonesOf zs).length :=
  List.length_pos_iff.mpr (List.isEmpty_eq_false_iff.mp zones)

/-- A claim that has begun alone is intact in every zone of its target. -/
theorem Begun.intactZones {also : List Counter} {c : ClaimId} {cl now : Claim} {live : Bool} {gen : ChimeGen} {s u : State}
    (h : Begun also c cl now live gen s u) (nowhere : ∀ z, entryIn (listOf s z) c = none) :
    zonesWhere u c (fun e => e.intact) = zonesOf cl.target := by
  refine sublist_ext (List.nodup_finRange 24) List.filter_sublist List.filter_sublist fun z => ?_
  rw [mem_zonesWhere_iff, mem_zonesOf_iff, h.lists]
  by_cases target : tget cl.target z = true
  · simp [target, entryIn]
  · rw [if_neg target, nowhere]
    simp [target]

section
variable {v : InService} {g : GroupId} {rest : List Request} {s : State} (quiets : quiet s) (run : running s = true)
  (held : entriesHeld s) (service : s.peer.service = some v)
  (queue : s.claims.queue = .start (inboundRequest v.reserve g v.slot) :: rest) {c : ClaimId}
  (free : freeClaim s = some c)
include held free

/-- The start of a RESERVE with a chime, before its answer. -/
theorem inboundStart_waits (some_zone : zonesOf (enabledZones s (requestZones s (inboundRequest v.reserve g v.slot))) ≠ [])
    (chime : v.reserve.chime = true) (length : 0 < chimeLength s.claims.chimeTable)
    (room : ∀ z ∈ zonesOf (enabledZones s (requestZones s (inboundRequest v.reserve g v.slot))), (listOf s z).length < 4) :
    ∃ u, startClaim (inboundRequest v.reserve g v.slot) (headTaken rest s) = (.created c, u) ∧
      InboundWaits c (createdClaim s (inboundRequest v.reserve g v.slot) v.slot) (headTaken rest s) u := by
  have plain := plainClaim s v.slot (r := inboundRequest v.reserve g v.slot) fun ch => by simp [inboundRequest]
  have chimes : (createdClaim s (inboundRequest v.reserve g v.slot) v.slot).chime = true := plain.chime.trans chime
  have timer : 0 < (createdClaim s (inboundRequest v.reserve g v.slot) v.slot).timer := by
    rw [plain.timer, if_pos (show (inboundRequest v.reserve g v.slot).chime = true from chime)]
    exact length
  obtain ⟨u, carries, waits⟩ := carryOut_inboundWaits (c := c) (s := headTaken rest s)
    (peers := requestPeers s (inboundRequest v.reserve g v.slot)) plain.owner chimes timer
    (by rw [plain.target]; exact isNoZones_eq_false some_zone) held (claimAt_freeClaim (s := s) free)
    (fun z target => room z (mem_zonesOf_iff.mpr (plain.target ▸ target)))
  exact ⟨u, (inboundStart_starts free).trans carries, waits⟩

include quiets run service queue

section
variable (some_zone : zonesOf (enabledZones s (requestZones s (inboundRequest v.reserve g v.slot))) ≠ [])
  (chime : v.reserve.chime = true) (length : 0 < chimeLength s.claims.chimeTable)
  (room : ∀ z ∈ zonesOf (enabledZones s (requestZones s (inboundRequest v.reserve g v.slot))), (listOf s z).length < 4)
  {target : List ZoneId} (zones : target = zonesOf (enabledZones s (requestZones s (inboundRequest v.reserve g v.slot))))
  {intact : Nat} (first : (target.filter fun z =>
    takesFirst s.claims.table (createdClaim s (inboundRequest v.reserve g v.slot) v.slot) (listOf s z)).length = intact)
include some_zone chime length room zones first

/-- A RESERVE that is intact in a zone is granted, in whole or in part, and its claim waits for its COMMIT (R113). -/
theorem inboundStart_granted (some_intact : 0 < intact) : ∃ t, exec .claimRequestTake s = .next t ∧
    (∀ d, d ≠ c → claimAt t d = claimAt s d) ∧ t.claims.queue = rest ∧ t.peer = { s.peer with service := none } ∧
    counterOf t .claimsStarted = saturatingSucc (counterOf s .claimsStarted) ∧
    claimAt t c = some { createdClaim s (inboundRequest v.reserve g v.slot) v.slot with waiting := true } ∧
    (∀ z, listOf t z = if z ∈ target
      then inserted s.claims.table c (createdClaim s (inboundRequest v.reserve g v.slot) v.slot) false (listOf s z)
      else listOf s z) ∧
    t.ring = (sendAnswer v.reserve.origin v.reserve.tag 1 (if intact = target.length then .granted
      else .partialGrant) intact target.length s).ring ∧
    counterOf t .inboundServed = saturatingSucc (counterOf s .inboundServed) ∧
    keepsBut [.ring, .claims, .peer, .reports, .counters] s t := by
  have aim : (createdClaim s (inboundRequest v.reserve g v.slot) v.slot).target = _ :=
    (plainClaim s v.slot (r := inboundRequest v.reserve g v.slot) fun ch => by simp [inboundRequest]).target
  obtain ⟨u, starts, waits⟩ := inboundStart_waits (rest := rest) held free some_zone chime length room
  generalize createdClaim s (inboundRequest v.reserve g v.slot) v.slot = cl at *
  have all : zonesOf cl.target = target := by rw [aim, zones]
  have here : (zonesWhere u c fun e => e.intact).length = intact := by
    rw [waits.intact, all]
    exact first
  have base : keepsBut [.claims, .reports, .counters] s u :=
    keepsBut_trans (keepsBut_mono (by simp) (headTaken_keeps rest s)) waits.keeps
  have does := exec_inbound quiets run service queue starts (base .peer (by decide))
  have answers := answerReserve_served (v := v) waits.own waits.within (by rw [here]; exact some_intact)
  dsimp only at answers
  rw [here, all] at answers
  rw [answers] at does
  obtain ⟨peer, ring, served, counts, closed⟩ := reserveClosed_facts true v.reserve
    (if intact = target.length then .granted else .partialGrant) intact target.length
    (base .ring (by decide)) (base .control (by decide)) (base .peer (by decide))
  generalize reserveClosed true v.reserve _ _ _ u = t at *
  have claims : t.claims = u.claims := closed .claims (by decide)
  have still : counterOf u .inboundServed = counterOf s .inboundServed := counterOf_of_countsBut waits.counts (by decide)
  refine ⟨t, does, fun d ne => by rw [claimAt, claims]; exact waits.others d ne, by rw [claims]; exact waits.queue, peer,
    (counterOf_of_countsBut counts (by decide)).trans waits.started, by rw [claimAt, claims]; exact waits.own, fun z => ?_,
    ring, by rw [served, if_pos rfl, still], keepsBut_trans (keepsBut_mono (by simp) base)
      (keepsBut_mono (by simp) closed)⟩
  rw [listOf, claims, ← all]
  simp only [mem_zonesOf_iff]
  exact waits.lists z

/-- A RESERVE that is intact nowhere is refused, and its claim ends (R113). -/
theorem inboundStart_refused (nowhere : intact = 0) : ∃ t, exec .claimRequestTake s = .next t ∧
    (∀ d, claimAt t d = claimAt s d) ∧ t.claims.queue = rest ∧ t.peer = { s.peer with service := none } ∧
    counterOf t .claimsStarted = saturatingSucc (counterOf s .claimsStarted) ∧
    (∀ z, listOf t z = listOf s z) ∧
    tget t.slots v.slot = unboundSlot (tget s.slots v.slot) ∧
    (∀ j, j ≠ v.slot → tget t.slots j = tget s.slots j) ∧
    t.ring = (sendAnswer v.reserve.origin v.reserve.tag 1 .refused 0 target.length s).ring ∧
    recorded .claimEnd c.val 3 s t ∧ counterOf t .inboundServed = counterOf s .inboundServed ∧
    keepsBut [.ring, .slots, .claims, .peer, .reports, .counters] s t := by
  have aim : (createdClaim s (inboundRequest v.reserve g v.slot) v.slot).target = _ :=
    (plainClaim s v.slot (r := inboundRequest v.reserve g v.slot) fun ch => by simp [inboundRequest]).target
  have owner : (createdClaim s (inboundRequest v.reserve g v.slot) v.slot).owner = .peer v.reserve.origin v.reserve.tag := rfl
  have slot : (createdClaim s (inboundRequest v.reserve g v.slot) v.slot).slot = v.slot := rfl
  obtain ⟨u, starts, waits⟩ := inboundStart_waits (rest := rest) held free some_zone chime length room
  generalize createdClaim s (inboundRequest v.reserve g v.slot) v.slot = cl at *
  have all : zonesOf cl.target = target := by rw [aim, zones]
  have here : zonesWhere u c (fun e => e.intact) = [] := by
    rw [waits.intact, all]
    exact List.length_eq_zero_iff.mp (first.trans nowhere)
  have base : keepsBut [.claims, .reports, .counters] s u :=
    keepsBut_trans (keepsBut_mono (by simp) (headTaken_keeps rest s)) waits.keeps
  have does := exec_inbound quiets run service queue starts (base .peer (by decide))
  have answers := answerReserve_refused (v := v) waits.own waits.within (by rw [here]; rfl)
    (fun none => some_zone (zones ▸ all ▸ List.length_eq_zero_iff.mp none))
  dsimp only at answers
  rw [all] at answers
  rw [answers] at does
  obtain ⟨table, lists, taken⟩ := waits.ended held (claimAt_freeClaim (s := s) free) here
  obtain ⟨slots, ended, inbound⟩ := endClaim_refused_inbound waits.own owner
  have made := recorded_endClaim (reason := .refused) waits.own (by decide)
    (by rw [base .control (by decide)]; exact addressed_of_running run)
  have begun : counterOf (endClaim .refused c u) .claimsStarted = counterOf u .claimsStarted :=
    counterOf_of_countsBut (endClaim_countsBut .refused c u) (by decide)
  have still : counterOf u .inboundServed = counterOf s .inboundServed := counterOf_of_countsBut waits.counts (by decide)
  have uslots : u.slots = s.slots := base .slots (by decide)
  rw [recorded, base .ring (by decide)] at made
  have base := keepsBut_trans (keepsBut_mono (by simp) base) ended
  generalize endClaim .refused c u = w at *
  obtain ⟨peer, ring, served, counts, closed⟩ := reserveClosed_facts false v.reserve .refused 0 target.length
    (base .ring (by decide)) (base .control (by decide)) (base .peer (by decide))
  generalize reserveClosed false v.reserve _ _ _ w = t at *
  have claims : t.claims = w.claims := closed .claims (by decide)
  have slotted : ∀ j, tget t.slots j = if v.slot = j then unboundSlot (tget s.slots j) else tget s.slots j := fun j => by
    rw [closed .slots (by decide), slots, uslots]
    exact congrArg (fun i => if i = j then unboundSlot (tget s.slots j) else tget s.slots j) slot
  refine ⟨t, does, fun d => by rw [claimAt, claims]; exact table d, by rw [claims]; exact taken, peer,
    (counterOf_of_countsBut counts (by decide)).trans (begun.trans waits.started),
    fun z => by rw [listOf, claims]; exact lists z, (slotted v.slot).trans (if_pos rfl),
    fun j ne => (slotted j).trans (if_neg ne.symm), ring, ?_, ?_,
    keepsBut_trans (keepsBut_mono (by simp) base) (keepsBut_mono (by simp) closed)⟩
  · rw [recorded, closed .reports (by decide)]
    exact made
  · rw [served, if_neg (by decide), inbound, still]

end

/-- A RESERVE without a chime is LIVE at once, and granted (R90, R113). -/
theorem inboundStart_live (zones : isNoZones (enabledZones s (requestZones s (inboundRequest v.reserve g v.slot))) = false)
    (silent : v.reserve.chime = false) (player : playerOfSlot v.slot = none)
    (empty : ∀ z, tget (enabledZones s (requestZones s (inboundRequest v.reserve g v.slot))) z = true → listOf s z = [])
    (alone : entriesOf s c (fun _ => true) = []) : ∃ t, exec .claimRequestTake s = .next t ∧
    claimAt t c = some { createdClaim s (inboundRequest v.reserve g v.slot) v.slot with state := .live } ∧
    (∀ d, d ≠ c → claimAt t d = claimAt s d) ∧
    (∀ z, listOf t z = if tget (enabledZones s (requestZones s (inboundRequest v.reserve g v.slot))) z = true
      then [⟨c, true, true⟩] else listOf s z) ∧ t.claims.queue = rest ∧ t.peer = { s.peer with service := none } ∧
    t.ring = (sendAnswer v.reserve.origin v.reserve.tag 1 .granted
      (zonesOf (enabledZones s (requestZones s (inboundRequest v.reserve g v.slot)))).length
      (zonesOf (enabledZones s (requestZones s (inboundRequest v.reserve g v.slot)))).length s).ring ∧
    counterOf t .commitsDone = saturatingSucc (counterOf s .commitsDone) ∧
    counterOf t .inboundServed = saturatingSucc (counterOf s .inboundServed) ∧
    keepsBut [.ring, .claims, .peer, .reports, .counters] s t := by
  have plain := plainClaim s v.slot (r := inboundRequest v.reserve g v.slot) fun ch => by simp [inboundRequest]
  have timer : (createdClaim s (inboundRequest v.reserve g v.slot) v.slot).timer = 0 :=
    plain.timer.trans (if_neg (Bool.eq_false_iff.mp silent))
  obtain ⟨u, carries, begun, done⟩ := carryOut_live (c := c) (s := headTaken rest s)
    (peers := requestPeers s (inboundRequest v.reserve g v.slot)) (by rw [plain.target]; exact zones) held
    (claimAt_freeClaim (s := s) free) (fun z target => empty z (plain.target ▸ target)) plain.handed plain.lost
    (plain.noPeers.trans (peerShort_of_noPeers rfl)) (by rw [plain.slot]; exact player) alone timer
    (fun t => (handOnClaim_inbound _ t plain.owner).trans (if_pos timer))
  have starts := (inboundStart_starts (v := v) (g := g) (rest := rest) free).trans carries
  have told := begun.keeps
  rw [tellCreated_peer _ plain.owner] at told
  have base : keepsBut [.claims, .reports, .counters] s u :=
    keepsBut_trans (keepsBut_mono (by simp) (headTaken_keeps rest s)) told
  have lists := begun.lists
  have target := plain.target
  have intact := begun.intactZones (entryIn_of_free held (claimAt_freeClaim (s := s) free))
  generalize createdClaim s (inboundRequest v.reserve g v.slot) v.slot = cl at begun lists target intact
  have does := exec_inbound quiets run service queue starts (base .peer (by decide))
  have answers := answerReserve_served (v := v) begun.own (fun z hz => by rw [intact] at hz; exact hz)
    (by rw [intact, target]; exact length_pos_of_isNoZones zones)
  dsimp only at answers
  rw [intact, if_pos rfl, target] at answers
  rw [answers] at does
  rw [target] at lists
  generalize (zonesOf (enabledZones s (requestZones s (inboundRequest v.reserve g v.slot)))).length = n at does ⊢
  obtain ⟨peer, ring, served, counts, closed⟩ := reserveClosed_facts true v.reserve .granted n n
    (base .ring (by decide)) (base .control (by decide)) (base .peer (by decide))
  generalize reserveClosed true v.reserve .granted n n u = t at does peer ring served counts closed
  have claims : t.claims = u.claims := closed .claims (by decide)
  have still : counterOf u .inboundServed = counterOf s .inboundServed := counterOf_of_countsBut begun.counts (by decide)
  exact ⟨t, does, by rw [claimAt, claims]; exact begun.own, fun d ne => by rw [claimAt, claims]; exact begun.others d ne,
    fun z => by rw [listOf, claims]; exact lists z, by rw [claims]; exact begun.queue, peer, ring,
    (counterOf_of_countsBut counts (by decide)).trans done, by rw [served, if_pos rfl, still],
    keepsBut_trans (keepsBut_mono (by simp) base) (keepsBut_mono (by simp) closed)⟩

end

end Sys2Proof.Machine
end

section
namespace Sys2Proof.Machine

-- Declarations are elaborated one at a time: each thread's stack counts against the check's memory limit.
set_option Elab.async false

/-! ### The start of a claim, whoever asks for it -/

/-- Settles O28: each start is what the claim unit makes of the head of its queue, and the answer to it its owner's. -/
theorem claimStarts : Obligations.ClaimStarts := by
  unfold Obligations.ClaimStarts
  refine ⟨fun s quiets queue => exec_takeNone quiets queue, ?management, ?room, ?peers, ?page, ?alarm, ?inbound, ?gain⟩
  case management =>
    intro r rest i s quiets run held queue owner slot player noPeers
    refine ⟨fun full => managementStart_busy quiets run queue owner slot player full, fun c free nothing alone => ?_,
      fun c free zones empty alone => ⟨fun chime length => ?_, fun silent => ?_⟩⟩
    · exact management_noZones quiets run held queue owner player free
        (startClaim_head rest free (requestSlot_of_some slot) (peerShort_of_noPeers noPeers)) nothing alone
    · have plain := plainClaim s i (r := r) fun ch => by rw [owner]; simp
      obtain ⟨t, does, begun, started, counts⟩ :=
        managementStart_chimes quiets run held queue owner slot player free zones empty noPeers chime length
      exact ⟨t, does, begun.own, plain.state, plain.timer.trans (if_pos chime), begun.others, begun.lists, begun.queue,
        begun.gen, begun.answered, started, counts, begun.keeps⟩
    · obtain ⟨t, does, begun, done, counts⟩ :=
        managementStart_live quiets run held queue owner slot player free zones empty noPeers silent alone
      exact ⟨t, does, begun.own, begun.others, begun.lists, begun.queue, begun.gen, begun.answered, done, counts,
        begun.keeps⟩
  case room =>
    exact fun i n s => ⟨enoughPeers_iff i n s, fun o b q bound => handOn_ring bound,
      fun other k free lowest => handOn_channel other free lowest⟩
  case peers =>
    intro r rest i c s quiets run held queue owner slot player free some_peer
    have short : enoughPeers s (requestPeers s r).length (some i) = false → peerShort s r = true := fun few => by
      rw [peerShort_iff slot some_peer, few]
      rfl
    refine ⟨fun few policy => managementStart_short_all quiets run queue owner slot player free (short few) policy,
      fun zones empty alone => ⟨fun few policy chime length => ?_, fun enough waits => ?_⟩⟩
    · have plain := plainClaim s i (r := r) fun ch => by rw [owner]; simp
      obtain ⟨t, does, begun, counted⟩ := managementStart_short_best quiets run held queue owner slot player free zones
        empty (short few) policy chime length
      exact ⟨t, does, begun.own, plain.noPeers.trans (short few), plain.handed, begun.lists, begun.answered, counted,
        begun.keeps⟩
    · exact managementStart_handed quiets run held queue owner slot player free zones empty some_peer alone enough waits
  case page =>
    intro r rest st k latch s quiets run held queue owner slot page noPeers
    refine ⟨fun full => pageStart_busy quiets run queue owner slot page full, fun c i free channel alone =>
      ⟨fun nothing => pageStart_noZones quiets run held queue owner slot page noPeers free channel nothing,
      fun zones empty => ?_⟩⟩
    have silent_iff : r.chime = false ∨ chimeLength s.claims.chimeTable = 0 ↔
        ¬(r.chime = true ∧ 0 < chimeLength s.claims.chimeTable) := by
      rw [not_and_or, Bool.not_eq_true, Nat.not_lt, Nat.le_zero]
    by_cases chimes : r.chime = true ∧ 0 < chimeLength s.claims.chimeTable
    · obtain ⟨t, does, begun, own, lists, gen, counts⟩ := pageStart_chimes quiets run held queue owner slot page noPeers
        free channel zones empty chimes.1 chimes.2
      exact ⟨t, does, begun.others, begun.queue, begun.slot, begun.slots, begun.page, begun.stations, begun.calls,
        fun _ _ => ⟨own, lists, gen, counts, begun.keeps⟩,
        fun silent => absurd chimes (silent_iff.mp silent),
        begun.started, begun.keeps⟩
    · obtain ⟨t, does, begun, own, lists, gen, done, counts⟩ := pageStart_live quiets run held queue owner slot page
        noPeers free channel zones empty alone (silent_iff.mpr chimes)
      exact ⟨t, does, begun.others, begun.queue, begun.slot, begun.slots, begun.page, begun.stations, begun.calls,
        fun chime length => absurd ⟨chime, length⟩ chimes, fun _ => ⟨own, lists, gen, done, counts⟩, begun.started,
        begun.keeps⟩
  case alarm =>
    intro r rest ch i s quiets run held queue owner slot claimless owed
    exact ⟨fun full => alarmStart_busy quiets run queue owner claimless owed full, fun c free =>
      ⟨fun nothing => alarmStart_noZones quiets run held queue owner slot claimless owed free nothing,
      fun zones room => alarmStart_live quiets run held queue owner slot owed free zones room⟩⟩
  case inbound =>
    intro r rest v g s quiets run held service same queue
    subst same
    refine ⟨fun full => inboundStart_busy quiets run service queue full, fun c free =>
      ⟨fun nothing => inboundStart_noZones quiets run held service queue free nothing,
      fun target intact zones some_zone first chime length room => ?_, fun zones silent player empty alone =>
      inboundStart_live quiets run held service queue free zones silent player empty alone⟩⟩
    have some_zone := zones ▸ some_zone
    by_cases nowhere : intact = 0
    · obtain ⟨t, does, table, taken, peer, started, refused⟩ :=
        inboundStart_refused quiets run held service queue free some_zone chime length
          (zones ▸ room) zones first nowhere
      exact ⟨t, does, fun d _ => table d, taken, peer, started, fun some_intact => absurd nowhere some_intact.ne',
        fun _ => ⟨(table c).trans (claimAt_freeClaim free), refused⟩⟩
    · obtain ⟨t, does, others, taken, peer, started, granted⟩ :=
        inboundStart_granted quiets run held service queue free some_zone chime length
          (zones ▸ room) zones first (Nat.pos_of_ne_zero nowhere)
      exact ⟨t, does, others, taken, peer, started, fun _ => granted, fun none => absurd none nowhere⟩
  case gain =>
    exact fun ch c zs rest s quiets run queue owed =>
      ⟨fun gone => gain_discarded quiets run queue owed gone,
      fun cl holds own room => gain_taken quiets run queue owed holds own room⟩

end Sys2Proof.Machine
end
